-- ==== Sys2Proof/Word.lean ====
section
/-! DEFINITION. The plain types of the LC-16 model: bytes, characters, line and station numbers, moments of time,
saturating counts, and fixed-length tables that the kernel can evaluate. -/

namespace Sys2Proof

/-- One byte of a frame payload or of the configuration store. -/
abbrev Byte := BitVec 8

/-- A character on a line is 7-bit (Introduction 6.3). -/
abbrev Char7 := BitVec 7

/-- Lines are numbered 0 to 15 within a station (Introduction 6.1). -/
abbrev LineNo := Fin 16

/-- Stations are numbered 0 to 15 (Introduction 6.1). -/
abbrev Station := Fin 16

/-- A moment on the LC-16's own clock, in milliseconds (R1 times every change to the millisecond). -/
abbrev Moment := Nat

/-- The sixteen line numbers in ascending order. -/
def allLines : List LineNo := [0, 1, 2, 3, 4, 5, 6, 7, 8, 9, 10, 11, 12, 13, 14, 15]

/-- A 16-bit saturating count after one more rise (Introduction 6.5). -/
def sat16 (n : Nat) : Nat := if n < 65535 then n + 1 else 65535

/-- A saturating count with the given top after one more rise (Introduction 6.5). -/
def satTo (top n : Nat) : Nat := if n < top then n + 1 else top

/-- The table of `n` entries whose entry at `i` is `f i`. -/
def tabulate {α : Type} (n : Nat) (f : Fin n → α) : Vector α n :=
  ⟨⟨(List.finRange n).map f⟩, by simp⟩

/-- A table with each entry replaced by a function of its index and its old value. -/
def mapTable {α β : Type} {n : Nat} (v : Vector α n) (f : Fin n → α → β) : Vector β n :=
  tabulate n fun i => f i v[i]

end Sys2Proof
end

