-- ==== Sys2Proof/Syntax.lean ====
section
/-! DEFINITION. The commands the LC-16 takes: one constructor for each row of the table of operations and events. Every
command carries the moment `t`, in milliseconds on the LC-16's own clock, at which its event happens. -/

namespace Sys2Proof

/-- The fields of a frame as they stand on the wire (Table 11-1), less the start bit and the echo slot. -/
structure RawFrame where
  level : BitVec 3
  kind : BitVec 5
  source : BitVec 4
  dest : BitVec 5
  length : BitVec 5
  payload : List Byte
  crc : BitVec 16
deriving DecidableEq, Repr

/-- The payload of a BEACON heard from another station (Table 11-3). -/
structure BeaconPayload where
  roles : Byte
  freshStart : Byte
  configClamped : Byte
  clash : Byte
  sessions : Byte
  signOns : Byte
  freeLines : Byte
  freeSlots : Byte
  /-- bits 14 to 12 alarm level; bits 11 to 0 ceiling -/
  levelCeiling : BitVec 16
deriving DecidableEq, Repr

/-- The payload of a CLAIM heard from another station (Table 11-3). -/
structure ClaimPayload where
  line : Byte
  /-- bits 1 to 0 claim kind; bit 7 provisional -/
  kind : Byte
  /-- six BCD digits -/
  user : BitVec 24
  serial : BitVec 16
  channel : Byte
deriving DecidableEq, Repr

/-- The payload of a RELEASE heard from another station (Table 11-3). -/
structure ReleasePayload where
  line : Byte
  user : BitVec 24
  serial : BitVec 16
  reason : Byte
deriving DecidableEq, Repr

/-- The payload of an ADMIT-REPLY (Table 11-3). -/
structure ReplyPayload where
  line : Byte
  serial : BitVec 8
  verdict : Byte
  cls : Byte
  limit : Byte
  table : Byte
  channel : Byte
  allowance : BitVec 16
deriving DecidableEq, Repr

/-- The LC-16's read of the configuration store over the I2C interface, as the interface went (R168). -/
structure StoreRead where
  /-- The store acknowledged its device address. -/
  addressAck : Bool
  /-- For each other byte the LC-16 sent, whether the store acknowledged it. -/
  byteAcks : List Bool
  /-- For how long, in microseconds, the store held the clock line low, each time it did. -/
  clockLow : List Nat
  /-- The bytes the store gave, from the first of the image on. -/
  image : List Byte
deriving DecidableEq, Repr

/-- The commands. `t` is the moment of the event; `n` a line; `src` the source station of a frame heard. -/
inductive Instr where
  /-- POWER_UP_RESET (R166) -/
  | powerUpReset (t : Moment)
  /-- START_OTHER_BLOCKS (R166): the straps as read, and the read of the store as the interface went -/
  | startOtherBlocks (t : Moment) (straps : BitVec 4) (store : StoreRead)
  /-- RESTART_PIN_ASSERTED (R170) -/
  | restartPinAsserted (t : Moment)
  /-- RESTART_PIN_RELEASED (R166) -/
  | restartPinReleased (t : Moment)
  /-- RI_RISING_EDGE (R7) -/
  | riRisingEdge (t : Moment) (n : LineNo)
  /-- RI_FALLING_EDGE (R7) -/
  | riFallingEdge (t : Moment) (n : LineNo)
  /-- STUCK_RING (R8) -/
  | stuckRing (t : Moment) (n : LineNo)
  /-- RING_SILENCE_EXPIRY (R10) -/
  | ringSilenceExpiry (t : Moment) (n : LineNo)
  /-- CD_RISING_EDGE (R13) -/
  | cdRisingEdge (t : Moment) (n : LineNo)
  /-- CD_FALLING_EDGE (R15) -/
  | cdFallingEdge (t : Moment) (n : LineNo)
  /-- CARRIER_QUALIFIED (R13) -/
  | carrierQualified (t : Moment) (n : LineNo)
  /-- CARRIER_WAIT_EXPIRY (R14) -/
  | carrierWaitExpiry (t : Moment) (n : LineNo)
  /-- DISCONNECT (R16) -/
  | disconnect (t : Moment) (n : LineNo)
  /-- DRAIN_LIMIT_EXPIRY (R18) -/
  | drainLimitExpiry (t : Moment) (n : LineNo)
  /-- HANGUP_GUARD_EXPIRY (R20) -/
  | hangupGuardExpiry (t : Moment) (n : LineNo)
  /-- ESTABLISH (R67) -/
  | establish (t : Moment) (n : LineNo)
  /-- REFUSE (R52) -/
  | refuse (t : Moment) (n : LineNo)
  /-- CLOSE (R72) -/
  | close (t : Moment) (n : LineNo)
  /-- DRAINED (R18) -/
  | drained (t : Moment) (n : LineNo)
  /-- BEGIN_PROVING (R144) -/
  | beginProving (t : Moment) (n : LineNo)
  /-- END_PROVING (R150) -/
  | endProving (t : Moment) (n : LineNo)
  /-- CHARACTER_RECEIVED (R34): the seven data bits and the parity bit as sampled -/
  | characterReceived (t : Moment) (n : LineNo) (data : Char7) (parity : Bool)
  /-- FRAMING_ERROR (R27) -/
  | framingError (t : Moment) (n : LineNo)
  /-- BREAK (R27) -/
  | lineBreak (t : Moment) (n : LineNo)
  /-- SPEED_TRY (R29): the mark before the falling edge in ms, the pulse width in µs, and the character decoded at the
  matched speed with its stop bit (true at mark) -/
  | speedTry (t : Moment) (n : LineNo) (markMs : Nat) (width : Nat) (decoded : Char7) (stop : Bool)
  /-- CHARACTER_SENT (R44) -/
  | characterSent (t : Moment) (n : LineNo)
  /-- FORWARDING_TIMER_EXPIRY (R37) -/
  | forwardingTimerExpiry (t : Moment) (n : LineNo)
  /-- SIGN_ON_TIMER_EXPIRY (R51) -/
  | signOnTimerExpiry (t : Moment) (n : LineNo)
  /-- REPLY_WAIT_EXPIRY (R62) -/
  | replyWaitExpiry (t : Moment) (n : LineNo)
  /-- CONFIRM_REPLY_WAIT_EXPIRY (R69) -/
  | confirmReplyWaitExpiry (t : Moment) (n : LineNo)
  /-- TB_RISING_EDGE (R94) -/
  | tbRisingEdge (t : Moment)
  /-- WATCH_TIMER_EXPIRY (R95) -/
  | watchTimerExpiry (t : Moment)
  /-- INTERNAL_DIVIDER_TICK (R95) -/
  | internalDividerTick (t : Moment)
  /-- IDLE_TIMER_EXPIRY (R70) -/
  | idleTimerExpiry (t : Moment) (n : LineNo)
  /-- GRACE_EXPIRY (R107) -/
  | graceExpiry (t : Moment) (n : LineNo)
  /-- CHANNEL_LOSS_LIMIT (R110) -/
  | channelLossLimit (t : Moment) (n : LineNo)
  /-- REFRESH_TIMER_EXPIRY (R83) -/
  | refreshTimerExpiry (t : Moment)
  /-- BEACON_PERIOD_EXPIRY (R87) -/
  | beaconPeriodExpiry (t : Moment)
  /-- ACK_WAIT_EXPIRY (R120): of the record bearing the serial -/
  | ackWaitExpiry (t : Moment) (serial : BitVec 8)
  /-- CLASH_TIMER_EXPIRY (R141) -/
  | clashTimerExpiry (t : Moment)
  /-- QUIET_INTERVAL_EXPIRY (R159) -/
  | quietIntervalExpiry (t : Moment)
  /-- BUS_IDLE (R157) -/
  | busIdle (t : Moment)
  /-- ARBITRATION_LOST (R152) -/
  | arbitrationLost (t : Moment)
  /-- STRIKE (R155) -/
  | strike (t : Moment)
  /-- DATA_IN_ECHOED (R39) -/
  | dataInEchoed (t : Moment)
  /-- CLAIM_ECHOED (R65) -/
  | claimEchoed (t : Moment)
  /-- RELEASE_ECHOED (R81) -/
  | releaseEchoed (t : Moment)
  /-- CHARGE_ECHOED (R120) -/
  | chargeEchoed (t : Moment)
  /-- JOINING_BEACON_ECHOED (R158) -/
  | joiningBeaconEchoed (t : Moment)
  /-- RESULT_ECHOED (R163) -/
  | resultEchoed (t : Moment)
  /-- OWN_FRAME_ON_BUS (R153) -/
  | ownFrameOnBus (t : Moment)
  /-- RECEIVE_FAULT (R154): the frame as received; whether it was cut short; whether the LC-16 was itself sending it -/
  | receiveFault (t : Moment) (f : RawFrame) (cutShort own : Bool)
  /-- NUMBER_CLASH (R160) -/
  | numberClash (t : Moment)
  /-- FRAME_ON_BUS (R86): a frame of another station that no block takes, with its destination field -/
  | frameOnBus (t : Moment) (src : Station) (dest : BitVec 5)
  /-- BEACON (R86) -/
  | beacon (t : Moment) (src : Station) (p : BeaconPayload)
  /-- CLAIM (R77) -/
  | claim (t : Moment) (src : Station) (p : ClaimPayload)
  /-- RELEASE (R78) -/
  | release (t : Moment) (src : Station) (p : ReleasePayload)
  /-- SURVEY (R82) -/
  | survey (t : Moment) (src : Station)
  /-- TIME (R98) -/
  | time (t : Moment) (src : Station) (minute : BitVec 16) (second : Byte)
  /-- LINE_STATE (R132): the tag and the signal byte; with the own station number as source, the echo of the own frame on
  the wire -/
  | lineState (t : Moment) (src : Station) (tag signals : Byte)
  /-- FLOW (R43), addressed to this station -/
  | flow (t : Moment) (src : Station) (line state : Byte)
  /-- DATA_OUT (R40), addressed to this station -/
  | dataOut (t : Moment) (src : Station) (line flags : Byte) (chars : List Byte)
  /-- ADMIT_REPLY (R61), addressed to this station -/
  | admitReply (t : Moment) (src : Station) (p : ReplyPayload)
  /-- CHARGE_ACK (R121), addressed to this station -/
  | chargeAck (t : Moment) (src : Station) (serial : BitVec 8)
  /-- ORDER_FORCE_OFF (R74); every order carries its line byte and its two-byte argument -/
  | orderForceOff (t : Moment) (src : Station) (line : Byte) (arg : BitVec 16)
  /-- ORDER_OUT (R22) -/
  | orderOut (t : Moment) (src : Station) (line : Byte) (arg : BitVec 16)
  /-- ORDER_IN (R23) -/
  | orderIn (t : Moment) (src : Station) (line : Byte) (arg : BitVec 16)
  /-- ORDER_PROVE (R143) -/
  | orderProve (t : Moment) (src : Station) (line : Byte) (arg : BitVec 16)
  /-- ORDER_DRAIN (R138) -/
  | orderDrain (t : Moment) (src : Station) (line : Byte) (arg : BitVec 16)
  /-- ORDER_UNDRAIN (R138) -/
  | orderUndrain (t : Moment) (src : Station) (line : Byte) (arg : BitVec 16)
  /-- ORDER_NOTICE (R47) -/
  | orderNotice (t : Moment) (src : Station) (line : Byte) (arg : BitVec 16)
  /-- ORDER_RESTART (R170) -/
  | orderRestart (t : Moment) (src : Station) (line : Byte) (arg : BitVec 16)
  /-- ORDER_REPORT (R164) -/
  | orderReport (t : Moment) (src : Station) (line : Byte) (arg : BitVec 16)
  /-- PROVING_CARRIER_QUALIFIED (R146) -/
  | provingCarrierQualified (t : Moment) (n : LineNo)
  /-- PROVING_CARRIER_WAIT_EXPIRY (R145) -/
  | provingCarrierWaitExpiry (t : Moment) (n : LineNo)
  /-- PROVING_CHARACTER_RECEIVED (R147): the eight bits as sampled, and whether the stop bit was found at space -/
  | provingCharacterReceived (t : Moment) (n : LineNo) (data : Byte) (badlyFramed : Bool)
  /-- PROVING_CARRIER_LOST (R149) -/
  | provingCarrierLost (t : Moment) (n : LineNo)
  /-- RUN_TIMER_EXPIRY (R149) -/
  | runTimerExpiry (t : Moment) (n : LineNo)
deriving DecidableEq, Repr

end Sys2Proof
end

