-- ==== Sys2Proof/Decode.lean ====
section
/-! DEFINITION. Decoding of table words. -/

namespace Sys2Proof

/-- The command that a table word spells. The table gives the bits of no row: a command is an event at the part or a frame on its bus,
not a word of an instruction memory, so no word spells one. -/
def decodeTableWord (_nbits _w : Nat) : Option Instr := none

end Sys2Proof
end

