-- ==== Sys2Proof/Config.lean ====
section
/-! DEFINITION. The configuration the Start-Up Loader leaves behind (Table 10-1), the fixed times of the part, and the
one value the manual leaves open. -/

namespace Sys2Proof

/-- The six terminal speeds, in the order of their codes (Table 11-4). -/
inductive Speed where
  | b110 | b150 | b300 | b600 | b1200 | b2400
deriving DecidableEq, Repr

/-- Input parity checking of a hunt group (Table 1-3). -/
inductive Parity where
  | off | even | odd
deriving DecidableEq, Repr

/-- The settings of one hunt group (Table 1-3). -/
structure Group where
  /-- Bit k set: the speed of code k is allowed. -/
  speeds : BitVec 6
  parity : Parity
  xonXoff : Bool
  attention1 : Option Char7
  attention2 : Option Char7
  answerRings : Nat
  /-- The block allowance A. -/
  allowance : Nat
  /-- The inbound allowance Ain. -/
  inAllowance : Nat
deriving DecidableEq, Repr

/-- The line timing settings (Table 1-4), in the units of the table. -/
structure LineTimes where
  ringMin : Nat
  ringMax : Nat
  /-- seconds -/
  ringSilence : Nat
  carrierQualify : Nat
  /-- seconds -/
  carrierWait : Nat
  carrierLoss : Nat
  /-- seconds -/
  hangupGuard : Nat
deriving DecidableEq, Repr

/-- One entry of the class table (Table 10-1). -/
structure ClassEntry where
  /-- minutes; 0 for no idle timer -/
  idleLimit : Nat
  echo : Bool
deriving DecidableEq, Repr

/-- The grant a session is admitted under (Table 3-1, granted values). -/
structure Granted where
  cls : Fin 8
  limit : Nat
  table : Fin 4
  channel : Station
  /-- 65,535 means unlimited -/
  allowance : Nat
deriving DecidableEq, Repr

/-- One tariff table (Table 5-3). -/
structure Tariff where
  bands : Vector (Fin 4) 168
  rates : Vector Nat 4
  fee : Nat
  minimum : Nat
deriving DecidableEq, Repr

/-- The five line signals (Table 7-1), in the bit order of the LINE-STATE signal byte. -/
inductive Signal where
  | busy | out | session | fault | mb
deriving DecidableEq, Repr

/-- What an aggregation slot watches (Table 7-2). -/
inductive SlotSource where
  | unused
  | tag (t : Fin 64)
  | line (n : LineNo)
deriving DecidableEq, Repr

/-- The configured part of one aggregation slot (Table 7-2). -/
structure SlotConfig where
  source : SlotSource
  signal : Signal
  invert : Bool
  stale : Bool
deriving DecidableEq, Repr

/-- The configuration of one group output (Table 7-3). -/
structure OutputConfig where
  select : BitVec 32
  invert : Bool
  pin : Bool
  alarm : Bool
  busy : Bool
  busyLines : BitVec 16
deriving DecidableEq, Repr

/-- The rate of the party-line bus (Table 10-1). -/
inductive BusRate where
  | k250 | k500 | k1000
deriving DecidableEq, Repr

/-- Everything Table 10-1 lists, as the Start-Up Loader left it at the last power-up or restart. -/
structure Configuration where
  groups : Vector Group 4
  lineGroup : Vector (Fin 4) 16
  /-- Bit n set puts line n in service. -/
  inService : BitVec 16
  /-- Forward tags after R128. -/
  tags : Vector (Option (Fin 64)) 16
  times : LineTimes
  signOnTime : Nat
  replyWait : Nat
  refreshPeriod : Nat
  /-- milliseconds -/
  forwardingTimer : Nat
  classes : Vector ClassEntry 8
  provisionalEnable : Bool
  provisional : Granted
  noAccountant : Bool
  fallbackCeiling : Nat
  tariffs : Vector Tariff 4
  warnThreshold : Nat
  graceTime : Nat
  /-- minutes -/
  channelLoss : Nat
  messages : Vector (List Char7) 16
  notices : Vector (List Char7) 8
  slots : Vector SlotConfig 32
  outputs : Vector OutputConfig 4
  /-- In the order of Table 7-6. -/
  alarmLevels : Vector Nat 8
  alarmThreshold : Nat
  passThreshold : Nat
  busRate : BusRate
deriving DecidableEq, Repr

/-- Table 1-3, defaults. -/
def Group.builtIn : Group where
  speeds := 0x3F
  parity := .off
  xonXoff := true
  attention1 := none
  attention2 := none
  answerRings := 2
  allowance := 6
  inAllowance := 2

/-- Table 1-4, defaults. -/
def LineTimes.builtIn : LineTimes where
  ringMin := 150
  ringMax := 3000
  ringSilence := 8
  carrierQualify := 400
  carrierWait := 30
  carrierLoss := 400
  hangupGuard := 2

/-- Table 5-3, built-in defaults. -/
def Tariff.builtIn : Tariff where
  bands := Vector.replicate 168 0
  rates := Vector.replicate 4 0
  fee := 0
  minimum := 0

/-- Table 10-1, built-in defaults. -/
def Configuration.builtIn : Configuration where
  groups := Vector.replicate 4 Group.builtIn
  lineGroup := Vector.replicate 16 0
  inService := 0xFFFF
  tags := Vector.replicate 16 none
  times := LineTimes.builtIn
  signOnTime := 120
  replyWait := 10
  refreshPeriod := 60
  forwardingTimer := 100
  classes := Vector.replicate 8 ⟨30, true⟩
  provisionalEnable := true
  provisional := ⟨0, 1, 0, 0, 100⟩
  noAccountant := false
  fallbackCeiling := 4095
  tariffs := Vector.replicate 4 Tariff.builtIn
  warnThreshold := 10
  graceTime := 120
  channelLoss := 5
  messages := Vector.replicate 16 []
  notices := Vector.replicate 8 []
  slots := Vector.replicate 32 ⟨.unused, .busy, false, false⟩
  outputs := Vector.replicate 4 ⟨0, false, false, false, false, 0⟩
  alarmLevels := #v[6, 4, 2, 4, 3, 5, 3, 0]
  alarmThreshold := 3
  passThreshold := 0
  busRate := .k1000

/-- The number of blocks of the Buffer Pool and the characters in each (section 2.3). -/
def poolBlocks : Nat := 160

/-- The number of characters a block holds (section 2.3). -/
def blockSize : Nat := 16

/-- The capacity of the Charge Queue (R116). -/
def chargeSlots : Nat := 32

/-- The largest number of records offered at once (R116, R118). -/
def offerWindow : Nat := 4

/-- The granted allowance that means unlimited (R61). -/
def unlimitedAllowance : Nat := 65535

/-- The top of units, duration and the prover's checked count (R103, R148). -/
def meterTop : Nat := 16777215

/-- DESIGN CHOICE: the free value of log entry 10. "When a block returned to the free list could serve either of two
lines, either may take it first" (R32): at the k-th such choice this constant, of which nothing is known, picks the
line. It picks likewise which of two blocks takes a refresh expiry first (R83). No statement can rest on its value. -/
opaque Config.freePick : Nat → Nat

end Sys2Proof
end

