-- ==== Sys2Proof/Machine/State.lean ====
section
/-! DEFINITION. The state of the LC-16, block by block as Table 0-2 of the manual lists them, and the state after
power-up reset. -/

namespace Sys2Proof.Machine

/-- No command faults: every rule gives every event an effect, if only "without any change" (R1, R17). The type has no
constructor, so a fault is impossible, which is safe (log entry 34). -/
inductive Fault where
deriving DecidableEq, Repr

/-- Why a command is not carried out. -/
inductive Refusal where
  /-- Raised by `exec` alone, for a command with no meaning yet; safe, since nothing is then claimed of the command. No
  arm raises it. -/
  | notModelled (mnemonic : String)
deriving DecidableEq, Repr

/-! ## Line Supervisor -/

/-- The nine line states (Table 1-5). -/
inductive LineState where
  | out | idle | ringing | answering | signon | session | closing | hangup | proving
deriving DecidableEq, Repr

/-- One line record (Table 1-6) with the levels of the line's RI and CD leads (R1). A measurement holds the moment it
began, a timer the moment it falls due. -/
structure LineRec where
  ri : Bool
  cd : Bool
  st : LineState
  burstCount : Nat
  blocked : Bool
  fault : Bool
  outPending : Bool
  burst : Option Moment
  ringSilence : Option Moment
  qual : Option Moment
  carrierWait : Option Moment
  dropout : Option Moment
  drainLimit : Option Moment
  hangupGuard : Option Moment
deriving DecidableEq, Repr

/-- A line record in the given state with every other field at its value after reset (Table 1-6). -/
def LineRec.fresh (st : LineState) (ri cd : Bool) : LineRec where
  ri := ri
  cd := cd
  st := st
  burstCount := 0
  blocked := false
  fault := false
  outPending := false
  burst := none
  ringSilence := none
  qual := none
  carrierWait := none
  dropout := none
  drainLimit := none
  hangupGuard := none

/-! ## Texts -/

/-- One part of a text: a message M0 to M15 or a notice N0 to N7 (R45). -/
inductive TextPart where
  | message (i : Fin 16)
  | notice (i : Fin 8)
deriving DecidableEq, Repr

/-- A text: its parts and, for a closing text, the duration and units of its summary line (R45, R46). -/
structure Text where
  parts : List TextPart
  summary : Option (Nat × Nat)
deriving DecidableEq, Repr

/-! ## Character Path and Buffer Pool -/

/-- A queue, as its chain of blocks is determined by it: the unread characters, oldest first, and how many places of the
first block have already been read (section 2.3). A block in the middle of a chain is full and unread. -/
structure Queue where
  chars : List Char7
  read : Nat
deriving DecidableEq, Repr

/-- The queue that holds no characters and so no blocks (R31). -/
def Queue.empty : Queue := ⟨[], 0⟩

/-- The two flow characters (R36). -/
inductive FlowChar where
  | xon | xoff
deriving DecidableEq, Repr

/-- A FLOW state (R42). -/
inductive FlowState where
  | go | hold
deriving DecidableEq, Repr

/-- A DATA-IN frame in flight (R38): k, the flags it carries, and which flag has been taken again since the build
(R39). -/
structure InFlight where
  k : Nat
  attention : Bool
  brk : Bool
  attentionAgain : Bool
  brkAgain : Bool
deriving DecidableEq, Repr

/-- Character Path state of one line (Table 2-4), with the character its transmitter is sending. -/
structure Path where
  speed : Option Speed
  inQ : Queue
  outQ : Queue
  paused : Bool
  inputHeld : Bool
  owed : Option FlowChar
  attention : Bool
  brk : Bool
  /-- The flag mark: how many characters of the inbound queue stand ahead of it. -/
  mark : Option Nat
  fwdTimer : Option Moment
  fwdDue : Bool
  inFlight : Option InFlight
  flow : Option FlowState
  channelHold : Bool
  slot : Option Text
  /-- The character in the transmitter: seven bits on a call, eight in a proving run. -/
  tx : Option (BitVec 8)
  /-- The character in the transmitter is the owed flow character, which is owed until it has been sent (R36). -/
  txFlow : Bool
deriving DecidableEq, Repr

/-- Table 2-4, after power-up, after restart and on entry to HANGUP. -/
def Path.fresh : Path where
  speed := none
  inQ := Queue.empty
  outQ := Queue.empty
  paused := false
  inputHeld := false
  owed := none
  attention := false
  brk := false
  mark := none
  fwdTimer := none
  fwdDue := false
  inFlight := none
  flow := none
  channelHold := false
  slot := none
  tx := none
  txFlow := false

/-! ## Sign-On Controller -/

/-- The phases of a sign-on (Table 3-1). -/
inductive Phase where
  | sense | user | code | asking | claiming | refusing
deriving DecidableEq, Repr

/-- The verdicts of an accountant (R61). -/
inductive Verdict where
  | accept | unknown | barred | hours | quota
deriving DecidableEq, Repr

/-- A reply with its values as R61 reads them. -/
structure Reply where
  verdict : Verdict
  granted : Granted
deriving DecidableEq, Repr

/-- A sign-on context (Table 3-1). The user number is the value of the digits (R56). -/
structure Context where
  phase : Phase
  tries : Nat
  attempts : Nat
  digits : List (Fin 10)
  code : List Char7
  requestSerial : Option (BitVec 8)
  /-- A reply to the request serial has been taken, so that a second one is stale (R61; log entry 19). -/
  answered : Bool
  replyWait : Option Moment
  signOnTimer : Option Moment
  provisional : Bool
  lateConfirmed : Bool
  granted : Option Granted
  sessionSerial : Option (BitVec 16)
  claimRaised : Bool
  admitted : Bool
  heldReply : Option Reply
deriving DecidableEq, Repr

/-! ## Session Table -/

/-- The close reasons a session can have (Table 3-7), in the order of their codes. -/
inductive CloseReason where
  | ended | carrier | idle | allowance | operator | channelLost | notConfirmed | restart
deriving DecidableEq, Repr

/-- Confirm-pending: the serial asked with, and the reply wait while it is waiting (R69). -/
structure Confirm where
  serial : BitVec 8
  wait : Option Moment
  /-- A reply to the serial has been taken already, during the sign-on (R61; log entry 19). -/
  answered : Bool
deriving DecidableEq, Repr

/-- A session record (Tables 3-4 and 5-4). -/
structure Session where
  user : Nat
  serial : BitVec 16
  cls : Fin 8
  table : Fin 4
  channel : Station
  granted : Nat
  /-- `none` is unlimited -/
  remaining : Option Nat
  warned : Bool
  grace : Option Nat
  units : Nat
  residue : Nat
  duration : Nat
  startMinute : Option Nat
  provisional : Bool
  lateConfirmed : Bool
  clockUnset : Bool
  timebase : Bool
  saturated : Bool
  held : Bool
  hold : Option Nat
  idle : Option Nat
  echo : Bool
  endMark : Bool
  confirm : Option Confirm
  reason : Option CloseReason
deriving DecidableEq, Repr

/-! ## Claims of a line -/

/-- What a RELEASE can give as its reason: a close reason, or WITHDRAWN (R52). -/
inductive ReleaseReason where
  | closed (r : CloseReason)
  | withdrawn
deriving DecidableEq, Repr

/-- A line's own claim (R65). -/
structure OwnClaim where
  user : Nat
  serial : BitVec 16
deriving DecidableEq, Repr

/-- The contents of a release slot (R81). -/
structure ReleaseSlot where
  user : Nat
  serial : BitVec 16
  reason : ReleaseReason
deriving DecidableEq, Repr

/-- A line's own claim, its release slot, its survey-owed mark (R65, R80, R81), and whether its ADMIT-REQ request was last
raised with kind CONFIRM (R60, R69; log entry 26). -/
structure Claims where
  own : Option OwnClaim
  release : Option ReleaseSlot
  surveyOwed : Bool
  admitConfirm : Bool
deriving DecidableEq, Repr

/-- No claim, nothing to release. -/
def Claims.fresh : Claims := ⟨none, none, false, false⟩

/-! ## Line Prover -/

/-- The phase of a run record (Table 8-1). -/
inductive RunPhase where
  | none | waiting | running
deriving DecidableEq, Repr

/-- The verdicts of a proving run, in the order of their codes (Table 11-4). -/
inductive ProvingVerdict where
  | pass | fail | noLock | noCarrier | carrierLost | aborted
deriving DecidableEq, Repr

/-- The state a run began from (Table 8-1). -/
inductive Origin where
  | idle | out
deriving DecidableEq, Repr

/-- A run record (Table 8-1). Bit k − 1 of a register is its stage k. -/
structure Run where
  phase : RunPhase
  origin : Origin
  station : Station
  duration : Nat
  speed : Speed
  carrierWait : Option Moment
  qual : Option Moment
  runTimer : Option Moment
  dropout : Option Moment
  generator : BitVec 9
  checker : BitVec 9
  loaded : Nat
  cleanRun : Nat
  erroredRun : Nat
  locked : Bool
  lockReached : Bool
  checked : Nat
  errored : Nat
  lockLosses : Nat
deriving DecidableEq, Repr

/-- Table 8-1 after power-up and after restart. The fields the table gives no value while the phase is none hold the values
log entry 32 names. -/
def Run.fresh : Run where
  phase := .none
  origin := .idle
  station := 0
  duration := 1
  speed := .b110
  carrierWait := none
  qual := none
  runTimer := none
  dropout := none
  generator := 0
  checker := 0
  loaded := 0
  cleanRun := 0
  erroredRun := 0
  locked := false
  lockReached := false
  checked := 0
  errored := 0
  lockLosses := 0

/-- A result record (R151). -/
structure RunResult where
  station : Station
  verdict : ProvingVerdict
  speed : Speed
  checked : Nat
  errored : Nat
  lockLosses : Nat
  lockReached : Bool
deriving DecidableEq, Repr

/-! ## Requests made of the Line Supervisor and not yet taken (R17) -/

/-- A begin-proving request, as recorded at the acceptance of its order (R143). -/
structure BeginAsk where
  station : Station
  origin : Origin
  duration : Nat
deriving DecidableEq, Repr

/-- The requests of Table 1-9 that have been made for a line and wait to be taken. -/
structure Asks where
  establish : Bool
  refuse : Option Text
  close : Bool
  drained : Bool
  /-- oldest first -/
  begin : List BeginAsk
  endRun : Option ProvingVerdict
deriving DecidableEq, Repr

/-- No request waiting. -/
def Asks.fresh : Asks := ⟨false, none, false, false, [], none⟩

/-! ## Presence Table and Station Roster -/

/-- A presence entry (Table 4-2). -/
structure Presence where
  station : Station
  line : LineNo
  user : Nat
  serial : BitVec 16
  age : Nat
deriving DecidableEq, Repr

/-- The roles a station announces (Table 0-1). -/
structure Roles where
  line : Bool
  accountant : Bool
  channel : Bool
  clock : Bool
deriving DecidableEq, Repr

/-- A Station Roster entry (Table 4-3). -/
structure RosterEntry where
  roles : Roles
  age : Nat
  freshSeen : Bool
  ceiling : Nat
  signOns : Nat
deriving DecidableEq, Repr

/-- Table 4-3, after power-up and after restart. -/
def RosterEntry.fresh : RosterEntry := ⟨⟨false, false, false, false⟩, 3, false, 0, 0⟩

/-! ## Meter Unit -/

/-- The mode of the timebase supervisor (Table 5-1). Timebase fault is set exactly while it is FAULT. -/
inductive TbMode where
  | following | fault
deriving DecidableEq, Repr

/-- The timebase supervisor (Table 5-1): the watch timer and the divider hold the moment they next fall due. -/
structure Timebase where
  mode : TbMode
  lastTick : Option Moment
  watch : Option Moment
  divider : Option Moment
  candidate : Option Moment
deriving DecidableEq, Repr

/-- The station clock (R97). -/
structure Clock where
  minute : Nat
  second : Nat
  unset : Bool
deriving DecidableEq, Repr

/-! ## Charge Queue -/

/-- A charge record (Table 6-1). -/
structure Charge where
  serial : BitVec 8
  line : LineNo
  user : Nat
  startMinute : Option Nat
  duration : Nat
  units : Nat
  reason : CloseReason
  provisional : Bool
  lateConfirmed : Bool
  clockUnset : Bool
  timebase : Bool
  saturated : Bool
  held : Bool
deriving DecidableEq, Repr

/-- A record in the queue with its offer state (Table 6-2). -/
structure Queued where
  charge : Charge
  offered : Bool
  ackWait : Option Moment
deriving DecidableEq, Repr

/-! ## Group Status Unit -/

/-- The part of an aggregation slot that is not configured (Table 7-2). -/
structure SlotState where
  value : Bool
  age : Nat
deriving DecidableEq, Repr

/-- Table 7-2, after power-up and after restart. -/
def SlotState.fresh : SlotState := ⟨false, 3⟩

/-! ## Bus Controller -/

/-- The bus states (Table 9-4). -/
inductive BusState where
  | joining | active | silent
deriving DecidableEq, Repr

/-- The nine orders (Table 9-7). -/
inductive OrderKind where
  | forceOff | out | in_ | prove | drain | undrain | notice | restart | report
deriving DecidableEq, Repr

/-- The outcomes an order result slot can hold (Table 9-8); for REPORT-DATA the group and the clear flag. -/
inductive OrderOutcome where
  | done | queued | refusedLine | refusedState | refusedEntitlement
  | reportData (group : Fin 3) (clear : Bool)
deriving DecidableEq, Repr

/-- The contents of an order result slot (R163). -/
structure OrderResult where
  station : Station
  kind : OrderKind
  line : Byte
  outcome : OrderOutcome
deriving DecidableEq, Repr

/-- The requests of the transmit request set (Table 9-3). The order result slot 16 is that of line 255. -/
inductive ReqId where
  | beacon
  | survey
  | flow (n : LineNo)
  | release (n : LineNo)
  | claim (n : LineNo)
  | admitReq (n : LineNo)
  | charge (serial : BitVec 8)
  | lineState (tag : Fin 64)
  | orderResult (slot : Fin 17)
  | runResult (n : LineNo)
  | dataIn (n : LineNo)
deriving DecidableEq, Repr

/-- The pending flag and the strike count of a request (R156). Its on-wire mark is set exactly while the transmitter carries its
frame, which `State.wire` tells. -/
structure Req where
  pending : Bool
  strikes : Nat
deriving DecidableEq, Repr

/-- A request not pending and without strikes. -/
def Req.idle : Req := ⟨false, 0⟩

/-- The kinds of CLAIM (Table 11-4). -/
inductive ClaimKind where
  | new | refresh | surveyAnswer
deriving DecidableEq, Repr

/-- The five signals of a line (Table 7-1). -/
structure Signals where
  busy : Bool
  out : Bool
  session : Bool
  fault : Bool
  mb : Bool
deriving DecidableEq, Repr

/-- The contents of the LC-16's beacon (Table 9-5). The roles are LINE alone and the ceiling is 0. -/
structure BeaconOut where
  freshStart : Bool
  configClamped : Bool
  clash : Bool
  sessions : Nat
  signOns : Nat
  freeLines : Nat
  freeSlots : Nat
  alarmLevel : Nat
deriving DecidableEq, Repr

/-- The frames the LC-16 sends, by their named fields (Table 9-1). -/
inductive FrameBody where
  | beacon (b : BeaconOut)
  | survey
  | flow (line : LineNo) (state : FlowState)
  | release (line : LineNo) (r : ReleaseSlot)
  | claim (line : LineNo) (kind : ClaimKind) (provisional : Bool) (user : Nat) (serial : BitVec 16) (channel : Station)
  | admitReq (line : LineNo) (serial : BitVec 8) (confirm : Bool) (user : Nat) (code : List Char7)
  | charge (c : Charge)
  | lineState (tag : Fin 64) (signals : Signals)
  | orderResult (r : OrderResult) (data : List Byte)
  | runResult (line : LineNo) (r : RunResult)
  | dataIn (line : LineNo) (attention brk : Bool) (chars : List Char7)
deriving DecidableEq, Repr

/-- The destinations of the LC-16's frames: one station, every accountant (30), every station (31) (Introduction 6.7). -/
inductive Dest where
  | station (s : Station)
  | accountants
  | all
deriving DecidableEq, Repr

/-- The frame the transmitter carries, with the request it was built for. -/
structure WireFrame where
  req : ReqId
  dest : Dest
  body : FrameBody
deriving DecidableEq, Repr

/-- The nineteen station counters (Table 9-9). -/
structure Counters where
  abandonedRings : Nat
  ringsWhileBusy : Nat
  carrierWaitTimeouts : Nat
  carrierHits : Nat
  speedFailures : Nat
  signOnTimeouts : Nat
  framingErrors : Nat
  parityErrors : Nat
  overruns : Nat
  echoesLost : Nat
  dataOutRefused : Nat
  noticesReplaced : Nat
  receiveFaults : Nat
  strikes : Nat
  framesDiscarded : Nat
  requestsCoalesced : Nat
  staleReplies : Nat
  agedOutEntries : Nat
  numberClashes : Nat
deriving DecidableEq, Repr

/-- Every counter at 0 (R26, R49, R75, R92, R165). -/
def Counters.zero : Counters := ⟨0, 0, 0, 0, 0, 0, 0, 0, 0, 0, 0, 0, 0, 0, 0, 0, 0, 0, 0⟩

/-! ## Start-Up Loader -/

/-- Where start-up stands: loading after power-up, loading after a restart, or complete (R166, R171). -/
inductive Loader where
  | powerUp | restart | running
deriving DecidableEq, Repr

/-- The state of the LC-16. -/
structure State where
  /-- The moment of the last event taken. -/
  now : Moment
  loader : Loader
  /-- The level of the RESTART pin: asserted or not. -/
  restartPin : Bool
  station : Station
  cfg : Configuration
  configClamped : Bool
  sup : Vector LineRec 16
  asks : Vector Asks 16
  path : Vector Path 16
  /-- The number of blocks on the free list. -/
  free : Nat
  sign : Vector (Option Context) 16
  sess : Vector (Option Session) 16
  claims : Vector Claims 16
  run : Vector Run 16
  result : Vector (Option RunResult) 16
  requestSerial : BitVec 8
  sessionSerial : BitVec 16
  recordSerial : BitVec 8
  presence : List Presence
  roster : Vector RosterEntry 16
  refreshTimer : Option Moment
  beaconTimer : Option Moment
  timebase : Timebase
  clock : Clock
  /-- oldest first -/
  queue : List Queued
  slots : Vector SlotState 32
  drain : Bool
  clashTimer : Option Moment
  bus : BusState
  freshAnnounced : Bool
  quietTimer : Option Moment
  streak : Nat
  reqs : List (ReqId × Req)
  wire : Option WireFrame
  /-- The DATA-IN rotation point: the line whose DATA-IN frame was last on the bus (R157). -/
  rotation : LineNo
  orderSlots : Vector (Option OrderResult) 17
  /-- Whether the LC-16 drove the echo slot of the frame it received last (R153). -/
  echo : Bool
  counters : Counters
  /-- The model's own field: how many free choices have been drawn (log entry 10). -/
  draws : Nat
  /-- The commands that wait, first in, first out. -/
  pending : List Instr
deriving DecidableEq, Repr

/-- The machine right after power-up reset, at moment 0, before the Start-Up Loader has read anything (R166). -/
def State.reset : State where
  now := 0
  loader := .powerUp
  restartPin := false
  station := 0
  cfg := Configuration.builtIn
  configClamped := false
  sup := Vector.replicate 16 (LineRec.fresh .out false false)
  asks := Vector.replicate 16 Asks.fresh
  path := Vector.replicate 16 Path.fresh
  free := poolBlocks
  sign := Vector.replicate 16 none
  sess := Vector.replicate 16 none
  claims := Vector.replicate 16 Claims.fresh
  run := Vector.replicate 16 Run.fresh
  result := Vector.replicate 16 none
  requestSerial := 0
  sessionSerial := 0
  recordSerial := 0
  presence := []
  roster := Vector.replicate 16 RosterEntry.fresh
  refreshTimer := none
  beaconTimer := none
  timebase := ⟨.following, none, some 1500, none, none⟩
  clock := ⟨0, 0, true⟩
  queue := []
  slots := Vector.replicate 32 SlotState.fresh
  drain := false
  clashTimer := none
  bus := .silent
  freshAnnounced := false
  quietTimer := none
  streak := 0
  reqs := []
  wire := none
  rotation := 15
  orderSlots := Vector.replicate 17 none
  echo := false
  counters := Counters.zero
  draws := 0
  pending := []

end Sys2Proof.Machine
end

