-- ==== Sys2Proof/Machine/Ops.lean ====
section
/-! DEFINITION. The named operations every block shares: reading and writing one line's part of a block, timers and
measurements, the station counters, the transmit request set, and the free choice among lines. -/

namespace Sys2Proof.Machine

/-! ## One line's part of a block -/

/-- The state with line `n`'s record replaced. -/
def State.setSup (s : State) (n : LineNo) (x : LineRec) : State := { s with sup := s.sup.set n x }

/-- The state with line `n`'s waiting requests replaced. -/
def State.setAsks (s : State) (n : LineNo) (x : Asks) : State := { s with asks := s.asks.set n x }

/-- The state with line `n`'s Character Path state replaced; the free list is not touched. -/
def State.setPath (s : State) (n : LineNo) (x : Path) : State := { s with path := s.path.set n x }

/-- The state with line `n`'s sign-on context replaced. -/
def State.setSign (s : State) (n : LineNo) (x : Option Context) : State := { s with sign := s.sign.set n x }

/-- The state with line `n`'s session record replaced. -/
def State.setSess (s : State) (n : LineNo) (x : Option Session) : State := { s with sess := s.sess.set n x }

/-- The state with line `n`'s claims replaced. -/
def State.setClaims (s : State) (n : LineNo) (x : Claims) : State := { s with claims := s.claims.set n x }

/-- The state with line `n`'s run record replaced. -/
def State.setRun (s : State) (n : LineNo) (x : Run) : State := { s with run := s.run.set n x }

/-- The state with line `n`'s result record replaced. -/
def State.setResult (s : State) (n : LineNo) (x : Option RunResult) : State := { s with result := s.result.set n x }

/-- A change of line `n`'s session record, if it has one. -/
def State.updSess (s : State) (n : LineNo) (f : Session → Session) : State :=
  match s.sess[n] with
  | none => s
  | some x => s.setSess n (some (f x))

/-- A change of line `n`'s sign-on context, if it has one. -/
def State.updSign (s : State) (n : LineNo) (f : Context → Context) : State :=
  match s.sign[n] with
  | none => s
  | some c => s.setSign n (some (f c))

/-- The line state of line `n`. -/
def State.st (s : State) (n : LineNo) : LineState := s.sup[n].st

/-- The hunt group settings line `n` uses (R3). -/
def State.group (s : State) (n : LineNo) : Group := s.cfg.groups[s.cfg.lineGroup[n]]

/-- The number of lines for which `p` holds. -/
def countLines (p : LineNo → Bool) : Nat := (allLines.filter p).length

/-! ## Time -/

/-- A timer has fallen due: it is running and its moment has come. A stopped timer does not expire (Introduction 6.2). -/
def fallenDue (timer : Option Moment) (now : Moment) : Bool :=
  match timer with
  | some d => d ≤ now
  | none => false

/-- A measurement is open and has run for `len` milliseconds. -/
def ranFor (began : Option Moment) (len now : Nat) : Bool :=
  match began with
  | some b => b + len ≤ now
  | none => false

/-- Moves the clock to the moment of an event; a stamp that lies behind the clock is taken at the clock's own moment (log
entry 1). -/
def State.at (s : State) (t : Moment) : State := { s with now := max s.now t }

/-! ## Counters -/

/-- The names of the counters (Table 9-9). -/
inductive CounterId where
  | abandonedRings | ringsWhileBusy | carrierWaitTimeouts | carrierHits | speedFailures | signOnTimeouts
  | framingErrors | parityErrors | overruns | echoesLost | dataOutRefused | noticesReplaced
  | receiveFaults | strikes | framesDiscarded | requestsCoalesced | staleReplies | agedOutEntries | numberClashes
deriving DecidableEq, Repr

/-- The counter rises by 1; all are 16-bit saturating counts but number clashes, which saturates at 255 (Introduction
6.5, R165). -/
def Counters.rise (c : Counters) : CounterId → Counters
  | .abandonedRings => { c with abandonedRings := sat16 c.abandonedRings }
  | .ringsWhileBusy => { c with ringsWhileBusy := sat16 c.ringsWhileBusy }
  | .carrierWaitTimeouts => { c with carrierWaitTimeouts := sat16 c.carrierWaitTimeouts }
  | .carrierHits => { c with carrierHits := sat16 c.carrierHits }
  | .speedFailures => { c with speedFailures := sat16 c.speedFailures }
  | .signOnTimeouts => { c with signOnTimeouts := sat16 c.signOnTimeouts }
  | .framingErrors => { c with framingErrors := sat16 c.framingErrors }
  | .parityErrors => { c with parityErrors := sat16 c.parityErrors }
  | .overruns => { c with overruns := sat16 c.overruns }
  | .echoesLost => { c with echoesLost := sat16 c.echoesLost }
  | .dataOutRefused => { c with dataOutRefused := sat16 c.dataOutRefused }
  | .noticesReplaced => { c with noticesReplaced := sat16 c.noticesReplaced }
  | .receiveFaults => { c with receiveFaults := sat16 c.receiveFaults }
  | .strikes => { c with strikes := sat16 c.strikes }
  | .framesDiscarded => { c with framesDiscarded := sat16 c.framesDiscarded }
  | .requestsCoalesced => { c with requestsCoalesced := sat16 c.requestsCoalesced }
  | .staleReplies => { c with staleReplies := sat16 c.staleReplies }
  | .agedOutEntries => { c with agedOutEntries := sat16 c.agedOutEntries }
  | .numberClashes => { c with numberClashes := satTo 255 c.numberClashes }

/-- A station counter rises by 1. -/
def State.count (s : State) (c : CounterId) : State := { s with counters := s.counters.rise c }

/-- The counters of a REPORT group at 0 (R164). -/
def Counters.zeroGroup (c : Counters) : Fin 3 → Counters
  | 0 => { c with
      abandonedRings := 0, ringsWhileBusy := 0, carrierWaitTimeouts := 0, carrierHits := 0, speedFailures := 0,
      signOnTimeouts := 0 }
  | 1 => { c with
      framingErrors := 0, parityErrors := 0, overruns := 0, echoesLost := 0, dataOutRefused := 0, noticesReplaced := 0 }
  | 2 => { c with
      receiveFaults := 0, strikes := 0, framesDiscarded := 0, requestsCoalesced := 0, staleReplies := 0,
      agedOutEntries := 0, numberClashes := 0 }

/-! ## The transmit request set -/

/-- The state of a request; one not listed is idle. -/
def reqOf (q : List (ReqId × Req)) (i : ReqId) : Req :=
  match q with
  | [] => Req.idle
  | (j, r) :: rest => if j = i then r else reqOf rest i

/-- The set with one request's state replaced; an idle request is not listed. -/
def putReq (q : List (ReqId × Req)) (i : ReqId) (r : Req) : List (ReqId × Req) :=
  if r = Req.idle then q.filter (fun p => p.1 ≠ i) else (i, r) :: q.filter (fun p => p.1 ≠ i)

/-- The state of a request in the transmit request set (R156). -/
def State.req (s : State) (i : ReqId) : Req := reqOf s.reqs i

/-- The state with a request's state replaced. -/
def State.setReq (s : State) (i : ReqId) (r : Req) : State := { s with reqs := putReq s.reqs i r }

/-- The on-wire mark of a request (R156). -/
def State.onWire (s : State) (i : ReqId) : Bool :=
  match s.wire with
  | some w => w.req = i
  | none => false

/-- A block raises a request (R156): a pending one is coalesced with and counted; any other becomes pending, one whose frame
is on the wire too. -/
def State.raise (s : State) (i : ReqId) : State :=
  if (s.req i).pending then s.count .requestsCoalesced
  else s.setReq i { s.req i with pending := true }

/-- A request dropped: its flag is cleared and its strike count returns to 0 (R156). -/
def State.dropReq (s : State) (i : ReqId) : State := s.setReq i Req.idle

/-! ## Many lines at one event -/

/-- An operation done for the given lines in the order given. -/
def eachLine (ls : List LineNo) (f : LineNo → State → State) (s : State) : State :=
  ls.foldl (fun s n => f n s) s

/-- Puts one of the lines first, the one that the k-th free choice names. -/
def pickFirst (k : Nat) (ls : List LineNo) : List LineNo :=
  let i := Config.freePick k % ls.length
  ls.drop i ++ ls.take i

/-- An operation done for several lines at one event in an order the manual leaves open (R32, log entry 10): each next
line is a free choice among those that remain. With one line there is no choice to draw. -/
def freeLines : Nat → List LineNo → (LineNo → State → State) → State → State
  | 0, _, _, s => s
  | _, [], _, s => s
  | _, [n], f, s => f n s
  | fuel + 1, n :: m :: rest, f, s =>
    match pickFirst s.draws (n :: m :: rest) with
    | [] => s
    | p :: others => freeLines fuel others f (f p { s with draws := s.draws + 1 })

/-- `freeLines` with enough fuel for every line. -/
def inFreeOrder (ls : List LineNo) (f : LineNo → State → State) (s : State) : State := freeLines (ls.length + 1) ls f s

end Sys2Proof.Machine
end

