-- ==== Sys2Proof/Machine/Operands.lean ====
section
/-! DEFINITION. How the operands of commands are read: line bytes, user numbers, flag bytes, codes and the values of
a reply (R61, R173). -/

namespace Sys2Proof.Machine

/-- A flag byte: any value other than 00h is read as set (R173). -/
def flagByte (b : Byte) : Bool := b ≠ 0

/-- A line byte that names a line, 0 to 15. -/
def lineOf (b : Byte) : Option LineNo := if h : b.toNat < 16 then some ⟨b.toNat, h⟩ else none

/-- What the line byte of an order names (R162). -/
inductive OrderLine where
  | one (n : LineNo)
  | all
  | bad
deriving DecidableEq, Repr

/-- The line of an order must be 0 to 15, or 255 for all lines (R162). -/
def orderLine (b : Byte) : OrderLine :=
  match lineOf b with
  | some n => .one n
  | none => if b = 255 then .all else .bad

/-- The order result slot of an order's line: a line outside 0 to 15 uses the slot of line 255 (R163). -/
def orderSlot (b : Byte) : Fin 17 :=
  match lineOf b with
  | some n => n.castSucc
  | none => 16

/-- The line a RESULT carries: the LC-16 writes every field within its range (R173), so a line out of range is reported
as that of its slot, 255 (log entry 15). -/
def resultLine (b : Byte) : Byte :=
  match lineOf b with
  | some _ => b
  | none => 255

/-- The BCD digits of a user number, most significant first (R173). -/
def bcdDigits (u : BitVec 24) : List Nat :=
  [(u.extractLsb' 20 4).toNat, (u.extractLsb' 16 4).toNat, (u.extractLsb' 12 4).toNat, (u.extractLsb' 8 4).toNat,
   (u.extractLsb' 4 4).toNat, (u.extractLsb' 0 4).toNat]

/-- The decimal number that a list of digits writes, most significant first. -/
def decimalValue (ds : List Nat) : Nat := ds.foldl (fun v d => 10 * v + d) 0

/-- A user number of a frame: none if a digit is above 9 or the value is 0 (R77). -/
def userOf (u : BitVec 24) : Option Nat :=
  let ds := bcdDigits u
  if ds.all (· ≤ 9) && decimalValue ds != 0 then some (decimalValue ds) else none

/-- The claim kind of a CLAIM's kind byte (Table 11-4); no kind has code 3. -/
def claimKindOf (b : Byte) : Option ClaimKind :=
  match b.toNat % 4 with
  | 0 => some .new
  | 1 => some .refresh
  | 2 => some .surveyAnswer
  | _ => none

/-- The reason byte of a RELEASE names a code of Table 11-4. -/
def reasonKnown (b : Byte) : Bool := b.toNat ≤ 8

/-- A FLOW state byte (Table 11-4). -/
def flowStateOf (b : Byte) : Option FlowState :=
  match b.toNat with
  | 0 => some .go
  | 1 => some .hold
  | _ => none

/-- The roles byte of a BEACON (Table 11-3). -/
def rolesOf (b : Byte) : Roles := ⟨b.getLsbD 0, b.getLsbD 1, b.getLsbD 2, b.getLsbD 3⟩

/-- The signal byte of a LINE-STATE (Table 11-3). -/
def signalsOf (b : Byte) : Signals := ⟨b.getLsbD 0, b.getLsbD 1, b.getLsbD 2, b.getLsbD 3, b.getLsbD 4⟩

/-- The value of one signal. -/
def Signals.value (g : Signals) : Signal → Bool
  | .busy => g.busy
  | .out => g.out
  | .session => g.session
  | .fault => g.fault
  | .mb => g.mb

/-- A value read as the nearest end of its range. -/
def clampTo (lo hi v : Nat) : Nat := max lo (min hi v)

/-- A value read as the nearest end of a range that begins at 0. -/
def clampFin (n : Nat) (v : Nat) : Fin (n + 1) := ⟨min v n, by omega⟩

/-- The verdict byte; a value outside the five is read as BARRED (R61). -/
def verdictOf (b : Byte) : Verdict :=
  match b.toNat with
  | 0 => .accept
  | 1 => .unknown
  | 2 => .barred
  | 3 => .hours
  | 4 => .quota
  | _ => .barred

/-- The values of a reply as R61 reads them. -/
def readReply (p : ReplyPayload) : Reply where
  verdict := if verdictOf p.verdict = .accept ∧ p.allowance = 0 then .quota else verdictOf p.verdict
  granted :=
    { cls := clampFin 7 p.cls.toNat
      limit := clampTo 1 7 p.limit.toNat
      table := clampFin 3 p.table.toNat
      channel := clampFin 15 p.channel.toNat
      allowance := p.allowance.toNat }

/-- A character byte on receipt: bit 7 is ignored (R173). -/
def charOf (b : Byte) : Char7 := b.setWidth 7

/-- The flags of a DATA-OUT (Table 11-3). -/
structure DataOutFlags where
  echoOn : Bool
  echoOff : Bool
  endMark : Bool
  flush : Bool
deriving DecidableEq, Repr

/-- The flag byte of a DATA-OUT (Table 11-3). -/
def dataOutFlagsOf (b : Byte) : DataOutFlags := ⟨b.getLsbD 0, b.getLsbD 1, b.getLsbD 2, b.getLsbD 3⟩

/-- The duration of a PROVE: 0 is read as 1 and a value above 60 as 60 (R143). -/
def proveDuration (arg : BitVec 16) : Nat := clampTo 1 60 arg.toNat

/-- The text index of a NOTICE: above 7 is read as 7 (R47). -/
def noticeIndex (arg : BitVec 16) : Fin 8 := clampFin 7 arg.toNat

/-- The group of a REPORT: byte 2 of the payload, the argument's first byte (R164, R173). -/
def reportGroup (arg : BitVec 16) : Option (Fin 3) :=
  let g := arg.toNat / 256
  if h : g < 3 then some ⟨g, h⟩ else none

/-- The clear flag of a REPORT: bit 0 of byte 3 (R173). -/
def reportClear (arg : BitVec 16) : Bool := arg.getLsbD 0

end Sys2Proof.Machine
end

