-- ==== Sys2Proof/Machine/Flags.lean ====
section
/-! DEFINITION. What follows from the state at each moment and is therefore computed, not stored: stations present and the
ceiling in force, counts and load, line signals and leads, group outputs, make-busy conditions, alarm causes, rooms and
triggers. -/

namespace Sys2Proof.Machine

/-! ## Stations (R85 to R91) -/

/-- A station is present when its age is below 3 (Introduction 6.6). -/
def RosterEntry.present (r : RosterEntry) : Bool := r.age < 3

/-- A present accountant. -/
def RosterEntry.accountant (r : RosterEntry) : Bool := r.present && r.roles.accountant

/-- A present channel station. -/
def RosterEntry.channel (r : RosterEntry) : Bool := r.present && r.roles.channel

/-- A present LINE station. -/
def RosterEntry.lineStation (r : RosterEntry) : Bool := r.present && r.roles.line

/-- Some accountant is present. -/
def State.accountantPresent (s : State) : Bool := s.roster.toList.any RosterEntry.accountant

/-- Some channel station is present. -/
def State.channelPresent (s : State) : Bool := s.roster.toList.any RosterEntry.channel

/-- The smallest of a list of numbers, or a default for none. -/
def leastOf (dflt : Nat) : List Nat → Nat
  | [] => dflt
  | c :: cs => cs.foldl min c

/-- The ceiling in force (R89). -/
def State.ceiling (s : State) : Nat :=
  leastOf s.cfg.fallbackCeiling ((s.roster.toList.filter RosterEntry.accountant).map RosterEntry.ceiling)

/-- The lines in a given state. -/
def State.linesIn (s : State) (x : LineState) : Nat := countLines fun n => s.st n = x

/-- The free charge slots (R117). -/
def State.freeSlots (s : State) : Nat := chargeSlots - s.queue.length

/-- The sum of the announced sign-ons in progress of every present LINE station (R91). -/
def State.announcedSignOns (s : State) : Nat :=
  ((s.roster.toList.filter RosterEntry.lineStation).map RosterEntry.signOns).sum

/-- The load (R91). -/
def State.load (s : State) : Nat :=
  s.linesIn .session + s.presence.length + s.linesIn .signon + s.announcedSignOns

/-- The own claims, optionally of one user (R65, R90). -/
def State.ownClaims (s : State) (p : OwnClaim → Bool) : Nat :=
  countLines fun n =>
    match s.claims[n].own with
    | some c => p c
    | none => false

/-- The standing claims heard in total (R90). -/
def State.standingTotal (s : State) : Nat := s.ownClaims (fun _ => true) + s.presence.length

/-- The standing claims heard for a user number (R90). -/
def State.standingFor (s : State) (user : Nat) : Nat :=
  s.ownClaims (fun c => c.user = user) + (s.presence.filter fun e => e.user = user).length

/-! ## Leads of a line (R2, Table 1-2) -/

/-- DTR is asserted. -/
def LineState.dtr : LineState → Bool
  | .answering | .signon | .session | .closing | .proving => true
  | _ => false

/-- TST is asserted. -/
def LineState.tst : LineState → Bool
  | .proving => true
  | _ => false

/-- DTR of line `n`. -/
def State.dtr (s : State) (n : LineNo) : Bool := (s.st n).dtr

/-- TST of line `n`. -/
def State.tst (s : State) (n : LineNo) : Bool := (s.st n).tst

/-! ## Slots and group outputs (R127 to R136) -/

/-- The signals of line `n` (Table 7-1), given its MB output. -/
def State.signalsWith (s : State) (mb : Bool) (n : LineNo) : Signals where
  busy := s.st n ≠ .idle && s.st n ≠ .out
  out := s.st n = .out
  session := s.st n = .session
  fault := s.sup[n].fault
  mb := mb

/-- The term a selected slot gives, given the MB outputs of the own lines (R131, R135). -/
def State.slotTerm (s : State) (mb : LineNo → Bool) (i : Fin 32) : Bool :=
  let c := s.cfg.slots[i]
  match c.source with
  | .unused => false
  | .tag _ => (if s.slots[i].age < 3 then s.slots[i].value else c.stale) ^^ c.invert
  | .line n => (s.signalsWith (mb n) n).value c.signal ^^ c.invert

/-- The value of a group output, given the MB outputs of the own lines (R135). -/
def State.outputWith (s : State) (mb : LineNo → Bool) (g : Fin 4) : Bool :=
  ((List.finRange 32).any fun i => s.cfg.outputs[g].select.getLsbD i && s.slotTerm mb i) ^^ s.cfg.outputs[g].invert

/-! ## Make-busy conditions (Table 7-4, R137) -/

/-- Condition a: drain is set. -/
def State.condA (s : State) : Bool := s.drain

/-- Condition b: the bus state is not ACTIVE. -/
def State.condB (s : State) : Bool := s.bus ≠ .active

/-- Condition c: no channel station is present. -/
def State.condC (s : State) : Bool := !s.channelPresent

/-- Condition d: provisional admission is disabled, and no accountant can be asked. -/
def State.condD (s : State) : Bool := !s.cfg.provisionalEnable && (!s.accountantPresent || s.cfg.noAccountant)

/-- Condition e: the load reaches the ceiling in force. -/
def State.condE (s : State) : Bool := s.ceiling ≤ s.load

/-- Condition f: the free charge slots are no more than the sessions and sign-ons. -/
def State.condF (s : State) : Bool := s.freeSlots ≤ s.linesIn .session + s.linesIn .signon

/-- Condition g for line `n`: a true BUSY-mode output whose busy line mask includes the line. No slot watching a local MB
signal takes part, since R131 reads one in the select mask of a BUSY-mode output as unused. -/
def State.condG (s : State) (n : LineNo) : Bool :=
  (List.finRange 4).any fun g =>
    s.cfg.outputs[g].busy && s.cfg.outputs[g].busyLines.getLsbD n && s.outputWith (fun _ => false) g

/-- Some make-busy condition holds and applies to line `n`, were it in IDLE or RINGING. -/
def State.madeBusy (s : State) (n : LineNo) : Bool :=
  s.condA || s.condB || s.condC || s.condD || s.condE || s.condF || s.condG n

/-- The MB output of line `n` (R21). -/
def State.mb (s : State) (n : LineNo) : Bool :=
  match s.st n with
  | .out | .proving | .hangup => true
  | .idle | .ringing => s.madeBusy n
  | .answering | .signon | .session | .closing => false

/-- The signals of line `n` (R127). -/
def State.signals (s : State) (n : LineNo) : Signals := s.signalsWith (s.mb n) n

/-- The value of group output `g` (R135). -/
def State.output (s : State) (g : Fin 4) : Bool := s.outputWith s.mb g

/-- The start-up is complete, so the other blocks are started (R166). -/
def State.started (s : State) : Bool := s.loader = .running

/-- The pin GSn (R136): released until the other blocks are started. -/
def State.gs (s : State) (g : Fin 4) : Bool := s.started && s.cfg.outputs[g].pin && s.output g

/-! ## Alarms (R139, R140) -/

/-- Timebase fault is set exactly while the mode is FAULT (Table 5-1). -/
def State.timebaseFault (s : State) : Bool := s.timebase.mode = .fault

/-- The eight alarm causes, in the order of Table 7-6. -/
def State.alarmCause (s : State) : Fin 8 → Bool
  | 0 => s.clashTimer.isSome
  | 1 => s.bus ≠ .active
  | 2 => !s.accountantPresent
  | 3 => !s.channelPresent
  | 4 => s.timebaseFault
  | 5 => s.freeSlots ≤ 4
  | 6 => allLines.any fun n => s.st n = .out && s.sup[n].fault
  | 7 => (List.finRange 4).any fun g => s.cfg.outputs[g].alarm && s.output g

/-- The alarm level: the greatest configured level among the active causes, 0 for none (R140). -/
def State.alarmLevel (s : State) : Nat :=
  (List.finRange 8).foldl (fun m i => if s.alarmCause i then max m s.cfg.alarmLevels[i] else m) 0

/-- The ALM output (R140): released until the other blocks are started. -/
def State.alm (s : State) : Bool := s.started && s.cfg.alarmThreshold < s.alarmLevel

/-! ## Queues and rooms (R31, R32) -/

/-- The number of blocks a queue holds (R31). -/
def Queue.blocks (q : Queue) : Nat := if q.chars = [] then 0 else (q.read + q.chars.length + 15) / blockSize

/-- The unwritten places of a queue's last block, 0 if it holds none (R32). -/
def Queue.unwritten (q : Queue) : Nat :=
  if q.chars = [] then 0 else blockSize * q.blocks - (q.read + q.chars.length)

/-- The queue with characters written at its back. -/
def Queue.append (q : Queue) (cs : List Char7) : Queue := { q with chars := q.chars ++ cs }

/-- The queue with `k` characters read from its front; an emptied queue holds no block (R31). -/
def Queue.remove (q : Queue) (k : Nat) : Queue :=
  if q.chars.length ≤ k then Queue.empty else ⟨q.chars.drop k, (q.read + k) % blockSize⟩

/-- The blocks the two queues of a line hold. -/
def Path.held (p : Path) : Nat := p.inQ.blocks + p.outQ.blocks

/-- The room of line `n`'s inbound queue (R32). -/
def State.inRoom (s : State) (n : LineNo) : Nat :=
  let p := s.path[n]
  let g := s.group n
  p.inQ.unwritten + blockSize * min (min (g.inAllowance - p.inQ.blocks) (g.allowance - p.held)) s.free

/-- The room of line `n`'s outbound queue (R32). -/
def State.outRoom (s : State) (n : LineNo) : Nat :=
  let p := s.path[n]
  let g := s.group n
  p.outQ.unwritten + blockSize * min (g.allowance - p.held) s.free

/-- The room line `n`'s outbound queue would have if it were emptied, as a FLUSH takes it (R40). -/
def State.outRoomFlushed (s : State) (n : LineNo) : Nat :=
  let p := s.path[n]
  let g := s.group n
  blockSize * min (g.allowance - p.inQ.blocks) (s.free + p.outQ.blocks)

/-- The line is drained (R44). -/
def Path.drained (p : Path) : Bool := p.outQ.chars = [] && p.tx = none && p.slot = none

/-- The states in which the receiver is active and the transmitter drains the outbound queue (R27, R44). -/
def LineState.onCall : LineState → Bool
  | .signon | .session | .closing => true
  | _ => false

/-! ## Forwarding (R37) -/

/-- The character CR (Table 0-3). -/
def chCR : Char7 := 0x0D

/-- A flag waits for forwarding. -/
def Path.flagWaits (p : Path) : Bool := p.attention || p.brk

/-- A forwarding trigger holds. -/
def Path.trigger (p : Path) : Bool :=
  p.inQ.chars.contains chCR || 14 ≤ p.inQ.chars.length || p.fwdDue || p.flagWaits

/-- Forwarding of line `n` is blocked: channel-hold, its channel station not a present channel station, or the bus not
ACTIVE (R37). A line without a session has nothing to forward. -/
def State.forwardingBlocked (s : State) (n : LineNo) : Bool :=
  match s.sess[n] with
  | none => true
  | some x => s.path[n].channelHold || !s.roster[x.channel].channel || s.bus ≠ .active

/-- Line `n` wants a DATA-IN frame sent: it is in SESSION, a trigger holds and forwarding is not blocked (R37). -/
def State.wantsDataIn (s : State) (n : LineNo) : Bool :=
  s.st n = .session && s.path[n].trigger && !s.forwardingBlocked n

/-! ## Meter hold (R109) -/

/-- One of the two hold conditions holds for a session. -/
def State.holdCondition (s : State) (x : Session) : Bool := !s.roster[x.channel].channel || s.bus ≠ .active

/-! ## Reception (R153, R154) -/

/-- The LC-16 drives echo slots: its bus state is JOINING or ACTIVE (R153, R159). -/
def State.canEcho (s : State) : Bool := s.started && (s.bus = .joining || s.bus = .active)

end Sys2Proof.Machine
end

