-- ==== Sys2Proof/Machine/Paths.lean ====
section
/-! DEFINITION. The shared work of the Character Path: queues over the Buffer Pool, texts and the pending-notice slot, the
transmitter, flow control in both directions (R31, R32, R36, R42, R44 to R46). -/

namespace Sys2Proof.Machine

/-! ## Queues over the pool -/

/-- Line `n`'s inbound queue replaced; blocks move between the queue and the free list (R31). -/
def State.setIn (s : State) (n : LineNo) (q : Queue) : State :=
  let p := s.path[n]
  { s.setPath n { p with inQ := q } with free := s.free + p.inQ.blocks - q.blocks }

/-- Line `n`'s outbound queue replaced; blocks move between the queue and the free list (R31). -/
def State.setOut (s : State) (n : LineNo) (q : Queue) : State :=
  let p := s.path[n]
  { s.setPath n { p with outQ := q } with free := s.free + p.outQ.blocks - q.blocks }

/-- Characters appended to line `n`'s outbound queue. -/
def State.sendOut (s : State) (n : LineNo) (cs : List Char7) : State := s.setOut n (s.path[n].outQ.append cs)

/-- A flush: the outbound queue is emptied and its blocks return at once; the character being sent, the owed flow
character and the pending-notice slot are not touched (R44). -/
def State.flush (s : State) (n : LineNo) : State := s.setOut n Queue.empty

/-- A change of line `n`'s Character Path state that leaves its queues alone. -/
def State.updPath (s : State) (n : LineNo) (f : Path → Path) : State := s.setPath n (f s.path[n])

/-- An echo: appended if the outbound room is at least 1, otherwise dropped and counted (R33). -/
def State.sendEcho (s : State) (n : LineNo) (c : Char7) : State :=
  if 1 ≤ s.outRoom n then s.sendOut n [c] else s.count .echoesLost

/-- Echoes sent one character at a time (R55). -/
def State.sendEchoes (s : State) (n : LineNo) (cs : List Char7) : State := cs.foldl (fun s c => s.sendEcho n c) s

/-! ## Texts (R45, R46, R73) -/

/-- CR LF. -/
def crlf : List Char7 := [0x0D, 0x0A]

/-- The character of a decimal digit. -/
def digitChar (d : Nat) : Char7 := BitVec.ofNat 7 (0x30 + d)

/-- The decimal digits of a number without leading zeros, at most `fuel` of them. -/
def decimalDigits : Nat → Nat → List Nat
  | 0, _ => []
  | fuel + 1, n => if n < 10 then [n] else decimalDigits fuel (n / 10) ++ [n % 10]

/-- A number written in decimal without leading zeros (R73): at most eight digits. -/
def decimalText (n : Nat) : List Char7 := (decimalDigits 8 n).map digitChar

/-- A number below 100 written in two digits (R73). -/
def twoDigits (n : Nat) : List Char7 := [digitChar (n / 10), digitChar (n % 10)]

/-- A duration written h:mm:ss (R73). -/
def durationText (d : Nat) : List Char7 :=
  decimalText (d / 3600) ++ [0x3A] ++ twoDigits (d / 60 % 60) ++ [0x3A] ++ twoDigits (d % 60)

/-- The summary line: CONNECT, the duration, UNITS, the units (R73). -/
def summaryLine (duration units : Nat) : List Char7 :=
  [0x43, 0x4F, 0x4E, 0x4E, 0x45, 0x43, 0x54, 0x20] ++ durationText duration ++
    [0x20, 0x55, 0x4E, 0x49, 0x54, 0x53, 0x20] ++ decimalText units

/-- The characters of a part. -/
def partText (cfg : Configuration) : TextPart → List Char7
  | .message i => cfg.messages[i]
  | .notice i => cfg.notices[i]

/-- The characters of a text: each part and the summary line are preceded by CR LF (R45). -/
def textChars (cfg : Configuration) (t : Text) : List Char7 :=
  (t.parts.flatMap fun p => crlf ++ partText cfg p) ++
    match t.summary with
    | some (d, u) => crlf ++ summaryLine d u
    | none => []

/-- The length of a text (R45). -/
def textLength (cfg : Configuration) (t : Text) : Nat := (textChars cfg t).length

/-- A text of messages. -/
def messageText (ms : List (Fin 16)) : Text := ⟨ms.map .message, none⟩

/-- A text is taken for a line (R45): it replaces a text waiting in the pending-notice slot, and is counted; otherwise it is
appended whole if the room is at least its length, and else waits in the slot. -/
def State.takeText (s : State) (n : LineNo) (t : Text) : State :=
  if (s.path[n].slot).isSome then (s.updPath n fun p => { p with slot := some t }).count .noticesReplaced
  else if textLength s.cfg t ≤ s.outRoom n then s.sendOut n (textChars s.cfg t)
  else s.updPath n fun p => { p with slot := some t }

/-- A sign-on text is taken while the line is in SIGNON (R45). -/
def State.signOnText (s : State) (n : LineNo) (t : Text) : State := if s.st n = .signon then s.takeText n t else s

/-- A notice is taken while the line is in SESSION (R45). -/
def State.noticeText (s : State) (n : LineNo) (t : Text) : State := if s.st n = .session then s.takeText n t else s

/-- The room of line `n` is the most it can reach, 16 × A: its queues are empty, its transmitter is not sending, and the
free list holds A blocks (R46). -/
def State.roomAtMost (s : State) (n : LineNo) : Bool :=
  let p := s.path[n]
  p.outQ.chars = [] && p.inQ.chars = [] && p.tx = none && (s.group n).allowance ≤ s.free

/-- The text in line `n`'s slot can be appended now, whole or cut (R46). -/
def State.textReady (s : State) (n : LineNo) : Bool :=
  match s.path[n].slot with
  | none => false
  | some t => textLength s.cfg t ≤ s.outRoom n || s.roomAtMost n

/-- The text in the slot is appended, as many of its characters as the room holds, and the slot becomes empty (R46). -/
def State.serveText (s : State) (n : LineNo) : State :=
  match s.path[n].slot with
  | none => s
  | some t =>
    let room := s.outRoom n
    (s.updPath n fun p => { p with slot := none }).sendOut n ((textChars s.cfg t).take room)

/-! ## The transmitter (R44) -/

/-- The code of a flow character (Table 0-3). -/
def FlowChar.code : FlowChar → BitVec 8
  | .xon => 0x11
  | .xoff => 0x13

/-- The transmitter of line `n` can take a character now: an owed flow character, or the head of the outbound queue while
output is not paused. -/
def State.txReady (s : State) (n : LineNo) : Bool :=
  let p := s.path[n]
  (s.st n).onCall && p.tx = none && (p.owed.isSome || (!p.paused && p.outQ.chars ≠ []))

/-- The transmitter of line `n` takes its next character, the owed flow character first, which stays owed until it has been sent
(R36, R44). -/
def State.startTx (s : State) (n : LineNo) : State :=
  if s.txReady n then
    match s.path[n].owed with
    | some c => s.updPath n fun p => { p with tx := some c.code, txFlow := true }
    | none =>
      match s.path[n].outQ.chars with
      | [] => s
      | c :: _ =>
        (s.setOut n (s.path[n].outQ.remove 1)).updPath n fun p => { p with tx := some (c.setWidth 8) }
  else s

/-- The transmitter has sent its character; a flow character sent is no longer owed (R36). One owed anew, while the same character, which its
opposite had cancelled, was still being sent, is met by that character and not sent again (log entry 41). -/
def Path.sent (p : Path) : Path :=
  { p with tx := none, txFlow := false, owed := if p.txFlow then none else p.owed }

/-- One round of the work that room allows: a waiting text is appended, a free choice among the lines where one can be (R32,
R46); with none, every idle transmitter that can takes its next character. `none` when nothing is left to do. DEDUCED, unsafe: the texts
come first, so at an event that leaves a transmitter idle with a flow character owed, R46 finds it not sending and the text is cut before the
flow character is taken (log entry 45). -/
def State.serveOnce (s : State) : Option State :=
  match allLines.filter s.textReady with
  | [] =>
    match allLines.filter s.txReady with
    | [] => none
    | ls => some (eachLine ls (fun n s => s.startTx n) s)
  | [n] => some (s.serveText n)
  | ns =>
    match pickFirst s.draws ns with
    | [] => none
    | n :: _ => some (State.serveText { s with draws := s.draws + 1 } n)

/-- Rounds until nothing is left to do. -/
def State.serve : Nat → State → State
  | 0, s => s
  | fuel + 1, s =>
    match s.serveOnce with
    | none => s
    | some s' => State.serve fuel s'

/-- At one event each of the sixteen slots can be emptied once and each transmitter started once, so forty rounds are more
than enough. -/
def serveRounds : Nat := 40

/-! ## FLOW toward the channel station (R42) -/

/-- The FLOW state that line `n`'s room calls for. -/
def State.flowWanted (s : State) (n : LineNo) : Option FlowState :=
  match s.path[n].flow with
  | some .go => if s.outRoom n ≤ 16 then some .hold else some .go
  | some .hold => if 8 * (s.group n).allowance ≤ s.outRoom n then some .go else some .hold
  | none => none

/-- Line `n`'s FLOW state follows its room; a FLOW request is raised at each change (R42). -/
def State.updateFlow (n : LineNo) (s : State) : State :=
  if s.flowWanted n = s.path[n].flow then s
  else (s.updPath n fun p => { p with flow := s.flowWanted n }).raise (.flow n)

/-! ## Flow control toward the terminal (R36) -/

/-- A new owed flow character; the opposite of one still owed, sent in part or not at all, cancels it (log entry 41). -/
def Path.owe (p : Path) (c : FlowChar) : Path :=
  match p.owed with
  | none => { p with owed := some c }
  | some d => if d = c then p else { p with owed := none }

/-- After an append to the inbound queue: XOFF is owed at 16·Ain − 8 characters (R36). -/
def State.inputAppended (s : State) (n : LineNo) : State :=
  let p := s.path[n]
  let g := s.group n
  if g.xonXoff && !p.inputHeld && 16 * g.inAllowance - 8 ≤ p.inQ.chars.length then
    s.setPath n (Path.owe { p with inputHeld := true } .xoff)
  else s

/-- After a removal from the inbound queue: XON is owed at 8·Ain characters (R36). -/
def State.inputRemoved (s : State) (n : LineNo) : State :=
  let p := s.path[n]
  let g := s.group n
  if g.xonXoff && p.inputHeld && p.inQ.chars.length ≤ 8 * g.inAllowance then
    s.setPath n (Path.owe { p with inputHeld := false } .xon)
  else s

/-! ## Clearing a line's Character Path state -/

/-- Entry to HANGUP: both queues are emptied, the transmitter stops, and everything of Table 2-4 is cleared (R19, R48). -/
def State.clearPath (s : State) (n : LineNo) : State :=
  { s.setPath n Path.fresh with free := s.free + s.path[n].held }

/-- The end of a session: the inbound queue is emptied and the inbound state of the line cleared (R72). -/
def State.endPath (s : State) (n : LineNo) : State :=
  (s.setIn n Queue.empty).updPath n fun p =>
    { p with
      attention := false, brk := false, mark := none, fwdDue := false, fwdTimer := none, inFlight := none,
      inputHeld := false, owed := none, flow := none, channelHold := false }

/-- The start of a session: output-paused and input-held are clear, no flow character is owed, and the FLOW state is GO (R36,
R42, R44). -/
def State.beginPath (s : State) (n : LineNo) : State :=
  s.updPath n fun p =>
    { p with
      paused := false, inputHeld := false, owed := none, attention := false, brk := false, mark := none,
      fwdDue := false, fwdTimer := none, inFlight := none, flow := some .go, channelHold := false }

/-- A flag is set to wait for forwarding: the mark is placed after the last character of the inbound queue, and a flag taken
again since a build is remembered for R39 (R35). -/
def Path.setFlag (p : Path) (isBreak : Bool) : Path :=
  { p with
    attention := p.attention || !isBreak
    brk := p.brk || isBreak
    mark := some p.inQ.chars.length
    inFlight := p.inFlight.map fun f =>
      { f with
        attentionAgain := f.attentionAgain || !isBreak
        brkAgain := f.brkAgain || isBreak } }

end Sys2Proof.Machine
end

