-- ==== Sys2Proof/Machine/Sessions.lean ====
section
/-! DEFINITION. The shared work on session records: close causes, the meter and its allowance, hold, the end of a session with
its charge record, offers, and confirmation requests (R69 to R73, R99 to R118). -/

namespace Sys2Proof.Machine

/-! ## Close causes (R71) -/

/-- The reasons that make no close request of the Line Supervisor. -/
def CloseReason.direct : CloseReason → Bool
  | .carrier | .restart => true
  | _ => false

/-- A close cause reaches line `n`'s session: the first one sets the close reason, ends confirm-pending, and makes the close
request unless the reason is CARRIER or RESTART; a later one leaves it as it stands. -/
def State.closeCause (n : LineNo) (r : CloseReason) (s : State) : State :=
  match s.sess[n] with
  | none => s
  | some x =>
    if x.reason = none then
      let s' := s.setSess n (some { x with reason := some r, confirm := none })
      if r.direct then s' else s'.setAsks n { s.asks[n] with close := true }
    else s

/-! ## Meter arithmetic (R99, R102, R103) -/

/-- The rate of a table at a minute-of-week: that of the band it gives for the tariff hour. -/
def rateAt (t : Tariff) (minute : Nat) : Nat := t.rates[(t.bands[minute / 60]?).getD 0]

/-- The units a tick at rate `r` produces. -/
def Session.produced (x : Session) (r : Nat) : Nat := (x.residue + r) / 3600

/-- Duration, residue and units of a session metered for one tick at rate `r`. -/
def Session.advance (x : Session) (r : Nat) : Session :=
  { x with
    duration := min meterTop (x.duration + 1)
    residue := (x.residue + r) % 3600
    units := min meterTop (x.units + x.produced r)
    saturated := x.saturated || meterTop ≤ x.duration || meterTop < x.units + x.produced r }

/-- The remaining allowance falls by the units produced, not below 0; unlimited stays unlimited (R104). -/
def Session.deduct (x : Session) (units : Nat) : Session := { x with remaining := x.remaining.map (· - units) }

/-! ## Allowance, warning and grace (R105, R106) -/

/-- What a step of the meter asks of the rest of the part: the messages taken as notices, in order, and a close. -/
structure MeterStep where
  sess : Session
  notices : List (Fin 16)
  close : Option CloseReason
deriving DecidableEq, Repr

/-- A change of the remaining allowance is tested: it warns with M10, exhausts with M11 and a grace counter, or closes with
ALLOWANCE when the grace time is 0. -/
def Session.testAllowance (cfg : Configuration) (x : Session) : MeterStep :=
  match x.remaining with
  | none => ⟨x, [], none⟩
  | some 0 =>
    if x.grace = none then
      if 0 < cfg.graceTime then ⟨{ x with grace := some cfg.graceTime }, [11], none⟩ else ⟨x, [], some .allowance⟩
    else ⟨x, [], none⟩
  | some (r + 1) =>
    if r + 1 ≤ cfg.warnThreshold ∧ x.warned = false then ⟨{ x with warned := true }, [10], none⟩ else ⟨x, [], none⟩

/-- The grace counter falls by 1 at a metered tick before which it was present, and closes the session at 0 (R107). -/
def MeterStep.lowerGrace (m : MeterStep) (before : Option Nat) : MeterStep :=
  match before, m.sess.grace with
  | some _, some g => { m with
      sess := { m.sess with grace := some (g - 1) }
      close := if g ≤ 1 then some .allowance else m.close }
  | _, _ => m

/-- The idle timer is lowered unless the meter's work has closed the session: M12 at 60, close with IDLE at 0 (R70). -/
def MeterStep.lowerIdle (m : MeterStep) : MeterStep :=
  match m.close, m.sess.idle with
  | none, some (i + 1) => { m with
      sess := { m.sess with idle := some i }
      notices := if i = 60 then m.notices ++ [12] else m.notices
      close := if i = 0 then some .idle else none }
  | _, _ => m

/-- A tick at which the session is metered at rate `r` (R101 to R107, R70). -/
def Session.meter (cfg : Configuration) (r : Nat) (x : Session) : MeterStep :=
  let y := (x.advance r).deduct (x.produced r)
  let m : MeterStep := if y.remaining = x.remaining then ⟨y, [], none⟩ else y.testAllowance cfg
  (m.lowerGrace x.grace).lowerIdle

/-- A tick at which the session is held, its hold counter at `h` (R110). -/
def Session.holdTick (cfg : Configuration) (h : Nat) (x : Session) : MeterStep :=
  ⟨{ x with hold := some (h + 1) }, [], if 60 * cfg.channelLoss ≤ h + 1 then some .channelLost else none⟩

/-- What one tick does to a session; nothing to one whose close reason is set (R71, R101). -/
def State.tickSession (s : State) (x : Session) : Option MeterStep :=
  if x.reason = none then
    match x.hold with
    | some h => some (x.holdTick s.cfg h)
    | none => some (x.meter s.cfg (rateAt s.cfg.tariffs[x.table] s.clock.minute))
  else none

/-- What one tick does to line `n`'s session, if it has one. -/
def State.tickLine (s : State) (n : LineNo) : Option MeterStep := s.sess[n].bind s.tickSession

/-- The clock advances by one second (R97). -/
def Clock.advance (c : Clock) : Clock :=
  if c.second + 1 < 60 then { c with second := c.second + 1 }
  else { c with second := 0, minute := if c.minute + 1 < 10080 then c.minute + 1 else 0 }

/-- Notices, taken one after another for a line. -/
def State.noticeMessages (ms : List (Fin 16)) (n : LineNo) (s : State) : State :=
  ms.foldl (fun s m => s.noticeText n (messageText [m])) s

/-- The notices a meter step gives. -/
def noticesOf (m : Option MeterStep) : List (Fin 16) :=
  match m with
  | some m => m.notices
  | none => []

/-- The close cause a meter step gives reaches the session. -/
def State.closeBy (n : LineNo) (m : Option MeterStep) (s : State) : State :=
  match m with
  | some ⟨_, _, some r⟩ => s.closeCause n r
  | _ => s

/-- One tick (R101): every open session is metered or held, each by itself; then the notices they call for are taken, and
the sessions they close are closed; then the station clock advances. -/
def State.tick (s : State) : State :=
  let step := s.tickLine
  let s1 : State := { s with
    sess := mapTable s.sess fun n x =>
      match step n with
      | some m => some m.sess
      | none => x }
  let s2 := inFreeOrder (allLines.filter fun n => noticesOf (step n) ≠ []) (fun n => State.noticeMessages (noticesOf (step n)) n) s1
  let s3 := eachLine allLines (fun n => State.closeBy n (step n)) s2
  { s3 with clock := s3.clock.advance }

/-! ## Finishing the meter and the charge record (R112 to R117) -/

/-- The session with its meter finished: round half up, then the minimum charge of its table (R112). -/
def Session.finish (cfg : Configuration) (x : Session) : Session :=
  let up := 1800 ≤ x.residue
  let units := if up then min meterTop (x.units + 1) else x.units
  { x with
    units := max units cfg.tariffs[x.table].minimum
    saturated := x.saturated || (up && meterTop ≤ x.units) }

/-- The first value from `c` on that no record in the queue bears (R115); 33 tries are enough for 32 records. -/
def freeSerial (q : List Queued) : Nat → BitVec 8 → BitVec 8
  | 0, c => c
  | fuel + 1, c => if q.any (fun r => r.charge.serial = c) then freeSerial q fuel (c + 1) else c

/-- The charge record of a finished session (Table 6-1). -/
def chargeOf (serial : BitVec 8) (n : LineNo) (x : Session) (r : CloseReason) : Charge where
  serial := serial
  line := n
  user := x.user
  startMinute := if x.clockUnset then none else x.startMinute
  duration := x.duration
  units := x.units
  reason := r
  provisional := x.provisional
  lateConfirmed := x.lateConfirmed
  clockUnset := x.clockUnset
  timebase := x.timebase
  saturated := x.saturated
  held := x.held

/-- A record joins the back of the queue; its serial is the next that no record bears, and the counter advances past it. A
request left over from an earlier record of that serial is not the new record's (R114 to R116). -/
def State.appendCharge (s : State) (n : LineNo) (x : Session) (r : CloseReason) : State :=
  let serial := freeSerial s.queue 33 s.recordSerial
  { s.dropReq (.charge serial) with
    queue := s.queue ++ [⟨chargeOf serial n x r, false, none⟩]
    recordSerial := serial + 1 }

/-- A RELEASE is raised for line `n`: its contents go into the line's release slot (R81). -/
def State.raiseRelease (s : State) (n : LineNo) (r : ReleaseSlot) : State :=
  (s.setClaims n { s.claims[n] with release := some r }).raise (.release n)

/-- Line `n`'s session ends with reason `r`, as its line leaves SESSION otherwise than at a restart: the meter is finished and
the charge record appended, a RELEASE is raised, the record is removed, and the inbound side of the Character Path is
cleared (R72). -/
def State.endSession (n : LineNo) (x : Session) (r : CloseReason) (s : State) : State :=
  let s1 := s.appendCharge n (x.finish s.cfg) r
  let s2 := s1.raiseRelease n ⟨x.user, x.serial, .closed r⟩
  let s3 := s2.setClaims n { s2.claims[n] with surveyOwed := false }
  (s3.setSess n none).endPath n

/-- The part of a closing text (R73). -/
def closingPart : CloseReason → Option TextPart
  | .ended => some (.message 14)
  | .idle => some (.message 12)
  | .allowance => some (.message 11)
  | .operator => some (.notice 0)
  | .channelLost => some (.message 13)
  | .notConfirmed => some (.message 4)
  | .carrier | .restart => none

/-- The closing text of a session, its summary line written from the charge record's figures (R73). -/
def closingText (cfg : Configuration) (x : Session) (r : CloseReason) : Text :=
  let y := x.finish cfg
  ⟨(closingPart r).toList, some (y.duration, y.units)⟩

/-! ## Hold (R109, R111) -/

/-- Line `n`'s session is to enter hold. -/
def State.entersHold (s : State) (n : LineNo) : Bool :=
  match s.sess[n] with
  | some x => x.reason = none && x.hold = none && s.holdCondition x
  | none => false

/-- A session at the test of the hold conditions: it enters hold with its counter at 0 and HELD set, or its hold ends. -/
def State.holdTest (s : State) (x : Session) : Session :=
  if x.reason = none then
    if s.holdCondition x then
      if x.hold = none then { x with hold := some 0, held := true } else x
    else { x with hold := none }
  else x

/-- The hold conditions are tested for every session, and M13 is taken for each that enters hold. -/
def State.testHold (s : State) : State :=
  let entering := allLines.filter s.entersHold
  inFreeOrder entering (State.noticeMessages [13])
    { s with sess := mapTable s.sess fun _ x => x.map s.holdTest }

/-! ## Offers (R118, R123) -/

/-- The 5 s ack wait (Table 6-2). -/
def ackWaitMs : Nat := 5000

/-- The number of offered records. -/
def offeredCount (q : List Queued) : Nat := (q.filter Queued.offered).length

/-- The oldest record not offered becomes offered, its ack wait started. -/
def offerOldest (now : Moment) : List Queued → List Queued
  | [] => []
  | r :: rest =>
    if r.offered then r :: offerOldest now rest else { r with offered := true, ackWait := some (now + ackWaitMs) } :: rest

/-- The oldest record that is not offered. -/
def oldestUnoffered (q : List Queued) : Option Queued := q.find? fun r => !r.offered

/-- One offer, if fewer than four records are offered and one is not (R118). -/
def State.offerOne (s : State) : State :=
  match oldestUnoffered s.queue with
  | some r =>
    if offeredCount s.queue < offerWindow then
      State.raise { s with queue := offerOldest s.now s.queue } (.charge r.charge.serial)
    else s
  | none => s

/-- A record with its offered mark cleared and its ack wait stopped (R123). -/
def Queued.unoffer (r : Queued) : Queued := { r with offered := false, ackWait := none }

/-- The offers as the present accountants call for: none while no accountant is present, up to four otherwise. -/
def State.updateOffers (s : State) : State :=
  if s.accountantPresent then s.offerOne.offerOne.offerOne.offerOne
  else { s with queue := s.queue.map Queued.unoffer }

/-! ## Confirmation requests (R69) -/

/-- Line `n`'s session raises a CONFIRM at this event. -/
def State.wantsConfirm (s : State) (n : LineNo) : Bool :=
  match s.sess[n] with
  | some x =>
    x.provisional && x.reason = none && !s.cfg.noAccountant && s.accountantPresent &&
      match x.confirm with
      | none => true
      | some c => c.wait = none
  | none => false

/-- Line `n`'s session raises an ADMIT-REQ of kind CONFIRM with the next request serial and starts its reply wait. -/
def State.raiseConfirm (n : LineNo) (s : State) : State :=
  let serial := s.requestSerial
  let s1 : State := { s with requestSerial := serial + 1 }
  let s2 := s1.updSess n fun x => { x with confirm := some ⟨serial, some (s.now + 1000 * s.cfg.replyWait), false⟩ }
  (s2.setClaims n { s2.claims[n] with admitConfirm := true }).raise (.admitReq n)

/-- Every provisional session that may raises a CONFIRM, in an order the manual leaves open. -/
def State.raiseConfirms (s : State) : State := inFreeOrder (allLines.filter s.wantsConfirm) State.raiseConfirm s

end Sys2Proof.Machine
end

