-- ==== Sys2Proof/Machine/Settle.lean ====
section
/-! DEFINITION. What follows at the same event from any change of the state: the reactions to stations turning present or absent
(R88), and the closing work of every event, after which nothing that "holds while" is out of date. -/

namespace Sys2Proof.Machine

/-! ## Stations turning present and absent (R88) -/

/-- Some accountant turns present between two rosters, or is seen to return by its fresh start. -/
def accountantTurned (before after : Vector RosterEntry 16) (returned : Option Station) : Bool :=
  (List.finRange 16).any fun i =>
    after[i].accountant && (!before[i].accountant || returned = some i)

/-- Line `n`'s session's channel station has turned absent from the CHANNEL role between two rosters. -/
def State.channelTurnedAbsent (s : State) (before : Vector RosterEntry 16) (n : LineNo) : Bool :=
  match s.sess[n] with
  | some x => before[x.channel].channel && !s.roster[x.channel].channel
  | none => false

/-- The Character Path states after channel-hold is cleared on some lines (R43). -/
def State.clearChannelHold (s : State) (p : LineNo → Bool) : State :=
  { s with path := mapTable s.path fun n x => if p n then { x with channelHold := false } else x }

/-- The blocks that depend on the roster take its change: channel-hold (R43), hold (R109), offers (R118, R123) and, when an
accountant turns present, the CONFIRM requests (R69). -/
def State.reactRoster (s : State) (before : Vector RosterEntry 16) (returned : Option Station) : State :=
  let s1 := s.clearChannelHold (s.channelTurnedAbsent before)
  let s2 := s1.testHold.updateOffers
  if accountantTurned before s2.roster returned then s2.raiseConfirms else s2

/-- One roster entry changed, and the change taken by the blocks that depend on it. The own entry is never changed (R85). -/
def State.changeRoster (s : State) (i : Station) (f : RosterEntry → RosterEntry) (returned : Option Station) : State :=
  if i = s.station then s
  else State.reactRoster { s with roster := s.roster.set i (f s.roster[i]) } s.roster returned

/-- A frame from station `i` is on the bus: its age becomes 0 (R86). -/
def State.hear (s : State) (i : Station) : State := s.changeRoster i (fun r => { r with age := 0 }) none

/-- A frame addressed to station `i` has been discarded: its age becomes 3 (R87). -/
def State.markAbsent (s : State) (i : Station) : State := s.changeRoster i (fun r => { r with age := 3 }) none

/-! ## The closing work of an event -/

/-- A drained line reports it: to the Line Supervisor in CLOSING (R18), to the Session Table in SESSION with END set (R41). -/
def State.reportDrained (n : LineNo) (s : State) : State :=
  if s.path[n].drained then
    match s.st n with
    | .closing => s.setAsks n { s.asks[n] with drained := true }
    | .session =>
      match s.sess[n] with
      | some x => if x.endMark then s.closeCause n .ended else s
      | none => s
    | _ => s
  else s

/-- A DATA-IN request is raised at the event that makes a line want one, where it may be coalesced; while the line wants one and none of
its frames is on the wire, one stands (R37, R156). -/
def State.raiseDataIn (before : State) (n : LineNo) (s : State) : State :=
  if s.wantsDataIn n && (!before.wantsDataIn n || !(s.req (.dataIn n)).pending && !s.onWire (.dataIn n)) then
    s.raise (.dataIn n)
  else s

/-- The LINE-STATE request of a forwarded line is raised at a signal change, or at an event that raises every line's (R129): once at one event,
however many of its signals change (log entry 16). -/
def State.raiseLineState (before : State) (every : Bool) (n : LineNo) (s : State) : State :=
  match s.cfg.tags[n] with
  | some tag => if every || before.signals n ≠ s.signals n then s.raise (.lineState tag) else s
  | none => s

/-- The closing work of an event, once the blocks are started: hold, offers, texts and transmitters, FLOW states, drained
reports, DATA-IN and LINE-STATE requests. -/
def State.settle (s before : State) (every : Bool) : State :=
  if s.started then
    let s1 := State.serve serveRounds s.testHold.updateOffers
    let s2 := eachLine allLines State.updateFlow s1
    let s3 := eachLine allLines State.reportDrained s2
    let s4 := eachLine allLines (State.raiseDataIn before) s3
    eachLine allLines (State.raiseLineState before every) s4
  else s

/-- One event at moment `t`: the clock moves to it, the event has its effect, and the closing work is done. -/
def State.event (s : State) (t : Moment) (effect : State → State) : State :=
  (effect (s.at t)).settle (s.at t) false

/-- One event that raises the LINE-STATE request of every forwarded line (R129). -/
def State.eventForAll (s : State) (t : Moment) (effect : State → State) : State :=
  (effect (s.at t)).settle (s.at t) true

/-- The outcome of a command: its event, always a next state. -/
def take (s : State) (t : Moment) (effect : State → State) : Host.Outcome State Fault Refusal :=
  .next (s.event t effect)

end Sys2Proof.Machine
end

