-- ==== Sys2Proof/Machine/Frames.lean ====
section
/-! DEFINITION. Frame formats (Chapter 11): levels and kind codes, payload layouts, the CRC, the well-formed test of R154 and
the bits of the LC-16's own frames. -/

namespace Sys2Proof.Machine

/-! ## Kinds (Table 11-2) -/

/-- The fourteen frame kinds (Table 11-2). -/
inductive FrameKind where
  | time | beacon | flow | release | claim | survey | admitReq | admitReply | order | charge | chargeAck | lineState | result
  | data
deriving DecidableEq, Repr

/-- The level and the kind code of a kind (Table 11-2). -/
def FrameKind.precedence : FrameKind → Nat × Nat
  | .time => (0, 0)
  | .beacon => (1, 1)
  | .flow => (1, 2)
  | .release => (2, 3)
  | .claim => (2, 4)
  | .survey => (2, 5)
  | .admitReq => (3, 6)
  | .admitReply => (3, 7)
  | .order => (3, 8)
  | .charge => (4, 9)
  | .chargeAck => (4, 10)
  | .lineState => (5, 11)
  | .result => (5, 12)
  | .data => (6, 13)

/-- The payload lengths of a kind, least and greatest (Table 11-2). -/
def FrameKind.lengths : FrameKind → Nat × Nat
  | .time => (3, 3)
  | .beacon => (10, 10)
  | .flow => (2, 2)
  | .release => (7, 7)
  | .claim => (8, 8)
  | .survey => (0, 0)
  | .admitReq => (14, 14)
  | .admitReply => (9, 9)
  | .order => (4, 4)
  | .charge => (15, 15)
  | .chargeAck => (1, 1)
  | .lineState => (2, 2)
  | .result => (3, 16)
  | .data => (2, 16)

/-- Every kind, in the order of Table 11-2. -/
def allKinds : List FrameKind :=
  [.time, .beacon, .flow, .release, .claim, .survey, .admitReq, .admitReply, .order, .charge, .chargeAck, .lineState, .result, .data]

/-- The kind that a level and a kind code name together; `none` for no pair of Table 11-2 (R172). -/
def kindOf (level kind : Nat) : Option FrameKind := allKinds.find? fun k => k.precedence = (level, kind)

/-- The kind of a request's frame (Table 9-3). -/
def ReqId.kind : ReqId → FrameKind
  | .beacon => .beacon
  | .flow _ => .flow
  | .release _ => .release
  | .claim _ => .claim
  | .survey => .survey
  | .admitReq _ => .admitReq
  | .charge _ => .charge
  | .lineState _ => .lineState
  | .orderResult _ => .result
  | .runResult _ => .result
  | .dataIn _ => .data

/-- The level and kind code of a request's frame (Table 11-2). -/
def ReqId.precedence (i : ReqId) : Nat × Nat := i.kind.precedence

/-- The destination field (Table 11-1). -/
def Dest.code : Dest → Nat
  | .station s => s.val
  | .accountants => 30
  | .all => 31

/-! ## Payloads (R173, Table 11-3) -/

/-- A number in one byte. -/
def byte1 (n : Nat) : List Byte := [BitVec.ofNat 8 n]

/-- A number in two bytes, most significant first. -/
def byte2 (n : Nat) : List Byte := [BitVec.ofNat 8 (n / 256), BitVec.ofNat 8 n]

/-- A number in three bytes, most significant first. -/
def byte3 (n : Nat) : List Byte := [BitVec.ofNat 8 (n / 65536), BitVec.ofNat 8 (n / 256), BitVec.ofNat 8 n]

/-- A user number as six BCD digits in three bytes. -/
def bcd3 (n : Nat) : List Byte :=
  let d := fun k => n / 10 ^ k % 10
  [BitVec.ofNat 8 (16 * d 5 + d 4), BitVec.ofNat 8 (16 * d 3 + d 2), BitVec.ofNat 8 (16 * d 1 + d 0)]

/-- A flag byte: 00h for clear and 01h for set. -/
def flag1 (b : Bool) : List Byte := [if b then 1 else 0]

/-- A byte of bit flags, bit 0 first. -/
def bits1 (bs : List Bool) : List Byte := [BitVec.ofNat 8 (bs.foldr (fun b v => b.toNat + 2 * v) 0)]

/-- A character with bit 7 sent as 0. -/
def char1 (c : Char7) : Byte := c.setWidth 8

/-- Close reason codes (Table 11-4). -/
def CloseReason.code : CloseReason → Nat
  | .ended => 0
  | .carrier => 1
  | .idle => 2
  | .allowance => 3
  | .operator => 4
  | .channelLost => 5
  | .notConfirmed => 6
  | .restart => 7

/-- Release reason codes (Table 11-4). -/
def ReleaseReason.code : ReleaseReason → Nat
  | .closed r => r.code
  | .withdrawn => 8

/-- FLOW state codes (Table 11-4). -/
def FlowState.code : FlowState → Nat
  | .go => 0
  | .hold => 1

/-- Claim kind codes (Table 11-4). -/
def ClaimKind.code : ClaimKind → Nat
  | .new => 0
  | .refresh => 1
  | .surveyAnswer => 2

/-- Order kind codes (Table 11-4). -/
def OrderKind.code : OrderKind → Nat
  | .forceOff => 1
  | .out => 2
  | .in_ => 3
  | .prove => 4
  | .drain => 5
  | .undrain => 6
  | .notice => 7
  | .restart => 8
  | .report => 9

/-- Outcome codes (Table 11-4). -/
def OrderOutcome.code : OrderOutcome → Nat
  | .done => 0
  | .queued => 1
  | .refusedLine => 2
  | .refusedState => 3
  | .refusedEntitlement => 4
  | .reportData _ _ => 6

/-- Proving verdict codes (Table 11-4). -/
def ProvingVerdict.code : ProvingVerdict → Nat
  | .pass => 0
  | .fail => 1
  | .noLock => 2
  | .noCarrier => 3
  | .carrierLost => 4
  | .aborted => 5

/-- Speed codes (Table 11-4). -/
def speedCode : Speed → Nat
  | .b110 => 0
  | .b150 => 1
  | .b300 => 2
  | .b600 => 3
  | .b1200 => 4
  | .b2400 => 5

/-- The code bytes of an ADMIT-REQ: eight bytes, those past the code length 00h. -/
def codeBytes (cs : List Char7) : List Byte := (cs.map char1 ++ List.replicate 8 0).take 8

/-- The payload of a frame of the LC-16 (Table 11-3). -/
def FrameBody.payload : FrameBody → List Byte
  | .beacon b =>
    bits1 [true] ++ flag1 b.freshStart ++ flag1 b.configClamped ++ flag1 b.clash ++ byte1 b.sessions ++ byte1 b.signOns ++
      byte1 b.freeLines ++ byte1 b.freeSlots ++ byte2 (4096 * b.alarmLevel)
  | .survey => []
  | .flow n x => byte1 n ++ byte1 x.code
  | .release n r => byte1 n ++ bcd3 r.user ++ byte2 r.serial.toNat ++ byte1 r.reason.code
  | .claim n k p user serial ch =>
    byte1 n ++ byte1 (k.code + 128 * p.toNat) ++ bcd3 user ++ byte2 serial.toNat ++ byte1 ch
  | .admitReq n serial confirm user code =>
    byte1 n ++ [serial] ++ byte1 (128 * confirm.toNat + code.length) ++ bcd3 user ++ codeBytes code
  | .charge c =>
    [c.serial] ++ byte1 c.line ++ bcd3 c.user ++ byte2 (c.startMinute.getD 0xFFFF) ++ byte3 c.duration ++ byte3 c.units ++
      byte1 c.reason.code ++
      bits1 [c.provisional, c.lateConfirmed, c.clockUnset, c.timebase, c.saturated, c.held]
  | .lineState tag g => byte1 tag ++ bits1 [g.busy, g.out, g.session, g.fault, g.mb]
  | .orderResult r data => byte1 r.kind.code ++ [r.line] ++ byte1 r.outcome.code ++ data
  | .runResult n r =>
    byte1 OrderKind.prove.code ++ byte1 n ++ byte1 5 ++ byte1 r.verdict.code ++ byte1 (speedCode r.speed) ++
      byte3 r.checked ++ byte1 r.errored ++ byte1 r.lockLosses ++ flag1 r.lockReached
  | .dataIn n a b cs => byte1 n ++ bits1 [a, b] ++ cs.map char1

/-! ## Bits and the CRC (R172) -/

/-- A field, most significant bit first; a dominant bit is 0. -/
def msbFirst {w : Nat} (v : BitVec w) : List Bool := (List.range w).map fun i => v.getMsbD i

/-- One bit into the CRC register of x^16 + x^12 + x^5 + 1. -/
def crcStep (r : BitVec 16) (b : Bool) : BitVec 16 :=
  if r.msb ^^ b then (r <<< 1) ^^^ 0x1021#16 else r <<< 1

/-- The CRC of a list of bits, the register preset to all ones. -/
def crcOf (bs : List Bool) : BitVec 16 := bs.foldl crcStep 0xFFFF#16

/-- The bits the CRC is computed over: precedence word, destination, payload length and payload (R154, R172). -/
def coveredBits (f : RawFrame) : List Bool :=
  msbFirst f.level ++ msbFirst f.kind ++ msbFirst f.source ++ msbFirst f.dest ++ msbFirst f.length ++
    f.payload.flatMap msbFirst

/-- The destination is 0 to 15, 30 or 31 (R154). -/
def destValid (d : BitVec 5) : Bool := d.toNat < 16 || d.toNat = 30 || d.toNat = 31

/-- The payload length is one Table 11-3 gives for the kind, and the payload has it (R154). -/
def frameLengthValid (f : RawFrame) : Bool :=
  match kindOf f.level.toNat f.kind.toNat with
  | some k => f.payload.length = f.length.toNat && k.lengths.1 ≤ f.payload.length && f.payload.length ≤ k.lengths.2
  | none => false

/-- The well-formed test (R154). -/
def frameWellFormed (f : RawFrame) : Bool :=
  crcOf (coveredBits f) = f.crc && destValid f.dest && frameLengthValid f

/-- A frame of the LC-16 as its fields stand on the wire. -/
def WireFrame.raw (w : WireFrame) (src : Station) : RawFrame :=
  let body := w.body.payload
  let f : RawFrame :=
    { level := BitVec.ofNat 3 w.req.precedence.1
      kind := BitVec.ofNat 5 w.req.precedence.2
      source := BitVec.ofNat 4 src
      dest := BitVec.ofNat 5 w.dest.code
      length := BitVec.ofNat 5 body.length
      payload := body
      crc := 0 }
  { f with crc := crcOf (coveredBits f) }

/-- The bits of a frame from its start to the end of its CRC (Table 11-1). -/
def frameBits (f : RawFrame) : List Bool := [false] ++ coveredBits f ++ msbFirst f.crc

/-- All the bits the LC-16 sends for a frame, the echo slot recessive (Table 11-1). -/
def WireFrame.bits (w : WireFrame) (src : Station) : List Bool := frameBits (w.raw src) ++ [true]

/-- The counters of a REPORT group in the order of Table 9-9, two bytes each but number clashes (R164). -/
def Counters.report (c : Counters) : Fin 3 → List Byte
  | 0 =>
    byte2 c.abandonedRings ++ byte2 c.ringsWhileBusy ++ byte2 c.carrierWaitTimeouts ++ byte2 c.carrierHits ++
      byte2 c.speedFailures ++ byte2 c.signOnTimeouts
  | 1 =>
    byte2 c.framingErrors ++ byte2 c.parityErrors ++ byte2 c.overruns ++ byte2 c.echoesLost ++ byte2 c.dataOutRefused ++
      byte2 c.noticesReplaced
  | 2 =>
    byte2 c.receiveFaults ++ byte2 c.strikes ++ byte2 c.framesDiscarded ++ byte2 c.requestsCoalesced ++
      byte2 c.staleReplies ++ byte2 c.agedOutEntries ++ byte1 c.numberClashes

/-- The data of an order's RESULT (R163, R164). -/
def resultData (c : Counters) : OrderOutcome → List Byte
  | .reportData g _ => c.report g
  | _ => []

/-! ## Serial characters on a line (R27, R28, R146) -/

/-- The parity bit the transmitter sends: it always makes the count of ones even (R28). -/
def evenParity (c : Char7) : Bool := (List.range 7).foldl (fun p i => p ^^ c.getLsbD i) false

/-- Whether a received character passes the group's parity check (R28). -/
def parityPasses (p : Parity) (c : Char7) (bit : Bool) : Bool :=
  match p with
  | .off => true
  | .even => (evenParity c ^^ bit) = false
  | .odd => (evenParity c ^^ bit) = true

/-- The number of stop bits at a speed: two at 110 baud (R27, R146). -/
def stopBits : Speed → Nat
  | .b110 => 2
  | _ => 1

/-- The bits TXD carries for a character of a call: start, seven data bits least significant first, the parity bit, and the
stop bits, mark being true (R27, R28). -/
def txdBits (sp : Speed) (c : Char7) : List Bool :=
  [false] ++ (List.range 7).map (fun i => c.getLsbD i) ++ [evenParity c] ++ List.replicate (stopBits sp) true

/-- The bits TXD carries for a character of a proving run: start, eight bits with no parity bit, stop bits (R146). -/
def txdProvingBits (sp : Speed) (c : Byte) : List Bool :=
  [false] ++ (List.range 8).map (fun i => c.getLsbD i) ++ List.replicate (stopBits sp) true

end Sys2Proof.Machine
end

