-- ==== Sys2Proof/Machine/Loader.lean ====
section
/-! DEFINITION. The Start-Up Loader's reading of the configuration store: the store map (R174, Table 11-5), the ranges and
special readings (R3, R128, R131, R169), and the outcome of the read (R168). -/

namespace Sys2Proof.Machine

/-- A value read from the image, and whether reading it sets config-clamped. -/
structure Loaded (α : Type) where
  val : α
  clamped : Bool
deriving DecidableEq, Repr

/-- A value taken as it stands. -/
def plain {α : Type} (v : α) : Loaded α := ⟨v, false⟩

/-- A numeric value; one outside its range is read as the nearest end and sets config-clamped (R169). -/
def ranged (lo hi v : Nat) : Loaded Nat := ⟨clampTo lo hi v, v < lo || hi < v⟩

/-- A numeric value with range 0 to n, as an index. -/
def rangedFin (n v : Nat) : Loaded (Fin (n + 1)) := ⟨clampFin n v, n < v⟩

/-- `len` bytes of the image from an offset. -/
def slice (img : List Byte) (off len : Nat) : List Byte := (img.drop off).take len

/-- The byte at a place of a slice. -/
def at1 (bs : List Byte) (i : Nat) : Byte := bs.getD i 0

/-- The one-byte number at a place. -/
def num1 (bs : List Byte) (i : Nat) : Nat := (at1 bs i).toNat

/-- The two-byte number at a place, most significant byte first (R174). -/
def num2 (bs : List Byte) (i : Nat) : Nat := 256 * num1 bs i + num1 bs (i + 1)

/-- Four-byte masks, most significant byte first (R174). -/
def num4 (bs : List Byte) (i : Nat) : Nat := 65536 * num2 bs i + num2 bs (i + 2)

/-- A table loaded entry by entry. -/
def loadTable {α : Type} (n : Nat) (f : Fin n → Loaded α) : Loaded (Vector α n) :=
  ⟨tabulate n fun i => (f i).val, (List.finRange n).any fun i => (f i).clamped⟩

/-- The parity byte: 3 to FFh are read as off and set config-clamped (R174). -/
def loadParity (v : Nat) : Loaded Parity :=
  match v with
  | 0 => plain .off
  | 1 => plain .even
  | 2 => plain .odd
  | _ => ⟨.off, true⟩

/-- One hunt group from its eight bytes (R3, R169, R174). -/
def loadGroup (bs : List Byte) : Loaded Group :=
  let speeds : BitVec 6 := (at1 bs 0).setWidth 6
  let parity := loadParity (num1 bs 1)
  let flags := at1 bs 2
  let rings := ranged 1 8 (num1 bs 5)
  let a := ranged 3 16 (num1 bs 6)
  let ain := ranged 1 4 (num1 bs 7)
  ⟨{ speeds := if speeds = 0 then 0x3F else speeds
     parity := parity.val
     xonXoff := flags.getLsbD 0
     attention1 := if flags.getLsbD 1 then some (charOf (at1 bs 3)) else none
     attention2 := if flags.getLsbD 2 then some (charOf (at1 bs 4)) else none
     answerRings := rings.val
     allowance := a.val
     inAllowance := min ain.val (a.val - 2) },
   speeds = 0 || parity.clamped || rings.clamped || a.clamped || ain.clamped || decide (a.val - 2 < ain.val)⟩

/-- A forward tag: FFh is none, 40h to FEh are read as 63 (R174). -/
def loadTag (v : Nat) : Loaded (Option (Fin 64)) :=
  if v = 255 then plain none else ⟨some (clampFin 63 v), 63 < v⟩

/-- A tag that repeats a lower-numbered line's is set aside: the line is treated as having none (R128). -/
def dedupTags (v : Vector (Option (Fin 64)) 16) : Vector (Option (Fin 64)) 16 :=
  mapTable v fun n x => if x.isSome && allLines.any (fun m => decide (m < n) && v[m] = x) then none else x

/-- The ring and carrier times from their eleven bytes (Table 1-4). -/
def loadTimes (bs : List Byte) : Loaded LineTimes :=
  let a := ranged 50 1000 (num2 bs 0)
  let b := ranged 1000 6000 (num2 bs 2)
  let c := ranged 4 15 (num1 bs 4)
  let d := ranged 100 1000 (num2 bs 5)
  let e := ranged 5 60 (num1 bs 7)
  let f := ranged 100 2000 (num2 bs 8)
  let g := ranged 1 10 (num1 bs 10)
  ⟨⟨a.val, b.val, c.val, d.val, e.val, f.val, g.val⟩,
   a.clamped || b.clamped || c.clamped || d.clamped || e.clamped || f.clamped || g.clamped⟩

/-- One class table entry from its two bytes. -/
def loadClass (bs : List Byte) : Loaded ClassEntry :=
  let a := ranged 0 240 (num1 bs 0)
  ⟨⟨a.val, flagByte (at1 bs 1)⟩, a.clamped⟩

/-- The provisional grant from bytes 1 to 6 of its item (Table 11-5). -/
def loadProvisional (bs : List Byte) : Loaded Granted :=
  let a := rangedFin 7 (num1 bs 1)
  let b := ranged 1 7 (num1 bs 2)
  let c := ranged 1 65535 (num2 bs 3)
  let d := rangedFin 3 (num1 bs 5)
  let e := rangedFin 15 (num1 bs 6)
  ⟨⟨a.val, b.val, d.val, e.val, c.val⟩, a.clamped || b.clamped || c.clamped || d.clamped || e.clamped⟩

/-- One tariff table from its 178 bytes (Table 5-3). -/
def loadTariff (bs : List Byte) : Loaded Tariff :=
  let bands := loadTable 168 fun i => rangedFin 3 (num1 bs i)
  let rates := loadTable 4 fun i => ranged 0 9999 (num2 bs (168 + 2 * i.val))
  ⟨⟨bands.val, rates.val, num1 bs 176, num1 bs 177⟩, bands.clamped || rates.clamped⟩

/-- A message or notice: its length byte and its characters, cut to its limit (R169, R174). -/
def loadText (limit : Nat) (bs : List Byte) : Loaded (List Char7) :=
  ⟨((bs.drop 1).take (min limit (num1 bs 0))).map charOf, limit < num1 bs 0⟩

/-- A slot source byte (R174). -/
def loadSource (v : Nat) : Loaded SlotSource :=
  if v < 64 then plain (.tag (clampFin 63 v))
  else if v < 80 then plain (.line (clampFin 15 (v - 64)))
  else if v = 255 then plain .unused
  else ⟨.unused, true⟩

/-- The signal a slot byte selects; 5 to 7 are read as MB (R174). -/
def loadSignal (v : Nat) : Loaded Signal :=
  match v with
  | 0 => plain .busy
  | 1 => plain .out
  | 2 => plain .session
  | 3 => plain .fault
  | 4 => plain .mb
  | _ => ⟨.mb, true⟩

/-- One aggregation slot from its two bytes. -/
def loadSlot (bs : List Byte) : Loaded SlotConfig :=
  let src := loadSource (num1 bs 0)
  let sig := loadSignal (num1 bs 1 % 8)
  ⟨⟨src.val, sig.val, (at1 bs 1).getLsbD 3, (at1 bs 1).getLsbD 4⟩, src.clamped || sig.clamped⟩

/-- One group output from its seven bytes. -/
def loadOutput (bs : List Byte) : OutputConfig :=
  let f := at1 bs 4
  { select := BitVec.ofNat 32 (num4 bs 0)
    invert := f.getLsbD 0
    pin := f.getLsbD 1
    alarm := f.getLsbD 2
    busy := f.getLsbD 3
    busyLines := BitVec.ofNat 16 (num2 bs 5) }

/-- The slot watches a local line's MB signal. -/
def watchesLocalMb (c : SlotConfig) : Bool :=
  match c.source with
  | .line _ => c.signal = .mb
  | _ => false

/-- A slot watching a local MB signal that a BUSY-mode output selects is read as unused (R131, R169). -/
def loadSlots (raw : Loaded (Vector SlotConfig 32)) (outs : Vector OutputConfig 4) : Loaded (Vector SlotConfig 32) :=
  let bad := fun (i : Fin 32) (c : SlotConfig) =>
    watchesLocalMb c && (List.finRange 4).any fun g => outs[g].busy && outs[g].select.getLsbD i
  ⟨mapTable raw.val fun i c => if bad i c then { c with source := .unused } else c,
   raw.clamped || (List.finRange 32).any fun i => bad i raw.val[i]⟩

/-- The bus-rate code; one that names none of the three rates is read as 1,000 kbit/s (R169). -/
def loadBusRate (v : Nat) : Loaded BusRate :=
  match v with
  | 0 => plain .k250
  | 1 => plain .k500
  | 2 => plain .k1000
  | _ => ⟨.k1000, true⟩

/-- The length of the store image (R174). -/
def imageBytes : Nat := 1978

/-- Every item of a matching image, at its place of Table 11-5, clamped as R169 gives. -/
def loadImage (img : List Byte) : Loaded Configuration :=
  let groups := loadTable 4 fun g => loadGroup (slice img (0x02 + 8 * g.val) 8)
  let lineGroup := loadTable 16 fun n => rangedFin 3 (num1 img (0x22 + n.val))
  let tags := loadTable 16 fun n => loadTag (num1 img (0x34 + n.val))
  let times := loadTimes (slice img 0x44 11)
  let t := slice img 0x4F 6
  let signOn := ranged 60 300 (num2 t 0)
  let reply := ranged 2 30 (num1 t 2)
  let refresh := ranged 20 120 (num1 t 3)
  let fwd := ranged 20 500 (num2 t 4)
  let classes := loadTable 8 fun c => loadClass (slice img (0x55 + 2 * c.val) 2)
  let p := slice img 0x65 10
  let prov := loadProvisional p
  let fallback := ranged 0 4095 (num2 p 8)
  let m := slice img 0x6F 4
  let grace := ranged 0 600 (num2 m 1)
  let loss := ranged 1 30 (num1 m 3)
  let tariffs := loadTable 4 fun k => loadTariff (slice img (0x73 + 178 * k.val) 178)
  let messages := loadTable 16 fun k => loadText 40 (slice img (0x33B + 41 * k.val) 41)
  let notices := loadTable 8 fun k => loadText 48 (slice img (0x5CB + 49 * k.val) 49)
  let outputs := tabulate 4 fun g => loadOutput (slice img (0x793 + 7 * g.val) 7)
  let slots := loadSlots (loadTable 32 fun i => loadSlot (slice img (0x753 + 2 * i.val) 2)) outputs
  let levels := loadTable 8 fun k => ranged 0 7 (num1 img (0x7AF + k.val))
  let threshold := ranged 0 7 (num1 img 0x7B7)
  let rate := loadBusRate (num1 img 0x7B9)
  ⟨{ groups := groups.val
     lineGroup := lineGroup.val
     inService := BitVec.ofNat 16 (num2 img 0x32)
     tags := dedupTags tags.val
     times := times.val
     signOnTime := signOn.val
     replyWait := reply.val
     refreshPeriod := refresh.val
     forwardingTimer := fwd.val
     classes := classes.val
     provisionalEnable := flagByte (at1 p 0)
     provisional := prov.val
     noAccountant := flagByte (at1 p 7)
     fallbackCeiling := fallback.val
     tariffs := tariffs.val
     warnThreshold := num1 m 0
     graceTime := grace.val
     channelLoss := loss.val
     messages := messages.val
     notices := notices.val
     slots := slots.val
     outputs := outputs
     alarmLevels := levels.val
     alarmThreshold := threshold.val
     passThreshold := num1 img 0x7B8
     busRate := rate.val },
   groups.clamped || lineGroup.clamped || tags.clamped || times.clamped || signOn.clamped || reply.clamped ||
     refresh.clamped || fwd.clamped || classes.clamped || prov.clamped || fallback.clamped || grace.clamped ||
     loss.clamped || tariffs.clamped || messages.clamped || notices.clamped || slots.clamped || levels.clamped ||
     threshold.clamped || rate.clamped⟩

/-- The format mark: A5h at 0000h followed by 16h at 0001h (R174). -/
def markMatches (img : List Byte) : Bool := at1 img 0 = 0xA5 && at1 img 1 = 0x16

/-- The longest the store may hold the clock line low, 25 ms in microseconds (R168). -/
def clockLowLimit : Nat := 25000

/-- The store answers throughout the read (R168): it acknowledges its device address and every byte sent, never holds the clock line low
for more than 25 ms, and gives every byte of the image (section 11.3's note: an image too short does not answer at the first byte it
lacks). -/
def storeAnswers (r : StoreRead) : Bool :=
  r.addressAck && r.byteAcks.all id && r.clockLow.all (· ≤ clockLowLimit) && imageBytes ≤ r.image.length

/-- The outcome of the read (R168): a store that answers throughout, with the format mark, gives its items; one that does not
answer, or answers with another mark, leaves every item at its built-in default and sets config-clamped. -/
def readStore (store : StoreRead) : Loaded Configuration :=
  if storeAnswers store && markMatches store.image then loadImage store.image else ⟨Configuration.builtIn, true⟩

end Sys2Proof.Machine
end

