-- ==== Sys2Proof/Machine/LineMoves.lean ====
section
/-! DEFINITION. The moves of a line from state to state that several commands share: entering IDLE, OUT, ANSWERING and HANGUP,
refusing a sign-on, and ending a proving run (R8, R13, R19, R20, R52, R150, R151). -/

namespace Sys2Proof.Machine

/-- Line `n` would enter IDLE: with out-pending set it enters OUT instead and out-pending is cleared; FAULT is left as it stands.
In IDLE a burst measurement open already continues, and RI active with none open begins one (R7, R20). -/
def LineRec.enterIdle (l : LineRec) (now : Moment) : LineRec :=
  if l.outPending then
    { LineRec.fresh .out l.ri l.cd with fault := l.fault }
  else
    { LineRec.fresh .idle l.ri l.cd with
      fault := l.fault
      burst := if l.ri then some (l.burst.getD now) else none }

/-- The line enters OUT with out-pending as it stands; timers and measurements of the state it leaves stop (R5). -/
def LineRec.enterOut (l : LineRec) : LineRec :=
  { LineRec.fresh .out l.ri l.cd with fault := l.fault, outPending := l.outPending }

/-- A stuck ring: the line goes to OUT with FAULT set and out-pending, count and blocked cleared (R8). -/
def LineRec.stuck (l : LineRec) : LineRec := { LineRec.fresh .out l.ri l.cd with fault := true }

/-- Entry to ANSWERING: count and blocked are cleared, ring-silence stops, carrier-wait starts, and qualification begins if CD is
already active (R13). -/
def LineRec.enterAnswering (l : LineRec) (now wait : Nat) : LineRec :=
  { LineRec.fresh .answering l.ri l.cd with
    fault := l.fault
    outPending := l.outPending
    carrierWait := some (now + 1000 * wait)
    qual := if l.cd then some now else none }

/-- Entry to HANGUP: every timer and measurement of the line record stops but the hangup guard, which starts (R19). -/
def LineRec.enterHangup (l : LineRec) (guard : Option Moment) : LineRec :=
  { LineRec.fresh .hangup l.ri l.cd with fault := l.fault, outPending := l.outPending, hangupGuard := guard }

/-- Entry to CLOSING: the drain-limit timer of 10 s starts; a dropout measurement goes on (R15, R18). -/
def LineRec.enterClosing (l : LineRec) (now : Moment) : LineRec :=
  { LineRec.fresh .closing l.ri l.cd with
    fault := l.fault
    outPending := l.outPending
    dropout := l.dropout
    drainLimit := some (now + 10000) }

/-- Entry to a state of a call in which a dropout measurement goes on (R15). -/
def LineRec.enterCall (l : LineRec) (st : LineState) : LineRec :=
  { LineRec.fresh st l.ri l.cd with fault := l.fault, outPending := l.outPending, dropout := l.dropout }

/-- Entry to PROVING: any burst measurement is abandoned, ring-silence stopped, count and blocked cleared (R17). -/
def LineRec.enterProving (l : LineRec) : LineRec :=
  { LineRec.fresh .proving l.ri l.cd with fault := l.fault, outPending := l.outPending }

/-- A change of line `n`'s record. -/
def State.updSup (s : State) (n : LineNo) (f : LineRec → LineRec) : State := s.setSup n (f s.sup[n])

/-- Line `n` enters HANGUP: DTR and TST follow the state, the Character Path is cleared, the hangup guard starts, and the
requests made of the Line Supervisor for the call are dropped, since each would be ignored (R17, R19; log entry 7). -/
def State.hangup (s : State) (n : LineNo) : State :=
  let s1 := s.updSup n fun l => l.enterHangup (some (s.now + 1000 * s.cfg.times.hangupGuard))
  (s1.setAsks n { Asks.fresh with begin := s.asks[n].begin }).clearPath n

/-- The Sign-On Controller enters REFUSING with a refusal text, from any other phase: its timers stop, a RELEASE with reason
WITHDRAWN is raised if claim raised is set, and the refuse request is made (R52). -/
def State.enterRefusing (s : State) (n : LineNo) (t : Text) : State :=
  match s.sign[n] with
  | none => s
  | some c =>
    if c.phase = .refusing then s
    else
      let s1 := s.setSign n (some { c with phase := .refusing, signOnTimer := none, replyWait := none })
      let s2 :=
        if c.claimRaised then
          s1.raiseRelease n ⟨decimalValue (c.digits.map Fin.val), c.sessionSerial.getD 0, .withdrawn⟩
        else s1
      s2.setAsks n { s2.asks[n] with refuse := some t }

/-- The speeds in order of their codes. -/
def allSpeeds : List Speed := [.b110, .b150, .b300, .b600, .b1200, .b2400]

/-- A speed is in a group's allowed speed set (R3, R174). -/
def speedAllowed (g : Group) (sp : Speed) : Bool := g.speeds.getLsbD (speedCode sp)

/-- The lowest speed of a group's allowed speed set (R30). -/
def lowestSpeed (g : Group) : Speed := ((allSpeeds.filter (speedAllowed g)).head?).getD .b110

/-- The highest speed of a group's allowed speed set (R144). -/
def highestSpeed (g : Group) : Speed := ((allSpeeds.filter (speedAllowed g)).getLast?).getD .b110

/-- A result record is filled and its RESULT request raised (R151). -/
def State.fillResult (s : State) (n : LineNo) (r : RunResult) : State := (s.setResult n (some r)).raise (.runResult n)

/-- The run record at the end of a run: the phase becomes none, timers and measurements stop, locked is cleared and the counts stay
(R150, Table 8-2). -/
def Run.ended (r : Run) : Run :=
  { r with phase := .none, carrierWait := none, qual := none, runTimer := none, dropout := none, locked := false }

/-- A run of line `n` ends with a verdict: the result record is filled and the transmitter stops at once (R146, R150, R151). -/
def State.endRun (s : State) (n : LineNo) (v : ProvingVerdict) : State :=
  let r := s.run[n]
  let s1 := s.fillResult n ⟨r.station, v, r.speed, r.checked, r.errored, r.lockLosses, r.lockReached⟩
  (s1.setRun n r.ended).updPath n fun p => { p with tx := none }

/-- A run ends by itself and makes the end-proving request (R150). -/
def State.finishRun (s : State) (n : LineNo) (v : ProvingVerdict) : State :=
  let s1 := s.endRun n v
  s1.setAsks n { s1.asks[n] with endRun := some v }

end Sys2Proof.Machine
end

