-- ==== Sys2Proof/Machine/SignOn.lean ====
section
/-! DEFINITION. The Sign-On Controller (Chapter 3): the sign-on context, its characters and texts, asking and provisional admission,
the claim and its decision, the establishment of a session, and the replies of accountants (R50 to R69, R100, R108). -/

namespace Sys2Proof.Machine

/-- A sign-on context as created on entry to SIGNON, its sign-on timer due at the given moment (Table 3-1, R50). -/
def Context.create (due : Moment) : Context where
  phase := .sense
  tries := 0
  attempts := 0
  digits := []
  code := []
  requestSerial := none
  answered := false
  replyWait := none
  signOnTimer := some due
  provisional := false
  lateConfirmed := false
  granted := none
  sessionSerial := none
  claimRaised := false
  admitted := false
  heldReply := none

/-- The user number of a context: the decimal value of its digits (R56). -/
def Context.user (c : Context) : Nat := decimalValue (c.digits.map Fin.val)

/-- The refusal text of one message. -/
def refusal (m : Fin 16) : Text := messageText [m]

/-! ## Claiming and asking (R58, R59, R64) -/

/-- Line `n` enters CLAIMING with the given context: it takes the next session serial, claim raised is set, and a CLAIM of kind
NEW is raised (R64). -/
def State.enterClaiming (s : State) (n : LineNo) (c : Context) : State :=
  let s1 : State := { s with sessionSerial := s.sessionSerial + 1 }
  (s1.setSign n (some { c with
    phase := .claiming, sessionSerial := some s.sessionSerial, claimRaised := true, replyWait := none })).raise (.claim n)

/-- Provisional admission of a context, or its refusal with M8 (R58). -/
def State.admitProvisionally (s : State) (n : LineNo) (c : Context) : State :=
  if s.cfg.provisionalEnable then
    s.enterClaiming n { c with granted := some s.cfg.provisional, provisional := true }
  else s.enterRefusing n (refusal 8)

/-- Line `n` enters ASKING: an ADMIT-REQ of kind NEW is raised with the next request serial and the reply wait started, or,
when no accountant can be asked, the caller is admitted provisionally (R59, R60). -/
def State.enterAsking (s : State) (n : LineNo) (c : Context) : State :=
  if s.cfg.noAccountant || !s.accountantPresent then s.admitProvisionally n c
  else
    let s1 : State := { s with requestSerial := s.requestSerial + 1 }
    let s2 := s1.setSign n (some { c with
      phase := .asking, requestSerial := some s.requestSerial, answered := false,
      replyWait := some (s.now + 1000 * s.cfg.replyWait) })
    (s2.setClaims n { s2.claims[n] with admitConfirm := false }).raise (.admitReq n)

/-! ## Characters of a sign-on (R54 to R57) -/

/-- The control characters of Table 0-3. -/
def chBEL : Char7 := 0x07
/-- Backspace. -/
def chBS : Char7 := 0x08
/-- Cancel. -/
def chCAN : Char7 := 0x18
/-- The character that stands in place of one received with a parity error. -/
def chSUB : Char7 := 0x1A
/-- Delete. -/
def chDEL : Char7 := 0x7F
/-- Space. -/
def chSpace : Char7 := 0x20
/-- XON. -/
def chDC1 : Char7 := 0x11
/-- XOFF. -/
def chDC3 : Char7 := 0x13

/-- The value of a decimal digit character. -/
def digitOf (c : Char7) : Option (Fin 10) :=
  if h : 0x30 ≤ c.toNat ∧ c.toNat < 0x3A then some ⟨c.toNat - 0x30, by omega⟩ else none

/-- A printable character has a value from 20h to 7Eh (Introduction 6.3). -/
def printable (c : Char7) : Bool := 0x20 ≤ c.toNat && c.toNat ≤ 0x7E

/-- A failed attempt at a user number: M3 and M1 while attempts remain, REFUSING with M3 at the third (R56, R62). -/
def State.failAttempt (s : State) (n : LineNo) (c : Context) : State :=
  let c1 := { c with attempts := c.attempts + 1 }
  if c1.attempts < 3 then
    (s.setSign n (some { c1 with phase := .user, digits := [], code := [], replyWait := none })).signOnText n
      (messageText [3, 1])
  else (s.setSign n (some c1)).enterRefusing n (refusal 3)

/-- CR ends the user field (R56). -/
def State.endUserField (s : State) (n : LineNo) (c : Context) : State :=
  if c.user = 0 then s.failAttempt n c
  else (s.setSign n (some { c with code := [], phase := .code })).signOnText n (messageText [2])

/-- A character in phase USER (R55, Table 3-3). -/
def State.userChar (s : State) (n : LineNo) (c : Context) (ch : Char7) : State :=
  match digitOf ch with
  | some d =>
    if c.digits.length < 6 then (s.setSign n (some { c with digits := c.digits ++ [d] })).sendEchoes n [ch]
    else s.sendEchoes n [chBEL]
  | none =>
    if ch = chBS ∨ ch = chDEL then
      if c.digits = [] then s.sendEchoes n [chBEL]
      else (s.setSign n (some { c with digits := c.digits.dropLast })).sendEchoes n [chBS, chSpace, chBS]
    else if ch = chCAN then (s.setSign n (some { c with digits := [] })).signOnText n (messageText [1])
    else if ch = chCR then s.endUserField n c
    else s.sendEchoes n [chBEL]

/-- A character in phase CODE (R57). -/
def State.codeChar (s : State) (n : LineNo) (c : Context) (ch : Char7) : State :=
  if ch = chCR then s.enterAsking n c
  else if printable ch then
    if c.code.length < 8 then s.setSign n (some { c with code := c.code ++ [ch] }) else s
  else if ch = chBS ∨ ch = chDEL then s.setSign n (some { c with code := c.code.dropLast })
  else if ch = chCAN then s.setSign n (some { c with code := [] })
  else s

/-- A character received in SIGNON, by phase (R54). -/
def State.signOnChar (s : State) (n : LineNo) (ch : Char7) : State :=
  match s.sign[n] with
  | none => s
  | some c =>
    match c.phase with
    | .user => s.userChar n c ch
    | .code => s.codeChar n c ch
    | .sense | .asking | .claiming | .refusing => s

/-! ## The claim decision (R66) -/

/-- The admitted contexts at lines other than `n` (R66). -/
def State.otherAdmitted (s : State) (n : LineNo) : Nat :=
  countLines fun m =>
    m ≠ n &&
      match s.sign[m] with
      | some c => c.admitted
      | none => false

/-- The message of the first check of R66 that fails for line `n`'s context, in the order of the rule; `none` admits. -/
def State.claimRefusal (s : State) (n : LineNo) (c : Context) : Option (Fin 16) :=
  if s.freeSlots < s.linesIn .session + s.otherAdmitted n + 1 then some 7
  else if s.ceiling < s.standingTotal then some 6
  else if ((c.granted.map Granted.limit).getD 0) < s.standingFor c.user then some 5
  else none

/-- The claim decision for line `n`'s context (R66): admitted, its sign-on timer stopped and the establish request made, or refused
with the message of the failing check. -/
def State.decideClaim (s : State) (n : LineNo) (c : Context) : State :=
  match s.claimRefusal n c with
  | some m => s.enterRefusing n (refusal m)
  | none =>
    let s1 := s.setSign n (some { c with admitted := true, signOnTimer := none })
    s1.setAsks n { s1.asks[n] with establish := true }

/-! ## Verdicts for a session (R69, R108) -/

/-- What a meter step asks of the rest of the part, done for line `n`: the record is kept, the notices taken, the close cause
given. -/
def State.applyStep (s : State) (n : LineNo) (m : MeterStep) : State :=
  let s1 := State.noticeMessages m.notices n (s.setSess n (some m.sess))
  match m.close with
  | some r => s1.closeCause n r
  | none => s1

/-- The session as an ACCEPT leaves it, before its new remaining allowance is tested: grants, flags, confirm-pending, warned and
grace (R69, R108). -/
def Session.confirmed (cfg : Configuration) (g : Granted) (x : Session) : Session :=
  let remaining := if g.allowance = unlimitedAllowance then none else some (g.allowance - x.units)
  { x with
    cls := g.cls
    table := g.table
    granted := g.allowance
    remaining := remaining
    provisional := false
    lateConfirmed := true
    confirm := none
    warned := x.warned && match remaining with
      | none => false
      | some r => r ≤ cfg.warnThreshold
    grace := if remaining = some 0 then x.grace else none }

/-- A reply acts on line `n`'s session (R69). -/
def State.applyVerdict (s : State) (n : LineNo) (r : Reply) : State :=
  match s.sess[n] with
  | none => s
  | some x =>
    if r.verdict = .accept then s.applyStep n ((x.confirmed s.cfg r.granted).testAllowance s.cfg)
    else (s.setSess n (some { x with confirm := none })).closeCause n .notConfirmed

/-! ## Establishment (R67, R68, R100) -/

/-- The idle timer as loaded for a class: absent for a limit of 0 (R70). -/
def idleLoad (cfg : Configuration) (cls : Fin 8) : Option Nat :=
  if cfg.classes[cls].idleLimit = 0 then none else some (60 * cfg.classes[cls].idleLimit)

/-- The session record created from an admitted context granted `g` (Table 3-4, R68, R100). -/
def State.newSession (s : State) (c : Context) (g : Granted) : Session :=
  let fee := s.cfg.tariffs[g.table].fee
  { user := c.user
    serial := c.sessionSerial.getD 0
    cls := g.cls
    table := g.table
    channel := g.channel
    granted := g.allowance
    remaining := if g.allowance = unlimitedAllowance then none else some (g.allowance - fee)
    warned := false
    grace := none
    units := fee
    residue := 0
    duration := 0
    startMinute := if s.clock.unset then none else some s.clock.minute
    provisional := c.provisional
    lateConfirmed := c.lateConfirmed
    clockUnset := s.clock.unset
    timebase := s.timebaseFault
    saturated := false
    held := false
    hold := none
    idle := idleLoad s.cfg g.cls
    echo := s.cfg.classes[g.cls].echo
    endMark := false
    confirm := if c.provisional then c.requestSerial.map fun q => ⟨q, none, c.answered⟩ else none
    reason := none }

/-- A held reply is applied (R69). -/
def State.applyHeld (s : State) (n : LineNo) (held : Option Reply) : State :=
  match held with
  | some r => s.applyVerdict n r
  | none => s

/-- The establish move of line `n` with its admitted context: the line enters SESSION, the record replaces the context, the meter
is initialised and its allowance tested, then the hold conditions are tested, and a held reply is applied (R67 to R69, R100, R109). That
the allowance is tested before the hold conditions is the model's choice (log entry 42). -/
def State.establish (s : State) (n : LineNo) (c : Context) (g : Granted) : State :=
  let x := s.newSession c g
  let s1 := (s.updSup n fun l => l.enterCall .session).setSign n none
  let s2 := s1.beginPath n
  let s3 := s2.applyStep n (x.testAllowance s.cfg)
  s3.testHold.applyHeld n c.heldReply

/-- The establish request is taken: the move is made if the line is in SIGNON, and the request is ignored otherwise (R17, R67). -/
def State.takeEstablish (s : State) (n : LineNo) : State :=
  if s.asks[n].establish then
    let s1 := s.setAsks n { s.asks[n] with establish := false }
    match s1.st n, s1.sign[n] with
    | .signon, some c =>
      match c.granted with
      | some g => if c.admitted then s1.establish n c g else s1
      | none => s1
    | _, _ => s1
  else s

/-- ESTABLISH (R67). -/
def execEstablish (t : Moment) (n : LineNo) (s : State) : Host.Outcome State Fault Refusal :=
  take s t fun s => s.takeEstablish n

/-! ## The timers of a sign-on and of a confirmation -/

/-- The sign-on timer of line `n` runs out (R51). -/
def State.signOnExpiry (s : State) (n : LineNo) : State :=
  match s.sign[n] with
  | some c =>
    if c.phase ≠ .refusing ∧ fallenDue c.signOnTimer s.now = true then
      let s1 := s.count .signOnTimeouts
      let s2 := if c.phase = .sense then s1.updPath n fun p => { p with speed := some (lowestSpeed (s.group n)) } else s1
      s2.enterRefusing n (refusal 9)
    else s
  | none => s

/-- SIGN_ON_TIMER_EXPIRY (R51). -/
def execSignOnTimerExpiry (t : Moment) (n : LineNo) (s : State) : Host.Outcome State Fault Refusal :=
  take s t fun s => s.signOnExpiry n

/-- The reply wait of line `n` runs out in ASKING: the caller is admitted provisionally (R62). -/
def State.replyWaitExpiry (s : State) (n : LineNo) : State :=
  match s.sign[n] with
  | some c =>
    if c.phase = .asking ∧ fallenDue c.replyWait s.now = true then
      let c1 := { c with replyWait := none }
      (s.setSign n (some c1)).admitProvisionally n c1
    else s
  | none => s

/-- REPLY_WAIT_EXPIRY (R62). -/
def execReplyWaitExpiry (t : Moment) (n : LineNo) (s : State) : Host.Outcome State Fault Refusal :=
  take s t fun s => s.replyWaitExpiry n

/-- The reply wait of a confirmation runs out: confirm-pending becomes not waiting (R69). -/
def State.confirmWaitExpiry (s : State) (n : LineNo) : State :=
  s.updSess n fun x =>
    { x with confirm := x.confirm.map fun c => if fallenDue c.wait s.now then { c with wait := none } else c }

/-- CONFIRM_REPLY_WAIT_EXPIRY (R69). -/
def execConfirmReplyWaitExpiry (t : Moment) (n : LineNo) (s : State) : Host.Outcome State Fault Refusal :=
  take s t fun s => s.confirmWaitExpiry n

/-! ## Replies of accountants (R61 to R63, R69) -/

/-- A verdict taken in ASKING (R62). -/
def State.verdictInAsking (s : State) (n : LineNo) (c : Context) (r : Reply) : State :=
  let c1 := { c with replyWait := none }
  match r.verdict with
  | .accept => s.enterClaiming n { c1 with granted := some r.granted }
  | .unknown => s.failAttempt n c1
  | .barred | .hours | .quota => s.enterRefusing n (refusal 4)

/-- The grant of a late ACCEPT: the reply's, with the channel station already announced in the claim (R63). -/
def lateGrant (old : Option Granted) (new : Granted) : Granted :=
  match old with
  | some g => { new with channel := g.channel }
  | none => new

/-- A late verdict for a context in CLAIMING with provisional set (R63). -/
def State.lateVerdict (s : State) (n : LineNo) (c : Context) (r : Reply) : State :=
  if c.admitted then s.setSign n (some { c with heldReply := some r })
  else if r.verdict = .accept then
    s.setSign n (some { c with
      granted := some (lateGrant c.granted r.granted), provisional := false, lateConfirmed := true })
  else s.enterRefusing n (refusal 4)

/-- What of a line a reply with a given serial is taken for (R61). -/
inductive ReplyTaker where
  | asking (c : Context)
  | claiming (c : Context)
  | session
  | stale
deriving DecidableEq, Repr

/-- The match of a reply against line `n` (R61): a second reply to a serial already taken matches nothing. -/
def State.replyTaker (s : State) (n : LineNo) (serial : BitVec 8) : ReplyTaker :=
  match s.sign[n] with
  | some c =>
    if c.requestSerial = some serial ∧ c.answered = false then
      match c.phase with
      | .asking => .asking c
      | .claiming => if c.provisional && c.heldReply.isNone then .claiming c else .stale
      | .sense | .user | .code | .refusing => .stale
    else .stale
  | none =>
    match s.sess[n] with
    | some x =>
      if x.provisional && x.reason.isNone && x.confirm.any fun q => q.serial = serial && !q.answered then .session
      else .stale
    | none => .stale

/-- A context whose request serial has been answered (R61). -/
def Context.answer (c : Context) : Context := { c with answered := true }

/-- An ADMIT-REPLY from station `src` is taken, or is stale and counted (R61). -/
def State.takeReply (s : State) (src : Station) (p : ReplyPayload) : State :=
  match lineOf p.line with
  | none => s.count .staleReplies
  | some n =>
    if s.roster[src].roles.accountant then
      match s.replyTaker n p.serial with
      | .asking c => (s.setSign n (some c.answer)).verdictInAsking n c.answer (readReply p)
      | .claiming c => (s.setSign n (some c.answer)).lateVerdict n c.answer (readReply p)
      | .session => s.applyVerdict n (readReply p)
      | .stale => s.count .staleReplies
    else s.count .staleReplies

end Sys2Proof.Machine
end

