-- ==== Sys2Proof/Machine/Lines.lean ====
section
/-! DEFINITION. The events of the Line Supervisor (Chapter 1): edges of RI and CD, its timers and measurements, and the requests
other blocks make of it (Table 1-9). -/

namespace Sys2Proof.Machine

/-! ## Ringing (R7 to R12) -/

/-- RI of line `n` becomes active: a burst measurement begins in IDLE and RINGING (R7), and a proving run counts the ring
(R145). -/
def State.riRise (s : State) (n : LineNo) : State :=
  if s.sup[n].ri then s
  else
    let s1 := s.updSup n fun l => { l with ri := true }
    match s.st n with
    | .idle | .ringing => s1.updSup n fun l => { l with burst := some s.now }
    | .proving => if s.run[n].phase = .none then s1 else s1.count .ringsWhileBusy
    | .out | .answering | .signon | .session | .closing | .hangup => s1

/-- RI_RISING_EDGE (R7). -/
def execRiRisingEdge (t : Moment) (n : LineNo) (s : State) : Host.Outcome State Fault Refusal :=
  take s t fun s => s.riRise n

/-- The class of a burst of length `d` is valid (Table 1-7). -/
def burstValid (times : LineTimes) (d : Nat) : Bool := times.ringMin ≤ d && d ≤ times.ringMax

/-- A valid burst that counts toward answering: the count and the ring-silence timer are set, and when the count reaches answer rings
the answer is decided (R9, R10, R11). `busy` tells whether a make-busy condition held for the line when the burst was taken (log
entry 36). -/
def LineRec.countBurst (l : LineRec) (s : State) (n : LineNo) (count : Nat) (busy : Bool) : LineRec :=
  if count < (s.group n).answerRings then
    { l with
      st := .ringing, burstCount := count, blocked := false, ringSilence := some (s.now + 1000 * s.cfg.times.ringSilence) }
  else if busy then
    { l with
      st := .ringing, burstCount := count, blocked := true, ringSilence := some (s.now + 1000 * s.cfg.times.ringSilence) }
  else l.enterAnswering s.now s.cfg.times.carrierWait

/-- The rings-while-busy counter rises when the count of a line reaches answer rings while it is made busy (R11). -/
def State.noteBusyRing (s : State) (n : LineNo) (count : Nat) (busy : Bool) : State :=
  if (s.group n).answerRings ≤ count ∧ busy = true then s.count .ringsWhileBusy else s

/-- A valid burst of line `n`, its record already without the measurement (R9, R10, R12). -/
def State.validBurst (s : State) (n : LineNo) (busy : Bool) : State :=
  match s.st n with
  | .idle => (s.updSup n fun l => l.countBurst s n 1 busy).noteBusyRing n 1 busy
  | .ringing =>
    if s.sup[n].blocked then
      (s.updSup n fun l => { l with ringSilence := some (s.now + 1000 * s.cfg.times.ringSilence) }).count .ringsWhileBusy
    else
      let count := s.sup[n].burstCount + 1
      (s.updSup n fun l => l.countBurst s n count busy).noteBusyRing n count busy
  | .out | .answering | .signon | .session | .closing | .hangup | .proving => s

/-- RI of line `n` becomes inactive: an open measurement ends and is classified (R7). -/
def State.riFall (s : State) (n : LineNo) : State :=
  if s.sup[n].ri then
    let s1 := s.updSup n fun l => { l with ri := false, burst := none }
    match s.sup[n].burst with
    | some b => if burstValid s.cfg.times (s.now - b) then s1.validBurst n (s.madeBusy n) else s1
    | none => s1
  else s

/-- RI_FALLING_EDGE (R7). -/
def execRiFallingEdge (t : Moment) (n : LineNo) (s : State) : Host.Outcome State Fault Refusal :=
  take s t fun s => s.riFall n

/-- Bursts are measured in IDLE and RINGING (R7). -/
def LineState.measured : LineState → Bool
  | .idle | .ringing => true
  | _ => false

/-- The stuck-ring limit is reached with RI still active (R8, Table 1-7). -/
def State.ringStuck (s : State) (n : LineNo) : Bool :=
  (s.st n).measured && s.sup[n].ri && ranFor s.sup[n].burst (2 * s.cfg.times.ringMax + 1) s.now

/-- STUCK_RING (R8). -/
def execStuckRing (t : Moment) (n : LineNo) (s : State) : Host.Outcome State Fault Refusal :=
  take s t fun s => if s.ringStuck n then s.updSup n LineRec.stuck else s

/-- The ring-silence timer of line `n` runs out (R10, R20). -/
def State.ringSilenceExpiry (s : State) (n : LineNo) : State :=
  if s.st n = .ringing ∧ fallenDue s.sup[n].ringSilence s.now = true then
    let s1 := if s.sup[n].blocked then s else s.count .abandonedRings
    s1.updSup n fun l => l.enterIdle s.now
  else s

/-- RING_SILENCE_EXPIRY (R10). -/
def execRingSilenceExpiry (t : Moment) (n : LineNo) (s : State) : Host.Outcome State Fault Refusal :=
  take s t fun s => s.ringSilenceExpiry n

/-! ## Carrier (R13 to R16) -/

/-- CD of line `n` becomes active (R13, R15, R144, R149). -/
def State.cdRise (s : State) (n : LineNo) : State :=
  if s.sup[n].cd then s
  else
    let s1 := s.updSup n fun l => { l with cd := true }
    match s.st n with
    | .answering => s1.updSup n fun l => { l with qual := some s.now }
    | .signon | .session | .closing =>
      match s.sup[n].dropout with
      | some _ => (s1.updSup n fun l => { l with dropout := none }).count .carrierHits
      | none => s1
    | .proving =>
      match s.run[n].phase with
      | .waiting => s1.setRun n { s.run[n] with qual := some s.now }
      | .running => s1.setRun n { s.run[n] with dropout := none }
      | .none => s1
    | .out | .idle | .ringing | .hangup => s1

/-- CD_RISING_EDGE (R13). -/
def execCdRisingEdge (t : Moment) (n : LineNo) (s : State) : Host.Outcome State Fault Refusal :=
  take s t fun s => s.cdRise n

/-- CD of line `n` becomes inactive (R13, R15, R144, R149). -/
def State.cdFall (s : State) (n : LineNo) : State :=
  if s.sup[n].cd then
    let s1 := s.updSup n fun l => { l with cd := false }
    match s.st n with
    | .answering => s1.updSup n fun l => { l with qual := none }
    | .signon | .session | .closing => s1.updSup n fun l => { l with dropout := some s.now }
    | .proving =>
      match s.run[n].phase with
      | .waiting => s1.setRun n { s.run[n] with qual := none }
      | .running => s1.setRun n { s.run[n] with dropout := some s.now }
      | .none => s1
    | .out | .idle | .ringing | .hangup => s1
  else s

/-- CD_FALLING_EDGE (R15). -/
def execCdFallingEdge (t : Moment) (n : LineNo) (s : State) : Host.Outcome State Fault Refusal :=
  take s t fun s => s.cdFall n

/-- The carrier of line `n` has been there for carrier-qualify throughout (R13). -/
def State.carrierGood (s : State) (n : LineNo) : Bool :=
  s.st n = .answering && s.sup[n].cd && ranFor s.sup[n].qual s.cfg.times.carrierQualify s.now

/-- Line `n` enters SIGNON, and its context is created in phase SENSE (R13, R50). -/
def State.enterSignOn (s : State) (n : LineNo) : State :=
  (s.updSup n fun l => l.enterCall .signon).setSign n (some (Context.create (s.now + 1000 * s.cfg.signOnTime)))

/-- CARRIER_QUALIFIED (R13, R50). -/
def execCarrierQualified (t : Moment) (n : LineNo) (s : State) : Host.Outcome State Fault Refusal :=
  take s t fun s => if s.carrierGood n then s.enterSignOn n else s

/-- CARRIER_WAIT_EXPIRY (R14). -/
def execCarrierWaitExpiry (t : Moment) (n : LineNo) (s : State) : Host.Outcome State Fault Refusal :=
  take s t fun s =>
    if s.st n = .answering ∧ fallenDue s.sup[n].carrierWait s.now = true then
      (s.count .carrierWaitTimeouts).hangup n
    else s

/-- A disconnect in SIGNON: the context is discarded, and a RELEASE is raised for a claim raised and not yet withdrawn (R53). -/
def State.dropContext (s : State) (n : LineNo) : State :=
  match s.sign[n] with
  | none => s
  | some c =>
    let s1 :=
      if c.claimRaised && c.phase ≠ .refusing then s.raiseRelease n ⟨c.user, c.sessionSerial.getD 0, .withdrawn⟩ else s
    s1.setSign n none

/-- A disconnect in SESSION: the session closes with CARRIER, or with the reason already set, and ends (R16, R71, R72). -/
def State.dropSession (s : State) (n : LineNo) : State :=
  match s.sess[n] with
  | none => s
  | some x => s.endSession n x (x.reason.getD .carrier)

/-- A dropout of line `n` has reached carrier-loss (R15). -/
def State.carrierGone (s : State) (n : LineNo) : Bool :=
  (s.st n).onCall && !s.sup[n].cd && ranFor s.sup[n].dropout s.cfg.times.carrierLoss s.now

/-- A disconnect of line `n` (R16). -/
def State.disconnect (s : State) (n : LineNo) : State :=
  match s.st n with
  | .signon => (s.dropContext n).hangup n
  | .session => State.hangup (s.dropSession n) n
  | _ => s.hangup n

/-- DISCONNECT (R16). -/
def execDisconnect (t : Moment) (n : LineNo) (s : State) : Host.Outcome State Fault Refusal :=
  take s t fun s => if s.carrierGone n then s.disconnect n else s

/-! ## Closing and hanging up (R17 to R20, R52, R72) -/

/-- DRAIN_LIMIT_EXPIRY (R18). -/
def execDrainLimitExpiry (t : Moment) (n : LineNo) (s : State) : Host.Outcome State Fault Refusal :=
  take s t fun s =>
    if s.st n = .closing ∧ fallenDue s.sup[n].drainLimit s.now = true then s.hangup n else s

/-- HANGUP_GUARD_EXPIRY (R20). -/
def execHangupGuardExpiry (t : Moment) (n : LineNo) (s : State) : Host.Outcome State Fault Refusal :=
  take s t fun s =>
    if s.st n = .hangup ∧ fallenDue s.sup[n].hangupGuard s.now = true then s.updSup n fun l => l.enterIdle s.now else s

/-- The refuse request is taken: in SIGNON the line enters CLOSING, the context is discarded and the refusal text is taken; in any
other state the request and its text are dropped (R17, R45, R52). -/
def State.takeRefuse (s : State) (n : LineNo) : State :=
  match s.asks[n].refuse with
  | none => s
  | some text =>
    let s1 := s.setAsks n { s.asks[n] with refuse := none }
    if s.st n = .signon then ((s1.updSup n fun l => l.enterClosing s.now).setSign n none).takeText n text else s1

/-- REFUSE (R52). -/
def execRefuse (t : Moment) (n : LineNo) (s : State) : Host.Outcome State Fault Refusal :=
  take s t fun s => s.takeRefuse n

/-- The close move of line `n` into CLOSING: the session ends, the outbound queue is flushed unless the reason is ENDED, and the
closing text is taken (R72, R73). -/
def State.closeMove (s : State) (n : LineNo) (x : Session) (r : CloseReason) : State :=
  let s1 := State.updSup (s.endSession n x r) n fun l => l.enterClosing s.now
  let s2 := if r = .ended then s1 else s1.flush n
  s2.takeText n (closingText s.cfg x r)

/-- The close request is taken: the move is made if the line is in SESSION, and the request is ignored otherwise (R17, R72). -/
def State.takeClose (s : State) (n : LineNo) : State :=
  if s.asks[n].close then
    let s1 := s.setAsks n { s.asks[n] with close := false }
    match s.st n, s.sess[n] with
    | .session, some x =>
      match x.reason with
      | some r => s1.closeMove n x r
      | none => s1
    | _, _ => s1
  else s

/-- CLOSE (R72). -/
def execClose (t : Moment) (n : LineNo) (s : State) : Host.Outcome State Fault Refusal :=
  take s t fun s => s.takeClose n

/-- The drained request is taken (R17, R18). -/
def State.takeDrained (s : State) (n : LineNo) : State :=
  if s.asks[n].drained then
    let s1 := s.setAsks n { s.asks[n] with drained := false }
    if s.st n = .closing then s1.hangup n else s1
  else s

/-- DRAINED (R18). -/
def execDrained (t : Moment) (n : LineNo) (s : State) : Host.Outcome State Fault Refusal :=
  take s t fun s => s.takeDrained n

/-! ## Beginning and ending a proving run (R17, R143, R144, R150) -/

/-- The run record as a run begins, in phase WAITING (R144). -/
def Run.begin (b : BeginAsk) (speed : Speed) (now : Moment) (cd : Bool) : Run :=
  { Run.fresh with
    phase := .waiting
    origin := b.origin
    station := b.station
    duration := b.duration
    speed := speed
    carrierWait := some (now + 5000)
    qual := if cd then some now else none }

/-- The oldest begin-proving request is taken: the line enters PROVING from IDLE or OUT; from any other state the request is ignored
and an ABORTED result is filled (R17, R143, R144). -/
def State.takeBegin (s : State) (n : LineNo) : State :=
  match s.asks[n].begin with
  | [] => s
  | b :: rest =>
    let s1 := s.setAsks n { s.asks[n] with begin := rest }
    let speed := highestSpeed (s.group n)
    match s.st n with
    | .idle | .out =>
      (s1.updSup n LineRec.enterProving).setRun n (Run.begin b speed s.now s.sup[n].cd)
    | .ringing | .answering | .signon | .session | .closing | .hangup | .proving =>
      s1.fillResult n ⟨b.station, .aborted, speed, 0, 0, 0, false⟩

/-- BEGIN_PROVING (R144). -/
def execBeginProving (t : Moment) (n : LineNo) (s : State) : Host.Outcome State Fault Refusal :=
  take s t fun s => s.takeBegin n

/-- The line record as the line leaves PROVING by a verdict (R150). -/
def LineRec.leaveProving (l : LineRec) (now : Moment) (origin : Origin) (v : ProvingVerdict) : LineRec :=
  if v = .pass then
    match origin with
    | .idle => { l with fault := false }.enterIdle now
    | .out => { l with fault := false }.enterOut
  else { l with fault := true }.enterOut

/-- The end-proving request is taken (R17, R150). -/
def State.takeEnd (s : State) (n : LineNo) : State :=
  match s.asks[n].endRun with
  | none => s
  | some v =>
    let s1 := s.setAsks n { s.asks[n] with endRun := none }
    if s.st n = .proving then s1.updSup n fun l => l.leaveProving s.now s.run[n].origin v else s1

/-- END_PROVING (R150). -/
def execEndProving (t : Moment) (n : LineNo) (s : State) : Host.Outcome State Fault Refusal :=
  take s t fun s => s.takeEnd n

end Sys2Proof.Machine
end

