-- ==== Sys2Proof/Machine/Proving.lean ====
section
/-! DEFINITION. The Line Prover (Chapter 8): the pattern generator and checker, and the events that begin, feed and end a run. -/

namespace Sys2Proof.Machine

/-! ## The pattern (R146) -/

/-- A shift of a nine-stage register; bit k − 1 is stage k, and stage 1 takes the bit (R146). -/
def shiftIn (r : BitVec 9) (b : Bool) : BitVec 9 := (r <<< 1) ||| (BitVec.ofBool b).setWidth 9

/-- Stage 9 exclusive-ORed with stage 5: the generator's feedback and the checker's prediction (R146, R147). -/
def feedback (r : BitVec 9) : Bool := r.getLsbD 8 ^^ r.getLsbD 4

/-- The next `k` output bits of the generator and the register after them; each is the value of stage 9 (R146). -/
def patternBits : Nat → BitVec 9 → List Bool × BitVec 9
  | 0, g => ([], g)
  | k + 1, g =>
    let rest := patternBits k (shiftIn g (feedback g))
    (g.getLsbD 8 :: rest.1, rest.2)

/-- Eight bits as a character, the first of them its least significant bit (R146). -/
def charOfBits (bs : List Bool) : Byte := BitVec.ofNat 8 (bs.foldr (fun b v => b.toNat + 2 * v) 0)

/-- The transmitter of line `n` begins the next character of the pattern (R146). -/
def State.sendPattern (s : State) (n : LineNo) : State :=
  let next := patternBits 8 s.run[n].generator
  (s.setRun n { s.run[n] with generator := next.2 }).updPath n fun p => { p with tx := some (charOfBits next.1) }

/-! ## Beginning (R144 to R146) -/

/-- The carrier of line `n`, in WAITING, has been there for carrier-qualify throughout (R144). -/
def State.loopGood (s : State) (n : LineNo) : Bool :=
  s.st n = .proving && s.run[n].phase = .waiting && s.sup[n].cd &&
    ranFor s.run[n].qual s.cfg.times.carrierQualify s.now

/-- The run of line `n` enters RUNNING: the run timer starts, the generator is seeded with all ones and the pattern begins
(R146). -/
def State.beginRunning (s : State) (n : LineNo) : State :=
  (s.setRun n { s.run[n] with
    phase := .running
    carrierWait := none
    qual := none
    runTimer := some (s.now + 1000 * s.run[n].duration)
    generator := BitVec.allOnes 9
    checker := 0
    loaded := 0 }).sendPattern n

/-- PROVING_CARRIER_QUALIFIED (R146). -/
def execProvingCarrierQualified (t : Moment) (n : LineNo) (s : State) : Host.Outcome State Fault Refusal :=
  take s t fun s => if s.loopGood n then s.beginRunning n else s

/-- PROVING_CARRIER_WAIT_EXPIRY (R145). -/
def execProvingCarrierWaitExpiry (t : Moment) (n : LineNo) (s : State) : Host.Outcome State Fault Refusal :=
  take s t fun s =>
    if s.run[n].phase = .waiting ∧ fallenDue s.run[n].carrierWait s.now = true then s.finishRun n .noCarrier else s

/-! ## The checker (R147, R148) -/

/-- The checker at work on one character: its register, the stages loaded, whether every bit so far was predicted, and whether every
prediction was right. -/
structure Checking where
  register : BitVec 9
  loaded : Nat
  predicted : Bool
  right : Bool
deriving DecidableEq, Repr

/-- One bit passed to the checker: a loading bit, or a predicted bit (R147). -/
def Checking.bit (k : Checking) (b : Bool) : Checking :=
  if k.loaded < 9 then { k with register := shiftIn k.register b, loaded := k.loaded + 1, predicted := false }
  else { k with register := shiftIn k.register b, right := k.right && (feedback k.register == b) }

/-- The eight bits of a character, least significant first, passed to the checker of a run (R147). -/
def Run.check (r : Run) (data : Byte) : Checking :=
  ((List.range 8).map fun i => data.getLsbD i).foldl Checking.bit ⟨r.checker, r.loaded, true, true⟩

/-- A classed character taken while not locked (R148). -/
def Run.classUnlocked (r : Run) (clean : Bool) : Run :=
  if clean then
    if r.cleanRun + 1 < 16 then { r with cleanRun := r.cleanRun + 1 }
    else { r with locked := true, lockReached := true, cleanRun := 0, erroredRun := 0 }
  else { r with cleanRun := 0 }

/-- A classed character taken while locked; the eighth errored character in a row loses lock and reloads the checker (R148). -/
def Run.classLocked (r : Run) (clean : Bool) : Run :=
  let r1 := { r with checked := satTo meterTop r.checked }
  if clean then { r1 with erroredRun := 0 }
  else
    let r2 := { r1 with errored := satTo 255 r.errored }
    if r.erroredRun + 1 < 8 then { r2 with erroredRun := r.erroredRun + 1 }
    else { r2 with locked := false, lockLosses := satTo 15 r.lockLosses, erroredRun := 0, cleanRun := 0, loaded := 0 }

/-- A character received in RUNNING: its bits are checked, and it is classed if every one of them was predicted (R147, R148). -/
def Run.character (r : Run) (data : Byte) (badlyFramed : Bool) : Run :=
  let k := r.check data
  let r1 := { r with checker := k.register, loaded := k.loaded }
  if k.predicted then
    let clean := k.right && !badlyFramed
    if r.locked then r1.classLocked clean else r1.classUnlocked clean
  else r1

/-- PROVING_CHARACTER_RECEIVED (R147). -/
def execProvingCharacterReceived (t : Moment) (n : LineNo) (data : Byte) (badlyFramed : Bool) (s : State) :
    Host.Outcome State Fault Refusal :=
  take s t fun s =>
    if s.run[n].phase = .running then s.setRun n (s.run[n].character data badlyFramed) else s

/-! ## Ending (R149) -/

/-- The verdict of a run whose timer expires (R149). -/
def Run.verdict (r : Run) (threshold : Nat) : ProvingVerdict :=
  if r.lockReached then if r.errored ≤ threshold then .pass else .fail else .noLock

/-- A dropout of line `n` in RUNNING has reached carrier-loss (R149). -/
def State.loopGone (s : State) (n : LineNo) : Bool :=
  s.run[n].phase = .running && !s.sup[n].cd && ranFor s.run[n].dropout s.cfg.times.carrierLoss s.now

/-- PROVING_CARRIER_LOST (R149). -/
def execProvingCarrierLost (t : Moment) (n : LineNo) (s : State) : Host.Outcome State Fault Refusal :=
  take s t fun s => if s.loopGone n then s.finishRun n .carrierLost else s

/-- RUN_TIMER_EXPIRY (R149). -/
def execRunTimerExpiry (t : Moment) (n : LineNo) (s : State) : Host.Outcome State Fault Refusal :=
  take s t fun s =>
    if s.run[n].phase = .running ∧ fallenDue s.run[n].runTimer s.now = true then
      s.finishRun n (s.run[n].verdict s.cfg.passThreshold)
    else s

end Sys2Proof.Machine
end

