-- ==== Sys2Proof/Machine/Characters.lean ====
section
/-! DEFINITION. The events of the Character Path (Chapter 2): characters received and sent, framing errors, BREAK, the tries of
speed recognition, and the forwarding timer. -/

namespace Sys2Proof.Machine

/-! ## Characters received (R27, R28, R33, R34) -/

/-- The receiver of line `n` is active and the line's speed is known (R27). -/
def State.receiving (s : State) (n : LineNo) : Bool := (s.st n).onCall && s.path[n].speed.isSome

/-- Line `n`'s group watches for XON and XOFF and the character is DC3 (`true`) or DC1 (`false`) (R34). -/
def flowCommand (g : Group) (c : Char7) : Option Bool :=
  if g.xonXoff then if c = chDC3 then some true else if c = chDC1 then some false else none else none

/-- The character is one of the group's attention characters (R34). -/
def isAttention (g : Group) (c : Char7) : Bool := g.attention1 = some c || g.attention2 = some c

/-- A flush with the setting of a flag: an attention character or a BREAK in SESSION (R34, R35). -/
def State.interrupt (s : State) (n : LineNo) (isBreak : Bool) : State :=
  (s.flush n).updPath n fun p => p.setFlag isBreak

/-- A character appended to line `n`'s inbound queue; the forwarding timer starts if it is stopped (R37). -/
def State.appendIn (s : State) (n : LineNo) (c : Char7) : State :=
  let s1 := (s.setIn n (s.path[n].inQ.append [c])).updPath n fun p =>
    { p with fwdTimer := some (p.fwdTimer.getD (s.now + s.cfg.forwardingTimer)) }
  s1.inputAppended n

/-- The third entry of R34: the character is echoed if the session's echo mode is on and then appended, or finds no inbound room and
is an overrun. The room is compared again after the echo, which may itself have taken the last block (log entry 13). -/
def State.acceptChar (s : State) (n : LineNo) (echo : Bool) (c : Char7) : State :=
  if 1 ≤ s.inRoom n then
    let s1 := if echo then s.sendEcho n c else s
    if 1 ≤ s1.inRoom n then s1.appendIn n c else s1.count .overruns
  else s.count .overruns

/-- The idle timer is reloaded by a character unless the close reason is set (R70). -/
def Session.reload (cfg : Configuration) (x : Session) : Session :=
  if x.reason = none then { x with idle := idleLoad cfg x.cls } else x

/-- A character in SESSION (R34). -/
def State.sessionChar (s : State) (n : LineNo) (x : Session) (c : Char7) : State :=
  let s1 := s.setSess n (some (x.reload s.cfg))
  match flowCommand (s.group n) c with
  | some pause => s1.updPath n fun p => { p with paused := pause }
  | none => if isAttention (s.group n) c then s1.interrupt n false else s1.acceptChar n x.echo c

/-- A character in CLOSING (R33). -/
def State.closingChar (s : State) (n : LineNo) (c : Char7) : State :=
  match flowCommand (s.group n) c with
  | some pause => s.updPath n fun p => { p with paused := pause }
  | none => s

/-- A received character, already checked for parity, by the state of its line (R33, R34, R54). -/
def State.handChar (s : State) (n : LineNo) (c : Char7) : State :=
  match s.st n with
  | .signon => s.signOnChar n c
  | .session =>
    match s.sess[n] with
    | some x => s.sessionChar n x c
    | none => s
  | .closing => s.closingChar n c
  | .out | .idle | .ringing | .answering | .hangup | .proving => s

/-- A received character with its parity bit: a parity error is counted and replaced by SUB (R28). -/
def State.receiveChar (s : State) (n : LineNo) (c : Char7) (parity : Bool) : State :=
  if s.receiving n then
    if parityPasses (s.group n).parity c parity then s.handChar n c
    else (s.count .parityErrors).handChar n chSUB
  else s

/-- CHARACTER_RECEIVED (R27, R28, R33, R34). -/
def execCharacterReceived (t : Moment) (n : LineNo) (data : Char7) (parity : Bool) (s : State) :
    Host.Outcome State Fault Refusal :=
  take s t fun s => s.receiveChar n data parity

/-- FRAMING_ERROR (R27). -/
def execFramingError (t : Moment) (n : LineNo) (s : State) : Host.Outcome State Fault Refusal :=
  take s t fun s => if s.receiving n then s.count .framingErrors else s

/-- BREAK: it acts in SESSION alone (R33, R35). -/
def execLineBreak (t : Moment) (n : LineNo) (s : State) : Host.Outcome State Fault Refusal :=
  take s t fun s => if s.receiving n ∧ s.st n = .session then s.interrupt n true else s

/-! ## Speed recognition (R29, R30) -/

/-- The window of a speed, in microseconds (Table 2-1). -/
def speedWindow : Speed → Nat × Nat
  | .b110 => (7727, 10455)
  | .b150 => (5667, 7667)
  | .b300 => (2833, 3833)
  | .b600 => (1417, 1917)
  | .b1200 => (708, 958)
  | .b2400 => (354, 480)

/-- The allowed speed whose window holds a pulse width; the windows do not overlap (R29). -/
def matchedSpeed (g : Group) (width : Nat) : Option Speed :=
  allSpeeds.find? fun sp => speedAllowed g sp && (speedWindow sp).1 ≤ width && width ≤ (speedWindow sp).2

/-- A failed try (R30). -/
def State.failTry (s : State) (n : LineNo) (c : Context) : State :=
  let s1 := s.setSign n (some { c with tries := c.tries + 1 })
  if c.tries + 1 < 3 then s1
  else
    ((s1.count .speedFailures).updPath n fun p => { p with speed := some (lowestSpeed (s.group n)) }).enterRefusing n
      (refusal 9)

/-- A successful try: the line's speed is known, M0 and M1 are sent and the phase becomes USER (R29, R54). -/
def State.passTry (s : State) (n : LineNo) (c : Context) (sp : Speed) : State :=
  ((s.updPath n fun p => { p with speed := some sp }).setSign n (some { c with phase := .user })).signOnText n
    (messageText [0, 1])

/-- A try in phase SENSE. After a failed try the receiver ignores a falling edge that no 200 ms of mark precede (R29, R30). -/
def State.speedTry (s : State) (n : LineNo) (markMs width : Nat) (decoded : Char7) (stop : Bool) : State :=
  match s.st n, s.sign[n] with
  | .signon, some c =>
    if c.phase = .sense ∧ (c.tries = 0 ∨ 200 ≤ markMs) then
      match matchedSpeed (s.group n) width with
      | some sp => if decoded = chCR ∧ stop = true then s.passTry n c sp else s.failTry n c
      | none => s.failTry n c
    else s
  | _, _ => s

/-- SPEED_TRY (R29). -/
def execSpeedTry (t : Moment) (n : LineNo) (markMs width : Nat) (decoded : Char7) (stop : Bool) (s : State) :
    Host.Outcome State Fault Refusal :=
  take s t fun s => s.speedTry n markMs width decoded stop

/-! ## Characters sent and the forwarding timer (R37, R44) -/

/-- The transmitter of line `n` finishes a character. The next character of a call is taken in the closing work of the event; a
proving run sends its next character with no gap (R44, R146). -/
def State.charSent (s : State) (n : LineNo) : State :=
  if s.path[n].tx = none then s
  else if s.st n = .proving ∧ s.run[n].phase = .running then s.sendPattern n
  else s.updPath n Path.sent

/-- CHARACTER_SENT (R44). -/
def execCharacterSent (t : Moment) (n : LineNo) (s : State) : Host.Outcome State Fault Refusal :=
  take s t fun s => s.charSent n

/-- FORWARDING_TIMER_EXPIRY (R37). -/
def execForwardingTimerExpiry (t : Moment) (n : LineNo) (s : State) : Host.Outcome State Fault Refusal :=
  take s t fun s =>
    if fallenDue s.path[n].fwdTimer s.now then s.updPath n fun p => { p with fwdTimer := none, fwdDue := true } else s

end Sys2Proof.Machine
end

