-- ==== Sys2Proof/Machine/Timers.lean ====
section
/-! DEFINITION. The station-wide timers: refresh, beacon period, ack waits, the clash timer and the quiet interval (R83, R87, R120,
R133, R141, R159). -/

namespace Sys2Proof.Machine

/-! ## Refresh (R83) -/

/-- Every presence entry one older (R83). -/
def aged (ps : List Presence) : List Presence := ps.map fun e => { e with age := e.age + 1 }

/-- The presence entries age; those that reach 3 are removed and counted as aged out (R83, R92). -/
def State.agePresence (s : State) : State :=
  let older := aged s.presence
  let s1 : State := { s with presence := older.filter fun e => e.age < 3 }
  (older.filter fun e => 3 ≤ e.age).foldl (fun s _ => s.count .agedOutEntries) s1

/-- A CLAIM request for a line in SESSION, its survey-owed mark set if a SURVEY is the cause (R80, R82, R83). -/
def State.reclaim (survey : Bool) (n : LineNo) (s : State) : State :=
  if s.st n = .session then
    let s1 := if survey then s.setClaims n { s.claims[n] with surveyOwed := true } else s
    s1.raise (.claim n)
  else s

/-- A FLOW request for a line in SESSION whose state is HOLD (R42). -/
def State.reflow (n : LineNo) (s : State) : State :=
  if s.st n = .session ∧ s.path[n].flow = some .hold then s.raise (.flow n) else s

/-- Every tag slot one older, stopping at 3 (R133). -/
def State.ageSlots (s : State) : State :=
  { s with slots := mapTable s.slots fun i x =>
      match s.cfg.slots[i].source with
      | .tag _ => { x with age := min 3 (x.age + 1) }
      | .unused | .line _ => x }

/-- The Presence Table and the own sessions take the refresh expiry (R83): an event of their own, at which a forwarded line whose signals the ageing
changes has its LINE-STATE request raised (R129). -/
def State.refreshPresence (s : State) : State :=
  let s1 := eachLine allLines (State.reclaim false) s.agePresence
  eachLine allLines (State.raiseLineState s false) s1

/-- The Presence Table and the Group Status Unit take the refresh expiry as events of their own, with no order among them (R83): the order is a free
choice (log entry 10), drawn where the two come to different requests. -/
def State.refreshTables (s : State) : State :=
  let a := s.refreshPresence.ageSlots
  let b := s.ageSlots.refreshPresence
  if a.reqs = b.reqs ∧ a.counters = b.counters then a
  else if Config.freePick s.draws % 2 = 0 then { a with draws := s.draws + 1 }
  else { b with draws := s.draws + 1 }

/-- A refresh period (R42, R69, R83, R133): the timer starts again and every block that acts at a refresh takes it. The LINE-STATE requests of R129 are
raised in the closing work of the event, for a line whose signals the presence ageing changed a second time (log entry 16). -/
def State.refresh (s : State) : State :=
  let s1 : State := { s with refreshTimer := some (s.now + 1000 * s.cfg.refreshPeriod) }
  (eachLine allLines State.reflow s1.refreshTables).raiseConfirms

/-- REFRESH_TIMER_EXPIRY (R83, R129). -/
def execRefreshTimerExpiry (t : Moment) (s : State) : Host.Outcome State Fault Refusal :=
  if fallenDue s.refreshTimer (s.at t).now then .next (s.eventForAll t State.refresh) else take s t id

/-! ## Beacon period (R87, R161) -/

/-- The roster one beacon period older; the own entry is not touched (R85, R87). -/
def agedRoster (own : Station) (r : Vector RosterEntry 16) : Vector RosterEntry 16 :=
  mapTable r fun i e => if i = own then e else { e with age := min 3 (e.age + 1) }

/-- A beacon period: the timer starts again, the roster ages, and a BEACON request is raised (R87, R161). -/
def State.beaconPeriod (s : State) : State :=
  let s1 : State := { s with beaconTimer := some (s.now + 10000), roster := agedRoster s.station s.roster }
  (s1.reactRoster s.roster none).raise .beacon

/-- BEACON_PERIOD_EXPIRY (R87). -/
def execBeaconPeriodExpiry (t : Moment) (s : State) : Host.Outcome State Fault Refusal :=
  take s t fun s => if fallenDue s.beaconTimer s.now then s.beaconPeriod else s

/-! ## Ack waits (R120) -/

/-- The ack wait of the record bearing a serial, if it is offered (R120). -/
def ackWaitOf (q : List Queued) (serial : BitVec 8) : Option Moment :=
  match q.find? fun r => r.charge.serial = serial with
  | some r => if r.offered then r.ackWait else none
  | none => none

/-- The ack-wait timer of the offered record bearing a serial is started again (R120). -/
def restartAck (now : Moment) (serial : BitVec 8) (q : List Queued) : List Queued :=
  q.map fun r => if r.charge.serial = serial ∧ r.offered = true then { r with ackWait := some (now + ackWaitMs) } else r

/-- ACK_WAIT_EXPIRY (R120). -/
def execAckWaitExpiry (t : Moment) (serial : BitVec 8) (s : State) : Host.Outcome State Fault Refusal :=
  take s t fun s =>
    if fallenDue (ackWaitOf s.queue serial) s.now then
      State.raise { s with queue := restartAck s.now serial s.queue } (.charge serial)
    else s

/-! ## Clash timer and quiet interval (R141, R159) -/

/-- CLASH_TIMER_EXPIRY (R141). -/
def execClashTimerExpiry (t : Moment) (s : State) : Host.Outcome State Fault Refusal :=
  take s t fun s => if fallenDue s.clashTimer s.now then { s with clashTimer := none } else s

/-- QUIET_INTERVAL_EXPIRY (R159, R161). -/
def execQuietIntervalExpiry (t : Moment) (s : State) : Host.Outcome State Fault Refusal :=
  take s t fun s =>
    if s.bus = .silent ∧ fallenDue s.quietTimer s.now = true then
      State.raise { s with bus := .joining, quietTimer := none } .beacon
    else s

end Sys2Proof.Machine
end

