-- ==== Sys2Proof/Machine/Bus.lean ====
section
/-! DEFINITION. The Bus Controller as a sender (Chapter 9): the selector and the building of frames, lost arbitration, strikes and
discard, the echoes of the LC-16's own frames, receive faults and number clashes. -/

namespace Sys2Proof.Machine

/-! ## Building frames (R38, R42, R60, R64, R69, R80, R81, R119, R130, R151, R161, R163) -/

/-- The free lines a beacon announces (Table 9-5). -/
def State.freeLines (s : State) : Nat := countLines fun n => s.st n = .idle && !s.madeBusy n

/-- The contents of the LC-16's beacon (Table 9-5). -/
def State.beaconOut (s : State) : BeaconOut where
  freshStart := !s.freshAnnounced
  configClamped := s.configClamped
  clash := s.clashTimer.isSome
  sessions := s.linesIn .session
  signOns := s.linesIn .signon
  freeLines := s.freeLines
  freeSlots := s.freeSlots
  alarmLevel := s.alarmLevel

/-- How many characters a DATA-IN frame takes (R38). -/
def Path.takes (p : Path) : Nat :=
  let k := min 14 p.inQ.chars.length
  if p.flagWaits then min k (p.mark.getD 0) else k

/-- A DATA-IN frame carries the waiting flags (R38). -/
def Path.carriesFlags (p : Path) : Bool := p.flagWaits && p.mark = some p.takes

/-- The line whose forward tag is `tag` (R128). -/
def State.lineOfTag (s : State) (tag : Fin 64) : Option LineNo := allLines.find? fun n => s.cfg.tags[n] = some tag

/-- The frame of line `n`'s CLAIM request: NEW from a context in CLAIMING, REFRESH or SURVEY-ANSWER from a session (R64, R80). -/
def State.buildClaim (s : State) (n : LineNo) : Option (Dest × FrameBody) :=
  match s.st n with
  | .signon =>
    match s.sign[n] with
    | some c =>
      if c.phase = .claiming then
        some (.all, .claim n .new c.provisional c.user (c.sessionSerial.getD 0) ((c.granted.map Granted.channel).getD 0))
      else none
    | none => none
  | .session =>
    match s.sess[n] with
    | some x =>
      some (.all, .claim n (if s.claims[n].surveyOwed then .surveyAnswer else .refresh) x.provisional x.user x.serial x.channel)
    | none => none
  | .out | .idle | .ringing | .answering | .closing | .hangup | .proving => none

/-- The frame of line `n`'s ADMIT-REQ request: NEW from a context in ASKING (R60), CONFIRM from a provisional session (R69). -/
def State.buildAdmitReq (s : State) (n : LineNo) : Option (Dest × FrameBody) :=
  if s.claims[n].admitConfirm then
    match s.sess[n] with
    | some x =>
      match x.confirm with
      | some c =>
        if x.provisional && x.reason.isNone then some (.accountants, .admitReq n c.serial true x.user []) else none
      | none => none
    | none => none
  else
    match s.sign[n] with
    | some c =>
      match c.requestSerial with
      | some q => if c.phase = .asking then some (.accountants, .admitReq n q false c.user c.code) else none
      | none => none
    | none => none

/-- The frame of line `n`'s FLOW request (R42). -/
def State.buildFlow (s : State) (n : LineNo) : Option (Dest × FrameBody) :=
  match s.sess[n], s.path[n].flow with
  | some x, some f => if s.st n = .session then some (.station x.channel, .flow n f) else none
  | _, _ => none

/-- The frame of line `n`'s DATA-IN request (R38). -/
def State.buildDataIn (s : State) (n : LineNo) : Option (Dest × FrameBody) :=
  let p := s.path[n]
  match s.sess[n] with
  | some x =>
    if s.st n ≠ .session ∨ s.forwardingBlocked n = true ∨ (p.takes = 0 ∧ p.carriesFlags = false) then none
    else
      some (.station x.channel,
        .dataIn n (p.carriesFlags && p.attention) (p.carriesFlags && p.brk) (p.inQ.chars.take p.takes))
  | none => none

/-- The frame of a request, built from its owner's state as it stands; `none` when the owner finds nothing to build (R156). -/
def State.build (s : State) : ReqId → Option (Dest × FrameBody)
  | .beacon => some (.all, .beacon s.beaconOut)
  | .survey => some (.all, .survey)
  | .flow n => s.buildFlow n
  | .release n => s.claims[n].release.map fun r => (.all, .release n r)
  | .claim n => s.buildClaim n
  | .admitReq n => s.buildAdmitReq n
  | .charge serial =>
    (s.queue.find? fun r => r.charge.serial = serial && r.offered).map fun r => (.accountants, .charge r.charge)
  | .lineState tag => (s.lineOfTag tag).map fun n => (.all, .lineState tag (s.signals n))
  | .orderResult slot =>
    s.orderSlots[slot].map fun r => (.station r.station, .orderResult r (resultData s.counters r.outcome))
  | .runResult n => s.result[n].map fun r => (.station r.station, .runResult n r)
  | .dataIn n => s.buildDataIn n

/-! ## The selector (R157) -/

/-- The place of a request among those of its kind (R157). -/
def State.rank (s : State) : ReqId → Nat
  | .beacon | .survey => 0
  | .flow n | .release n | .claim n | .admitReq n => n
  | .charge serial => s.queue.findIdx fun r => r.charge.serial = serial
  | .lineState tag => tag
  | .orderResult slot => 2 * slot
  | .runResult n => 2 * n + 1
  | .dataIn n => (n.val + 15 - s.rotation.val) % 16

/-- The order in which the selector prefers requests: level, kind code, then the place within the kind (R157). -/
def State.selectKey (s : State) (i : ReqId) : Nat :=
  (i.precedence.1 * 32 + i.precedence.2) * 256 + s.rank i

/-- The bus state allows a request (R157). -/
def BusState.allows : BusState → ReqId → Bool
  | .active, _ => true
  | .joining, .beacon => true
  | .joining, _ => false
  | .silent, _ => false

/-- The requests the selector considers. -/
def State.considered (s : State) : List ReqId :=
  (s.reqs.filter fun p => p.2.pending && s.bus.allows p.1).map Prod.fst

/-- The one of a list of requests that the selector prefers. -/
def State.preferred (s : State) : List ReqId → Option ReqId
  | [] => none
  | i :: rest =>
    match s.preferred rest with
    | none => some i
    | some j => if s.selectKey i ≤ s.selectKey j then some i else some j

/-- What the owner of a request records at its selection, whether or not a frame was built: a DATA-IN frame in flight (R38), and the
survey-owed mark cleared (R80). -/
def State.noteSelected (s : State) (i : ReqId) : State :=
  match i with
  | .claim n => s.setClaims n { s.claims[n] with surveyOwed := false }
  | .dataIn n =>
    if (s.buildDataIn n).isSome then
      s.updPath n fun p =>
        { p with inFlight := some ⟨p.takes, p.carriesFlags && p.attention, p.carriesFlags && p.brk, false, false⟩ }
    else s
  | _ => s

/-- A request is selected: its frame is started, its pending flag cleared and its on-wire mark set, or it is dropped (R156). -/
def State.selectReq (s : State) (i : ReqId) : State :=
  let s1 := s.noteSelected i
  match s.build i with
  | some (d, b) => { s1.setReq i { s1.req i with pending := false } with wire := some ⟨i, d, b⟩ }
  | none => s1.dropReq i

/-- The selector picks again at the same idle until a frame is started or nothing remains (R157). -/
def State.select : Nat → State → State
  | 0, s => s
  | fuel + 1, s =>
    match s.preferred s.considered with
    | none => s
    | some i => if (s.build i).isSome then s.selectReq i else State.select fuel (s.selectReq i)

/-- BUS_IDLE (R157): the transmitter must be free. -/
def execBusIdle (t : Moment) (s : State) : Host.Outcome State Fault Refusal :=
  take s t fun s => if s.wire = none then State.select s.reqs.length s else s

/-! ## Lost arbitration, strikes and discard (R152, R155) -/

/-- The DATA-IN frame of a request is no longer in flight. -/
def State.landed (s : State) (i : ReqId) : State :=
  match i with
  | .dataIn n => s.updPath n fun p => { p with inFlight := none }
  | _ => s

/-- The request stands pending again with a strike count (R152, R155). -/
def State.repend (s : State) (i : ReqId) (strikes : Nat) : State :=
  State.setReq { s.landed i with wire := none } i ⟨true, strikes⟩

/-- ARBITRATION_LOST (R152). -/
def execArbitrationLost (t : Moment) (s : State) : Host.Outcome State Fault Refusal :=
  take s t fun s =>
    match s.wire with
    | some w => s.repend w.req (s.req w.req).strikes
    | none => s

/-- Entry to SILENT (R159). -/
def State.enterSilent (s : State) : State :=
  { s with bus := .silent, quietTimer := some (s.now + 2000), streak := 0 }

/-- The own claim of line `n` bearing a serial is removed and the release slot emptied, as its RELEASE is echoed or discarded
(R65, R81). -/
def State.endRelease (s : State) (n : LineNo) (serial : BitVec 16) : State :=
  let c := s.claims[n]
  s.setClaims n { c with
    own := match c.own with
      | some o => if o.serial = serial then none else some o
      | none => none
    release := none }

/-- What the owner of a discarded frame does (R81, R151, R163). -/
def State.ownerDiscards (s : State) (w : WireFrame) : State :=
  match w.body with
  | .release n r => s.endRelease n r.serial
  | .orderResult _ _ =>
    match w.req with
    | .orderResult slot => { s with orderSlots := s.orderSlots.set slot none }
    | _ => s
  | .runResult n _ => s.setResult n none
  | .beacon _ | .survey | .flow _ _ | .claim _ _ _ _ _ _ | .admitReq _ _ _ _ _ | .charge _ | .lineState _ _
  | .dataIn _ _ _ _ => s

/-- The discard acts by the frame's destination (R155, R158). -/
def State.discardTo (s : State) (w : WireFrame) : State :=
  match w.dest with
  | .station i => s.markAbsent i
  | .accountants => s
  | .all =>
    if (s.bus = .joining ∧ w.req = .beacon) ∨ 3 ≤ s.streak + 1 then s.enterSilent else { s with streak := s.streak + 1 }

/-- A frame is discarded at its eighth strike (R155). -/
def State.discard (s : State) (w : WireFrame) : State :=
  let s1 : State := { (s.landed w.req).count .framesDiscarded with wire := none }
  ((s1.dropReq w.req).ownerDiscards w).discardTo w

/-- A strike of the frame on the wire (R155). -/
def State.struck (s : State) (w : WireFrame) : State :=
  let s1 := s.count .strikes
  let strikes := (s.req w.req).strikes + 1
  if strikes < 8 then s1.repend w.req strikes else s1.discard w

/-- STRIKE (R155). -/
def execStrike (t : Moment) (s : State) : Host.Outcome State Fault Refusal :=
  take s t fun s =>
    match s.wire with
    | some w => s.struck w
    | none => s

/-! ## Own frames on the bus (R153) -/

/-- The frame on the wire is on the bus: the transmitter is free, the request's strike count returns to 0, and a frame addressed to
31 ends the discard streak (R155). -/
def State.delivered (s : State) (w : WireFrame) : State :=
  let s1 : State := { s with wire := none, streak := if w.dest = .all then 0 else s.streak }
  s1.setReq w.req { s.req w.req with strikes := 0 }

/-- The path of a line after its DATA-IN frame in flight is echoed: characters, flags and mark (R39). The forwarding timer runs
afresh if characters are left (R37). -/
def Path.echoed (p : Path) (f : InFlight) (due : Moment) : Path :=
  let q := p.inQ.remove f.k
  let attention := p.attention && (!f.attention || f.attentionAgain)
  let brk := p.brk && (!f.brk || f.brkAgain)
  { p with
    attention := attention
    brk := brk
    mark := if attention || brk then p.mark.map (· - f.k) else none
    fwdDue := false
    fwdTimer := if q.chars = [] then none else some due
    inFlight := none }

/-- A DATA-IN frame of line `n` is echoed (R39). DEDUCED, unsafe: the echo is a removal for R36 whatever its k, so one of flags alone, k = 0,
tests the threshold of XON too (log entry 44). -/
def State.dataInEchoed (s : State) (n : LineNo) : State :=
  let s1 : State := { s with rotation := n }
  match s.path[n].inFlight with
  | none => s1
  | some f =>
    let s2 := (s1.updPath n fun p => p.echoed f (s.now + s.cfg.forwardingTimer)).setIn n (s.path[n].inQ.remove f.k)
    s2.inputRemoved n

/-- DATA_IN_ECHOED (R39, R157). -/
def execDataInEchoed (t : Moment) (s : State) : Host.Outcome State Fault Refusal :=
  take s t fun s =>
    match s.wire with
    | some w =>
      match w.body with
      | .dataIn n _ _ _ => (s.delivered w).dataInEchoed n
      | _ => s
    | none => s

/-- An own CLAIM of kind NEW is echoed: it creates the own claim (R65), and the claim decision is taken for a context in CLAIMING
with its serial (R66). -/
def State.newClaimEchoed (s : State) (n : LineNo) (user : Nat) (serial : BitVec 16) : State :=
  let s1 := s.setClaims n { s.claims[n] with own := some ⟨user, serial⟩ }
  match s.sign[n] with
  | some c => if c.phase = .claiming ∧ c.sessionSerial = some serial then s1.decideClaim n c else s1
  | none => s1

/-- CLAIM_ECHOED (R65, R66, R79). -/
def execClaimEchoed (t : Moment) (s : State) : Host.Outcome State Fault Refusal :=
  take s t fun s =>
    match s.wire with
    | some w =>
      match w.body with
      | .claim n kind _ user serial _ =>
        if kind = .new then (s.delivered w).newClaimEchoed n user serial else s.delivered w
      | _ => s
    | none => s

/-- RELEASE_ECHOED (R65, R81). -/
def execReleaseEchoed (t : Moment) (s : State) : Host.Outcome State Fault Refusal :=
  take s t fun s =>
    match s.wire with
    | some w =>
      match w.body with
      | .release n r => (s.delivered w).endRelease n r.serial
      | _ => s
    | none => s

/-- CHARGE_ECHOED (R120). -/
def execChargeEchoed (t : Moment) (s : State) : Host.Outcome State Fault Refusal :=
  take s t fun s =>
    match s.wire with
    | some w =>
      match w.body with
      | .charge c => { s.delivered w with queue := restartAck s.now c.serial s.queue }
      | _ => s
    | none => s

/-- The joining beacon is on the bus: the bus state becomes ACTIVE and a SURVEY is raised (R158). -/
def State.joined (s : State) (b : BeaconOut) : State :=
  State.raise { s with bus := .active, freshAnnounced := s.freshAnnounced || b.freshStart } .survey

/-- JOINING_BEACON_ECHOED (R158). -/
def execJoiningBeaconEchoed (t : Moment) (s : State) : Host.Outcome State Fault Refusal :=
  take s t fun s =>
    match s.wire with
    | some w =>
      match w.body with
      | .beacon b => if s.bus = .joining then (s.delivered w).joined b else s
      | _ => s
    | none => s

/-- An order's RESULT is echoed: its slot is emptied unless it has taken a newer result, whose request is then pending, and a
clearing REPORT zeroes its group (R163, R164). -/
def State.orderResultEchoed (s : State) (slot : Fin 17) (r : OrderResult) : State :=
  let s1 : State :=
    if (s.req (.orderResult slot)).pending then s else { s with orderSlots := s.orderSlots.set slot none }
  match r.outcome with
  | .reportData g true => { s1 with counters := s1.counters.zeroGroup g }
  | _ => s1

/-- RESULT_ECHOED (R151, R163, R164). DEDUCED, unsafe: the echo of a PROVING-RESULT empties the result record even if it was filled again while
the frame was on the wire, and the newer result is not sent (log entry 30). -/
def execResultEchoed (t : Moment) (s : State) : Host.Outcome State Fault Refusal :=
  take s t fun s =>
    match s.wire with
    | some w =>
      match w.req, w.body with
      | .orderResult slot, .orderResult r _ => (s.delivered w).orderResultEchoed slot r
      | .runResult _, .runResult n _ => (s.delivered w).setResult n none
      | _, _ => s
    | none => s

/-- The own frames whose echo has no effect beyond the Bus Controller's own (R79, R82, R153, R161). -/
def State.plainOwn (s : State) (b : FrameBody) : Bool :=
  match b with
  | .flow _ _ | .admitReq _ _ _ _ _ | .survey => true
  | .beacon _ => s.bus ≠ .joining
  | _ => false

/-- OWN_FRAME_ON_BUS (R153). -/
def execOwnFrameOnBus (t : Moment) (s : State) : Host.Outcome State Fault Refusal :=
  take s t fun s =>
    match s.wire with
    | some w => if s.plainOwn w.body then s.delivered w else s
    | none => s

/-! ## Receive faults and number clashes (R154, R160) -/

/-- The frame is a receive fault: a whole frame that is not well-formed, or one cut short that the LC-16 was not itself sending
(R154). -/
def receiveFaulty (f : RawFrame) (cutShort own : Bool) : Bool := if cutShort then !own else !frameWellFormed f

/-- RECEIVE_FAULT (R154). -/
def execReceiveFault (t : Moment) (f : RawFrame) (cutShort own : Bool) (s : State) : Host.Outcome State Fault Refusal :=
  take s t fun s =>
    if s.started ∧ receiveFaulty f cutShort own = true then State.count { s with echo := false } .receiveFaults else s

/-- A number clash (R160): counted, reported to the clash timer (R141), and the LC-16 silent for 2 s from now. -/
def State.clash (s : State) : State :=
  let s1 : State := { s.count .numberClashes with echo := false, clashTimer := some (s.now + 60000) }
  if s.bus = .silent then { s1 with quietTimer := some (s.now + 2000) } else s1.enterSilent

/-- NUMBER_CLASH (R141, R160). -/
def execNumberClash (t : Moment) (s : State) : Host.Outcome State Fault Refusal :=
  take s t fun s => if s.started then s.clash else s

end Sys2Proof.Machine
end

