-- ==== Sys2Proof/Machine/Metering.lean ====
section
/-! DEFINITION. The timebase supervisor and the limits of a metered session (Chapter 5): edges of TB, the watch timer, the internal
divider, and the three limits that close a session at a tick (R70, R93 to R96, R107, R110). -/

namespace Sys2Proof.Machine

/-- A moment more than 500 ms after the last tick, or with no last tick (R94). -/
def Timebase.tickDue (b : Timebase) (now : Moment) : Bool :=
  match b.lastTick with
  | some l => l + 500 < now
  | none => true

/-- The edge comes 900 to 1,100 ms after the candidate edge (R96). -/
def Timebase.returns (b : Timebase) (now : Moment) : Bool :=
  match b.candidate with
  | some c => c + 900 ≤ now && now ≤ c + 1100
  | none => false

/-- The watch timer's 1,500 ms (Table 5-1). -/
def watchMs : Nat := 1500

/-- A tick taken at this moment: it is recorded as the last tick and the sessions and the clock take it (R94, R101). -/
def State.takeTick (s : State) : State := State.tick { s with timebase := { s.timebase with lastTick := some s.now } }

/-- A rising edge of TB (R94, R96). -/
def State.tbEdge (s : State) : State :=
  match s.timebase.mode with
  | .following =>
    if s.timebase.tickDue s.now then
      State.takeTick { s with timebase := { s.timebase with watch := some (s.now + watchMs) } }
    else s
  | .fault =>
    if s.timebase.returns s.now then
      let s1 : State := { s with timebase :=
        { s.timebase with mode := .following, divider := none, candidate := none, watch := some (s.now + watchMs) } }
      if s.timebase.tickDue s.now then s1.takeTick else s1
    else { s with timebase := { s.timebase with candidate := some s.now } }

/-- TB_RISING_EDGE (R94, R96). -/
def execTbRisingEdge (t : Moment) (s : State) : Host.Outcome State Fault Refusal := take s t State.tbEdge

/-- TIMEBASE is set in every session record (R95). -/
def State.flagTimebase (s : State) : State :=
  { s with sess := mapTable s.sess fun _ x => x.map fun x => { x with timebase := true } }

/-- The reference has failed: the supervisor enters FAULT, TIMEBASE is set in every record, a tick is taken and the internal divider
starts (R95). -/
def State.failReference (s : State) : State :=
  State.takeTick (State.flagTimebase { s with timebase :=
    { s.timebase with mode := .fault, watch := none, divider := some (s.now + 1000), candidate := none } })

/-- WATCH_TIMER_EXPIRY (R95). -/
def execWatchTimerExpiry (t : Moment) (s : State) : Host.Outcome State Fault Refusal :=
  take s t fun s =>
    if s.timebase.mode = .following ∧ fallenDue s.timebase.watch s.now = true then s.failReference else s

/-- A tick of the internal divider; its next falls due 1,000 ms after this one did (R95). -/
def State.dividerTick (s : State) : State :=
  State.takeTick { s with timebase := { s.timebase with divider := s.timebase.divider.map (· + 1000) } }

/-- INTERNAL_DIVIDER_TICK (R95). -/
def execInternalDividerTick (t : Moment) (s : State) : Host.Outcome State Fault Refusal :=
  take s t fun s =>
    if s.timebase.mode = .fault ∧ fallenDue s.timebase.divider s.now = true then s.dividerTick else s

/-! ## Limits reached (log entry 9) -/

/-- A close cause for line `n`'s session when the session stands at a limit. -/
def State.closeAt (s : State) (n : LineNo) (limit : Session → Bool) (r : CloseReason) : State :=
  match s.sess[n] with
  | some x => if limit x then s.closeCause n r else s
  | none => s

/-- IDLE_TIMER_EXPIRY (R70): the idle timer stands at 0. -/
def execIdleTimerExpiry (t : Moment) (n : LineNo) (s : State) : Host.Outcome State Fault Refusal :=
  take s t fun s => s.closeAt n (fun x => x.idle = some 0) .idle

/-- GRACE_EXPIRY (R107): the grace counter stands at 0. -/
def execGraceExpiry (t : Moment) (n : LineNo) (s : State) : Host.Outcome State Fault Refusal :=
  take s t fun s => s.closeAt n (fun x => x.grace = some 0) .allowance

/-- The hold counter has reached the channel-loss limit (R110). -/
def holdLimit (cfg : Configuration) (x : Session) : Bool :=
  match x.hold with
  | some h => 60 * cfg.channelLoss ≤ h
  | none => false

/-- CHANNEL_LOSS_LIMIT (R110). -/
def execChannelLossLimit (t : Moment) (n : LineNo) (s : State) : Host.Outcome State Fault Refusal :=
  take s t fun s => s.closeAt n (holdLimit s.cfg) .channelLost

end Sys2Proof.Machine
end

