-- ==== Sys2Proof/Machine/Received.lean ====
section
/-! DEFINITION. Frames of other stations taken when they are on the bus (Chapters 2 to 7, R153, R154), and the echo of an own
LINE-STATE frame. -/

namespace Sys2Proof.Machine

/-! ## Taking a frame (R153, R154) -/

/-- A frame of another station can be taken: the other blocks are started, and its source is not the own number (R154, R160). -/
def State.hears (s : State) (src : Station) : Bool := s.started && src ≠ s.station

/-- A well-formed frame to every station is on the bus: the LC-16 drives its echo slot if its bus state allows, the sender's
roster entry is updated, and then the owning block takes it (R153, R154). -/
def State.takeAll (s : State) (src : Station) (effect : State → State) : State :=
  if s.hears src then effect (State.hear { s with echo := s.canEcho } src) else s

/-- A well-formed frame addressed to this station: with the LC-16's echo it is on the bus, and it is taken; without it, it takes no
effect (R153, R154, R159). -/
def State.takeOwn (s : State) (src : Station) (effect : State → State) : State :=
  if s.hears src then
    if s.canEcho then effect (State.hear { s with echo := true } src) else { s with echo := false }
  else s

/-- FRAME_ON_BUS: a frame that no block takes makes its sender's age 0 (R86, R154). One addressed to this station is on the bus only
by the LC-16's own echo; one to another station or to the accountants is echoed by them. -/
def State.frameOnBus (s : State) (src : Station) (dest : BitVec 5) : State :=
  if dest.toNat = s.station.val then s.takeOwn src id
  else if dest.toNat = 31 then s.takeAll src id
  else if destValid dest && s.hears src then State.hear { s with echo := false } src
  else s

/-- FRAME_ON_BUS (R86, R154). -/
def execFrameOnBus (t : Moment) (src : Station) (dest : BitVec 5) (s : State) : Host.Outcome State Fault Refusal :=
  take s t fun s => s.frameOnBus src dest

/-! ## Roster and presence (R77, R78, R82, R84, R86) -/

/-- A roster entry as a BEACON leaves it (R86). -/
def beaconEntry (p : BeaconPayload) : RosterEntry where
  roles := rolesOf p.roles
  age := 0
  freshSeen := flagByte p.freshStart
  ceiling := (p.levelCeiling.extractLsb' 0 12).toNat
  signOns := min 16 p.signOns.toNat

/-- The beacon of a station present before it changes fresh-start seen from clear to set (R88). -/
def RosterEntry.returns (before : RosterEntry) (p : BeaconPayload) : Bool :=
  before.present && !before.freshSeen && flagByte p.freshStart

/-- The purge and the end of channel-hold that a fresh start brings (R43, R84). -/
def State.purge (s : State) (src : Station) : State :=
  let s1 : State := { s with presence := s.presence.filter fun e => e.station ≠ src }
  s1.clearChannelHold fun n =>
    match s.sess[n] with
    | some x => x.channel = src
    | none => false

/-- A BEACON of another station is taken (R43, R84, R86, R88). -/
def State.takeBeacon (s : State) (src : Station) (p : BeaconPayload) : State :=
  if s.hears src then
    let s0 : State := { s with echo := s.canEcho }
    let s1 := s0.changeRoster src (fun _ => beaconEntry p) (if s.roster[src].returns p then some src else none)
    if flagByte p.freshStart then s1.purge src else s1
  else s

/-- BEACON (R84, R86). -/
def execBeacon (t : Moment) (src : Station) (p : BeaconPayload) (s : State) : Host.Outcome State Fault Refusal :=
  take s t fun s => s.takeBeacon src p

/-- The Presence Table with the entry of a station and line inserted or replaced, its age 0 (R77). -/
def putPresence (ps : List Presence) (e : Presence) : List Presence :=
  e :: ps.filter fun x => ¬(x.station = e.station ∧ x.line = e.line)

/-- A CLAIM of another station (R77); one with a reserved kind, a line out of range or a bad user number is ignored (R77, R173). -/
def State.noteClaim (s : State) (src : Station) (p : ClaimPayload) : State :=
  match lineOf p.line, userOf p.user, claimKindOf p.kind with
  | some n, some user, some _ => { s with presence := putPresence s.presence ⟨src, n, user, p.serial, 0⟩ }
  | _, _, _ => s

/-- CLAIM (R77). -/
def execClaim (t : Moment) (src : Station) (p : ClaimPayload) (s : State) : Host.Outcome State Fault Refusal :=
  take s t fun s => s.takeAll src fun s => s.noteClaim src p

/-- A RELEASE of another station removes the entry with its station, line and session serial (R78); one with a reserved reason is
ignored (R173). -/
def State.noteRelease (s : State) (src : Station) (p : ReleasePayload) : State :=
  if reasonKnown p.reason then
    { s with presence := s.presence.filter fun e =>
        ¬(e.station = src ∧ e.line.val = p.line.toNat ∧ e.serial = p.serial) }
  else s

/-- RELEASE (R78). -/
def execRelease (t : Moment) (src : Station) (p : ReleasePayload) (s : State) : Host.Outcome State Fault Refusal :=
  take s t fun s => s.takeAll src fun s => s.noteRelease src p

/-- A SURVEY of another station: CLAIM requests for the lines in SESSION, and FLOW requests for those in HOLD (R42, R82). -/
def State.answerSurvey (s : State) : State :=
  eachLine allLines State.reflow (eachLine allLines (State.reclaim true) s)

/-- SURVEY (R82); the LINE-STATE requests of R129 are raised in the closing work of the event. -/
def execSurvey (t : Moment) (src : Station) (s : State) : Host.Outcome State Fault Refusal :=
  if s.hears src then .next (s.eventForAll t fun s => s.takeAll src State.answerSurvey) else take s t id

/-! ## TIME (R98) -/

/-- A TIME frame sets the station clock if its source announces CLOCK and its values lie in their ranges (R98). -/
def State.setClock (s : State) (src : Station) (minute : BitVec 16) (second : Byte) : State :=
  if s.roster[src].roles.clock ∧ minute.toNat < 10080 ∧ second.toNat < 60 then
    { s with clock := ⟨minute.toNat, second.toNat, false⟩ }
  else s

/-- TIME (R98). -/
def execTime (t : Moment) (src : Station) (minute : BitVec 16) (second : Byte) (s : State) :
    Host.Outcome State Fault Refusal :=
  take s t fun s => s.takeAll src fun s => s.setClock src minute second

/-! ## LINE-STATE (R132) -/

/-- The slots after a LINE-STATE of a tag: every slot whose source is the tag takes its signal's value, with age 0 (R132). -/
def State.noteLineState (s : State) (tag : Nat) (g : Signals) : State :=
  { s with slots := mapTable s.slots fun i x =>
      match s.cfg.slots[i].source with
      | .tag k => if k.val = tag then ⟨g.value s.cfg.slots[i].signal, 0⟩ else x
      | .unused | .line _ => x }

/-- The own LINE-STATE frame on the wire is echoed (R130, R132). -/
def State.ownLineState (s : State) : State :=
  match s.wire with
  | some w =>
    match w.body with
    | .lineState tag g => (s.delivered w).noteLineState tag g
    | _ => s
  | none => s

/-- LINE_STATE (R132): of another station, or, with the own number as source, the echo of the own frame on the wire. A tag above 63
names no slot's source. -/
def execLineState (t : Moment) (src : Station) (tag signals : Byte) (s : State) : Host.Outcome State Fault Refusal :=
  take s t fun s =>
    if src = s.station then s.ownLineState
    else s.takeAll src fun s => s.noteLineState tag.toNat (signalsOf signals)

/-! ## FLOW and DATA-OUT (R40, R41, R43) -/

/-- Line `n`'s session, if the line is in SESSION and the station is the session's channel station (R40, R43). -/
def State.sessionOf (s : State) (n : LineNo) (src : Station) : Option Session :=
  match s.sess[n] with
  | some x => if s.st n = .session ∧ x.channel = src then some x else none
  | none => none

/-- A FLOW sets or clears channel-hold for a line whose session's channel station sent it; any other is ignored (R43, R173). -/
def State.noteFlow (s : State) (src : Station) (line state : Byte) : State :=
  match lineOf line, flowStateOf state with
  | some n, some f =>
    if (s.sessionOf n src).isSome then s.updPath n fun p => { p with channelHold := f = .hold } else s
  | _, _ => s

/-- FLOW (R43). -/
def execFlow (t : Moment) (src : Station) (line state : Byte) (s : State) : Host.Outcome State Fault Refusal :=
  take s t fun s => s.takeOwn src fun s => s.noteFlow src line state

/-- The line of a DATA-OUT that its source may send to (R40). -/
def State.dataOutLine (s : State) (src : Station) (line : Byte) : Option LineNo :=
  match lineOf line with
  | some n => if (s.sessionOf n src).isSome then some n else none
  | none => none

/-- The outbound room a DATA-OUT finds: with FLUSH, as it would stand with the queue emptied (R40). -/
def State.roomFor (s : State) (n : LineNo) (flush : Bool) : Nat := if flush then s.outRoomFlushed n else s.outRoom n

/-- The session after the flags of an accepted DATA-OUT (R41). -/
def Session.flags (x : Session) (f : DataOutFlags) : Session :=
  { x with
    echo := if f.echoOn && !f.echoOff then true else if f.echoOff && !f.echoOn then false else x.echo
    endMark := x.endMark || f.endMark }

/-- An accepted DATA-OUT: FLUSH, the characters, then the flags (R40, R41). Characters that find no room at this moment are not stored
(R31); the sender's roster update, which comes first, takes none of the room found (R154). -/
def State.acceptData (s : State) (n : LineNo) (f : DataOutFlags) (chars : List Char7) : State :=
  if s.roomFor n f.flush < chars.length then s.count .dataOutRefused
  else
    let s1 := if f.flush then s.flush n else s
    (s1.sendOut n chars).updSess n fun x => x.flags f

/-- DATA-OUT (R40): accepted and echoed; refused for want of room, its echo withheld and so not on the bus; or echoed and
discarded. -/
def State.dataOut (s : State) (src : Station) (line flags : Byte) (chars : List Char7) : State :=
  let f := dataOutFlagsOf flags
  match s.dataOutLine src line with
  | some n =>
    if s.hears src && s.canEcho && decide (s.roomFor n f.flush < chars.length) then
      State.count { s with echo := false } .dataOutRefused
    else s.takeOwn src fun s => s.acceptData n f chars
  | none => s.takeOwn src fun s => s.count .dataOutRefused

/-- DATA_OUT (R40, R41). -/
def execDataOut (t : Moment) (src : Station) (line flags : Byte) (chars : List Byte) (s : State) :
    Host.Outcome State Fault Refusal :=
  take s t fun s => s.dataOut src line flags (chars.map charOf)

/-! ## Replies and acknowledgements (R61, R121) -/

/-- ADMIT_REPLY (R61). -/
def execAdmitReply (t : Moment) (src : Station) (p : ReplyPayload) (s : State) : Host.Outcome State Fault Refusal :=
  take s t fun s => s.takeOwn src fun s => s.takeReply src p

/-- A CHARGE-ACK removes the record with its serial, wherever it stands, or is stale and counted (R121). -/
def State.acknowledge (s : State) (src : Station) (serial : BitVec 8) : State :=
  if s.roster[src].roles.accountant ∧ (s.queue.any fun r => r.charge.serial = serial) = true then
    { s with queue := s.queue.filter fun r => r.charge.serial ≠ serial }
  else s.count .staleReplies

/-- CHARGE_ACK (R121). -/
def execChargeAck (t : Moment) (src : Station) (serial : BitVec 8) (s : State) : Host.Outcome State Fault Refusal :=
  take s t fun s => s.takeOwn src fun s => s.acknowledge src serial

end Sys2Proof.Machine
end

