-- ==== Sys2Proof/Machine/StartUp.lean ====
section
/-! DEFINITION. Power-up, the start of the other blocks, and restart (Chapter 10): the commands POWER_UP_RESET,
START_OTHER_BLOCKS, RESTART_PIN_ASSERTED and RESTART_PIN_RELEASED. -/

namespace Sys2Proof.Machine

/-- Power-up reset at the present moment: every block takes its power-up values and the watch timer starts; the levels of the input
pins are the outside's, and the waiting commands are the model's (R166). -/
def State.powerUp (s : State) : State :=
  { State.reset with
    now := s.now
    restartPin := s.restartPin
    sup := mapTable s.sup fun _ l => LineRec.fresh .out l.ri l.cd
    timebase := { State.reset.timebase with watch := some (s.now + 1500) }
    draws := s.draws
    pending := s.pending }

/-- POWER_UP_RESET (R6, R93, R97, R166). -/
def execPowerUpReset (t : Moment) (s : State) : Host.Outcome State Fault Refusal := .next (s.at t).powerUp

/-- Line `n`'s record as the in-service mask places it: after power-up from OUT to IDLE, or left in OUT (R6); after a restart with
out-pending set for a line left out, and the hangup guard started (R25). -/
def placeLine (cfg : Configuration) (loader : Loader) (now : Moment) (n : LineNo) (l : LineRec) : LineRec :=
  let inService := cfg.inService.getLsbD n
  match loader with
  | .powerUp => if inService then l.enterIdle now else l
  | .restart => { l with outPending := !inService, hangupGuard := some (now + 1000 * cfg.times.hangupGuard) }
  | .running => l

/-- The Start-Up Loader has read the straps and the store; it starts the other blocks (R166 to R169). -/
def State.start (s : State) (straps : BitVec 4) (store : StoreRead) : State :=
  let l := readStore store
  let s1 : State := { s with
    loader := .running
    station := ⟨straps.toNat, straps.isLt⟩
    cfg := l.val
    configClamped := l.clamped
    sup := mapTable s.sup (placeLine l.val s.loader s.now)
    refreshTimer := some (s.now + 1000 * l.val.refreshPeriod)
    beaconTimer := some (s.now + 10000)
    bus := .joining }
  s1.raise .beacon

/-- START_OTHER_BLOCKS: taken while the loader is at work and the RESTART pin is released; a LINE-STATE request is raised for
every forwarded line (R129, R166). -/
def execStartOtherBlocks (t : Moment) (straps : BitVec 4) (store : StoreRead) (s : State) :
    Host.Outcome State Fault Refusal :=
  if s.loader = .running ∨ s.restartPin = true then .next (s.at t)
  else .next (s.eventForAll t fun s => s.start straps store)

/-- A session ends at a restart: its meter is finished and its charge record appended, with reason RESTART unless one is set
(R25, R71, R72). -/
def State.restartSession (n : LineNo) (s : State) : State :=
  match s.sess[n] with
  | none => s
  | some x => (s.appendCharge n (x.finish s.cfg) (x.reason.getD .restart)).setSess n none

/-- The restart event (R25, R170): the sessions close in ascending order of line number (R116), every line enters HANGUP without its
guard, and every table, request and counter is cleared; the Charge Queue, the serial counters, the station clock and the timebase
supervisor are kept. The configuration stays as loaded until the loader reads the store again. -/
def State.restart (s : State) : State :=
  let s1 := eachLine allLines State.restartSession s
  { State.reset with
    now := s.now
    loader := .restart
    restartPin := s.restartPin
    station := s.station
    cfg := s.cfg
    configClamped := s.configClamped
    sup := mapTable s.sup fun _ l => LineRec.fresh .hangup l.ri l.cd
    requestSerial := s.requestSerial
    sessionSerial := s.sessionSerial
    recordSerial := s1.recordSerial
    timebase := s.timebase
    clock := s.clock
    queue := s1.queue.map Queued.unoffer
    echo := s.echo
    draws := s.draws
    pending := s.pending }

/-- RESTART_PIN_ASSERTED: a restart, unless a power-up is still loading, when the loader only begins again (R166, R170, R171). -/
def execRestartPinAsserted (t : Moment) (s : State) : Host.Outcome State Fault Refusal :=
  let s := s.at t
  if s.restartPin then .next s
  else
    match s.loader with
    | .powerUp => .next { s with restartPin := true }
    | .restart | .running => .next { s.restart with restartPin := true }

/-- RESTART_PIN_RELEASED: the loader, waiting at step 1, goes on from the straps (R166, R170). -/
def execRestartPinReleased (t : Moment) (s : State) : Host.Outcome State Fault Refusal :=
  .next { s.at t with restartPin := false }

end Sys2Proof.Machine
end

