-- ==== Sys2Proof/Machine/Orders.lean ====
section
/-! DEFINITION. The nine orders (R22 to R24, R47, R74, R138, R143, R162 to R164, R170). -/

namespace Sys2Proof.Machine

/-! ## Checks and results (R162, R163) -/

/-- An order's outcome fills the result slot of its line, and the RESULT request is raised (R163). -/
def State.fillSlot (s : State) (src : Station) (kind : OrderKind) (line : Byte) (o : OrderOutcome) : State :=
  State.raise
    { s with orderSlots := s.orderSlots.set (orderSlot line) (some ⟨src, kind, resultLine line, o⟩) }
    (.orderResult (orderSlot line))

/-- The sender announces ACCOUNTANT or CHANNEL (R162). -/
def State.entitled (s : State) (src : Station) : Bool := s.roster[src].roles.accountant || s.roster[src].roles.channel

/-- What an order does at the block it is handed to, by the line it names (`none` for all lines): the state after it, and its outcome
unless it sends no RESULT now. -/
abbrev OrderEffect := Option LineNo → State → State × Option OrderOutcome

/-- The effect of an order that passed both checks, its outcome filled in its slot (R162, R163). -/
def fillOutcome (src : Station) (kind : OrderKind) (line : Byte) (r : State × Option OrderOutcome) : State :=
  match r.2 with
  | some o => r.1.fillSlot src kind line o
  | none => r.1

/-- An ORDER addressed to this station: entitlement, then line, then the block that carries it out (R162). -/
def State.order (s : State) (src : Station) (kind : OrderKind) (line : Byte) (effect : OrderEffect) : State :=
  s.takeOwn src fun s =>
    if s.entitled src then
      match orderLine line with
      | .bad => s.fillSlot src kind line .refusedLine
      | .one n => fillOutcome src kind line (effect (some n) s)
      | .all => fillOutcome src kind line (effect none s)
    else s.fillSlot src kind line .refusedEntitlement

/-! ## FORCE-OFF (R74) -/

/-- FORCE-OFF of one line or of all (R74). -/
def forceOff : OrderEffect
  | some n, s => if s.st n = .session then (s.closeCause n .operator, some .done) else (s, some .refusedState)
  | none, s => (eachLine (allLines.filter fun n => s.st n = .session) (fun n s => s.closeCause n .operator) s, some .done)

/-- ORDER_FORCE_OFF (R74). -/
def execOrderForceOff (t : Moment) (src : Station) (line : Byte) (_arg : BitVec 16) (s : State) :
    Host.Outcome State Fault Refusal :=
  take s t fun s => s.order src .forceOff line forceOff

/-! ## OUT and IN (R22 to R24) -/

/-- An OUT order for a line in PROVING: a run at work is aborted, its verdict is ABORTED, and the line enters OUT with FAULT as it
stands. Where the run has ended by itself and its end-proving request still waits, the end comes first: the line leaves PROVING by the
verdict, and the order finds it in IDLE or OUT (R22, R150; log entry 8). -/
def State.outProving (s : State) (n : LineNo) : State :=
  if s.run[n].phase = .none then (s.takeEnd n).updSup n LineRec.enterOut
  else
    let s1 := s.endRun n .aborted
    (s1.updSup n LineRec.enterOut).setAsks n { s1.asks[n] with endRun := none }

/-- OUT of one line (R22). -/
def State.outLine (s : State) (n : LineNo) : State :=
  match s.st n with
  | .idle => s.updSup n LineRec.enterOut
  | .ringing | .answering | .signon | .session | .closing | .hangup =>
    s.updSup n fun l => { l with outPending := true }
  | .proving => s.outProving n
  | .out => s

/-- The outcome of OUT for one line (R22). -/
def outOutcome (st : LineState) : OrderOutcome :=
  match st with
  | .ringing | .answering | .signon | .session | .closing | .hangup => .queued
  | .idle | .proving | .out => .done

/-- OUT of one line or of all (R22, R24). -/
def orderOutEffect : OrderEffect
  | some n, s => (s.outLine n, some (outOutcome (s.st n)))
  | none, s =>
    (eachLine allLines (fun n s => s.outLine n) s,
      some (if allLines.any fun n => outOutcome (s.st n) = .queued then .queued else .done))

/-- ORDER_OUT (R22, R24). -/
def execOrderOut (t : Moment) (src : Station) (line : Byte) (_arg : BitVec 16) (s : State) :
    Host.Outcome State Fault Refusal :=
  take s t fun s => s.order src .out line orderOutEffect

/-- IN is refused for a line that is neither in OUT nor has out-pending set (R23). -/
def State.inRefused (s : State) (n : LineNo) : Bool := s.st n ≠ .out && !s.sup[n].outPending

/-- IN of one line (R23). -/
def State.inLine (s : State) (n : LineNo) : State :=
  if s.st n = .out then s.updSup n fun l => { l with fault := false, outPending := false }.enterIdle s.now
  else s.updSup n fun l => { l with outPending := false }

/-- IN of one line or of all (R23, R24). -/
def orderInEffect : OrderEffect
  | some n, s => if s.inRefused n then (s, some .refusedState) else (s.inLine n, some .done)
  | none, s => (eachLine (allLines.filter fun n => !s.inRefused n) (fun n s => s.inLine n) s, some .done)

/-- ORDER_IN (R23, R24). -/
def execOrderIn (t : Moment) (src : Station) (line : Byte) (_arg : BitVec 16) (s : State) :
    Host.Outcome State Fault Refusal :=
  take s t fun s => s.order src .in_ line orderInEffect

/-! ## PROVE (R143) -/

/-- PROVE of one line from a station; an accepted one makes the begin-proving request and sends no RESULT now (R143). -/
def proveEffect (src : Station) (duration : Nat) : OrderEffect
  | none, s => (s, some .refusedLine)
  | some n, s =>
    if s.result[n].isSome then (s, some .refusedState)
    else
      match s.st n with
      | .idle => (s.setAsks n { s.asks[n] with begin := s.asks[n].begin ++ [⟨src, .idle, duration⟩] }, none)
      | .out => (s.setAsks n { s.asks[n] with begin := s.asks[n].begin ++ [⟨src, .out, duration⟩] }, none)
      | .ringing | .answering | .signon | .session | .closing | .hangup | .proving => (s, some .refusedState)

/-- ORDER_PROVE (R143). -/
def execOrderProve (t : Moment) (src : Station) (line : Byte) (arg : BitVec 16) (s : State) :
    Host.Outcome State Fault Refusal :=
  take s t fun s => s.order src .prove line (proveEffect src (proveDuration arg))

/-! ## DRAIN, UNDRAIN, NOTICE, REPORT and RESTART (R47, R138, R164, R170) -/

/-- The drain flag is set or cleared, whatever line the order names (R138). -/
def drainEffect (on : Bool) : OrderEffect := fun _ s => ({ s with drain := on }, some .done)

/-- ORDER_DRAIN (R138). -/
def execOrderDrain (t : Moment) (src : Station) (line : Byte) (_arg : BitVec 16) (s : State) :
    Host.Outcome State Fault Refusal :=
  take s t fun s => s.order src .drain line (drainEffect true)

/-- ORDER_UNDRAIN (R138). -/
def execOrderUndrain (t : Moment) (src : Station) (line : Byte) (_arg : BitVec 16) (s : State) :
    Host.Outcome State Fault Refusal :=
  take s t fun s => s.order src .undrain line (drainEffect false)

/-- A notice of the operator, as a text. -/
def operatorNotice (i : Fin 8) : Text := ⟨[.notice i], none⟩

/-- NOTICE to one line, or to every line in SESSION at one event (R47). -/
def noticeEffect (i : Fin 8) : OrderEffect
  | some n, s =>
    if s.st n = .session then (s.noticeText n (operatorNotice i), some .done) else (s, some .refusedState)
  | none, s =>
    (inFreeOrder (allLines.filter fun n => s.st n = .session) (fun n s => s.noticeText n (operatorNotice i)) s, some .done)

/-- ORDER_NOTICE (R47). -/
def execOrderNotice (t : Moment) (src : Station) (line : Byte) (arg : BitVec 16) (s : State) :
    Host.Outcome State Fault Refusal :=
  take s t fun s => s.order src .notice line (noticeEffect (noticeIndex arg))

/-- The restart that a RESTART order begins at its own event; it sends no RESULT (R162, R170). -/
def restartEffect : OrderEffect := fun _ s => (s.restart, none)

/-- ORDER_RESTART (R170). -/
def execOrderRestart (t : Moment) (src : Station) (line : Byte) (_arg : BitVec 16) (s : State) :
    Host.Outcome State Fault Refusal :=
  take s t fun s => s.order src .restart line restartEffect

/-- REPORT of a group, with the clear flag; a group above 2 is refused (R164). -/
def reportEffect (arg : BitVec 16) : OrderEffect := fun _ s =>
  match reportGroup arg with
  | some g => (s, some (.reportData g (reportClear arg)))
  | none => (s, some .refusedState)

/-- ORDER_REPORT (R164). -/
def execOrderReport (t : Moment) (src : Station) (line : Byte) (arg : BitVec 16) (s : State) :
    Host.Outcome State Fault Refusal :=
  take s t fun s => s.order src .report line (reportEffect arg)

end Sys2Proof.Machine
end

