-- ==== Sys2Proof/Machine/Dispatch.lean ====
section
/-! DEFINITION. The one dispatch: each command is given to its meaning. -/

namespace Sys2Proof.Machine

/-- The effect of a command on everything but the queue of waiting commands. -/
def exec (i : Instr) (s : State) : Host.Outcome State Fault Refusal :=
  match i with
  | .powerUpReset t => Sys2Proof.Machine.execPowerUpReset t s
  | .startOtherBlocks t straps store => Sys2Proof.Machine.execStartOtherBlocks t straps store s
  | .restartPinAsserted t => Sys2Proof.Machine.execRestartPinAsserted t s
  | .restartPinReleased t => Sys2Proof.Machine.execRestartPinReleased t s
  | .riRisingEdge t n => Sys2Proof.Machine.execRiRisingEdge t n s
  | .riFallingEdge t n => Sys2Proof.Machine.execRiFallingEdge t n s
  | .stuckRing t n => Sys2Proof.Machine.execStuckRing t n s
  | .ringSilenceExpiry t n => Sys2Proof.Machine.execRingSilenceExpiry t n s
  | .cdRisingEdge t n => Sys2Proof.Machine.execCdRisingEdge t n s
  | .cdFallingEdge t n => Sys2Proof.Machine.execCdFallingEdge t n s
  | .carrierQualified t n => Sys2Proof.Machine.execCarrierQualified t n s
  | .carrierWaitExpiry t n => Sys2Proof.Machine.execCarrierWaitExpiry t n s
  | .disconnect t n => Sys2Proof.Machine.execDisconnect t n s
  | .drainLimitExpiry t n => Sys2Proof.Machine.execDrainLimitExpiry t n s
  | .hangupGuardExpiry t n => Sys2Proof.Machine.execHangupGuardExpiry t n s
  | .establish t n => Sys2Proof.Machine.execEstablish t n s
  | .refuse t n => Sys2Proof.Machine.execRefuse t n s
  | .close t n => Sys2Proof.Machine.execClose t n s
  | .drained t n => Sys2Proof.Machine.execDrained t n s
  | .beginProving t n => Sys2Proof.Machine.execBeginProving t n s
  | .endProving t n => Sys2Proof.Machine.execEndProving t n s
  | .characterReceived t n data parity => Sys2Proof.Machine.execCharacterReceived t n data parity s
  | .framingError t n => Sys2Proof.Machine.execFramingError t n s
  | .lineBreak t n => Sys2Proof.Machine.execLineBreak t n s
  | .speedTry t n markMs width decoded stop => Sys2Proof.Machine.execSpeedTry t n markMs width decoded stop s
  | .characterSent t n => Sys2Proof.Machine.execCharacterSent t n s
  | .forwardingTimerExpiry t n => Sys2Proof.Machine.execForwardingTimerExpiry t n s
  | .signOnTimerExpiry t n => Sys2Proof.Machine.execSignOnTimerExpiry t n s
  | .replyWaitExpiry t n => Sys2Proof.Machine.execReplyWaitExpiry t n s
  | .confirmReplyWaitExpiry t n => Sys2Proof.Machine.execConfirmReplyWaitExpiry t n s
  | .tbRisingEdge t => Sys2Proof.Machine.execTbRisingEdge t s
  | .watchTimerExpiry t => Sys2Proof.Machine.execWatchTimerExpiry t s
  | .internalDividerTick t => Sys2Proof.Machine.execInternalDividerTick t s
  | .idleTimerExpiry t n => Sys2Proof.Machine.execIdleTimerExpiry t n s
  | .graceExpiry t n => Sys2Proof.Machine.execGraceExpiry t n s
  | .channelLossLimit t n => Sys2Proof.Machine.execChannelLossLimit t n s
  | .refreshTimerExpiry t => Sys2Proof.Machine.execRefreshTimerExpiry t s
  | .beaconPeriodExpiry t => Sys2Proof.Machine.execBeaconPeriodExpiry t s
  | .ackWaitExpiry t serial => Sys2Proof.Machine.execAckWaitExpiry t serial s
  | .clashTimerExpiry t => Sys2Proof.Machine.execClashTimerExpiry t s
  | .quietIntervalExpiry t => Sys2Proof.Machine.execQuietIntervalExpiry t s
  | .busIdle t => Sys2Proof.Machine.execBusIdle t s
  | .arbitrationLost t => Sys2Proof.Machine.execArbitrationLost t s
  | .strike t => Sys2Proof.Machine.execStrike t s
  | .dataInEchoed t => Sys2Proof.Machine.execDataInEchoed t s
  | .claimEchoed t => Sys2Proof.Machine.execClaimEchoed t s
  | .releaseEchoed t => Sys2Proof.Machine.execReleaseEchoed t s
  | .chargeEchoed t => Sys2Proof.Machine.execChargeEchoed t s
  | .joiningBeaconEchoed t => Sys2Proof.Machine.execJoiningBeaconEchoed t s
  | .resultEchoed t => Sys2Proof.Machine.execResultEchoed t s
  | .ownFrameOnBus t => Sys2Proof.Machine.execOwnFrameOnBus t s
  | .receiveFault t f cutShort own => Sys2Proof.Machine.execReceiveFault t f cutShort own s
  | .numberClash t => Sys2Proof.Machine.execNumberClash t s
  | .frameOnBus t src dest => Sys2Proof.Machine.execFrameOnBus t src dest s
  | .beacon t src p => Sys2Proof.Machine.execBeacon t src p s
  | .claim t src p => Sys2Proof.Machine.execClaim t src p s
  | .release t src p => Sys2Proof.Machine.execRelease t src p s
  | .survey t src => Sys2Proof.Machine.execSurvey t src s
  | .time t src minute second => Sys2Proof.Machine.execTime t src minute second s
  | .lineState t src tag signals => Sys2Proof.Machine.execLineState t src tag signals s
  | .flow t src line state => Sys2Proof.Machine.execFlow t src line state s
  | .dataOut t src line flags chars => Sys2Proof.Machine.execDataOut t src line flags chars s
  | .admitReply t src p => Sys2Proof.Machine.execAdmitReply t src p s
  | .chargeAck t src serial => Sys2Proof.Machine.execChargeAck t src serial s
  | .orderForceOff t src line arg => Sys2Proof.Machine.execOrderForceOff t src line arg s
  | .orderOut t src line arg => Sys2Proof.Machine.execOrderOut t src line arg s
  | .orderIn t src line arg => Sys2Proof.Machine.execOrderIn t src line arg s
  | .orderProve t src line arg => Sys2Proof.Machine.execOrderProve t src line arg s
  | .orderDrain t src line arg => Sys2Proof.Machine.execOrderDrain t src line arg s
  | .orderUndrain t src line arg => Sys2Proof.Machine.execOrderUndrain t src line arg s
  | .orderNotice t src line arg => Sys2Proof.Machine.execOrderNotice t src line arg s
  | .orderRestart t src line arg => Sys2Proof.Machine.execOrderRestart t src line arg s
  | .orderReport t src line arg => Sys2Proof.Machine.execOrderReport t src line arg s
  | .provingCarrierQualified t n => Sys2Proof.Machine.execProvingCarrierQualified t n s
  | .provingCarrierWaitExpiry t n => Sys2Proof.Machine.execProvingCarrierWaitExpiry t n s
  | .provingCharacterReceived t n data badlyFramed => Sys2Proof.Machine.execProvingCharacterReceived t n data badlyFramed s
  | .provingCarrierLost t n => Sys2Proof.Machine.execProvingCarrierLost t n s
  | .runTimerExpiry t n => Sys2Proof.Machine.execRunTimerExpiry t n s

end Sys2Proof.Machine
end

