-- ==== Sys2Proof/Machine/Receiver.lean ====
section
/-! DEFINITION. The receiver (R154, R172, R173): the fields of a frame from its bits, and the command that a frame is to the LC-16: its kind
from the level and kind code, its operands from the bytes of its payload, and the order that an ORDER's kind byte names. -/

namespace Sys2Proof.Machine

/-! ## Fields from bits (R172, Table 11-1) -/

/-- The number that bits write, most significant bit first. -/
def numberOfBits (bs : List Bool) : Nat := bs.foldl (fun v b => 2 * v + b.toNat) 0

/-- A field of `w` bits at a place of the bits, most significant bit first. -/
def fieldAt (w : Nat) (bs : List Bool) (place : Nat) : BitVec w := BitVec.ofNat w (numberOfBits ((bs.drop place).take w))

/-- The number of bits from the start to the end of the payload length field: start, precedence word, destination and length. -/
def headBits : Nat := 23

/-- The frame that bits from the start on write; `none` where they end before the CRC does, the frame being cut short (R154). -/
def frameOfBits (bs : List Bool) : Option RawFrame :=
  let length := fieldAt 5 bs 18
  let crcPlace := headBits + 8 * length.toNat
  if crcPlace + 16 ≤ bs.length then
    some
      { level := fieldAt 3 bs 1
        kind := fieldAt 5 bs 4
        source := fieldAt 4 bs 9
        dest := fieldAt 5 bs 13
        length := length
        payload := (List.range length.toNat).map fun i => fieldAt 8 bs (headBits + 8 * i)
        crc := fieldAt 16 bs crcPlace }
  else none

/-! ## Operands from the payload (R173, Table 11-3) -/

/-- A byte of a payload. -/
def payload1 (f : RawFrame) (i : Nat) : Byte := f.payload.getD i 0

/-- A number in two bytes of a payload, most significant byte first. -/
def payload2 (f : RawFrame) (i : Nat) : BitVec 16 := payload1 f i ++ payload1 f (i + 1)

/-- Three bytes of a payload: the six BCD digits of a user number. -/
def payload3 (f : RawFrame) (i : Nat) : BitVec 24 := payload1 f i ++ payload1 f (i + 1) ++ payload1 f (i + 2)

/-- The payload of a BEACON (Table 11-3). -/
def beaconOf (f : RawFrame) : BeaconPayload where
  roles := payload1 f 0
  freshStart := payload1 f 1
  configClamped := payload1 f 2
  clash := payload1 f 3
  sessions := payload1 f 4
  signOns := payload1 f 5
  freeLines := payload1 f 6
  freeSlots := payload1 f 7
  levelCeiling := payload2 f 8

/-- The payload of a CLAIM (Table 11-3). -/
def claimOf (f : RawFrame) : ClaimPayload where
  line := payload1 f 0
  kind := payload1 f 1
  user := payload3 f 2
  serial := payload2 f 5
  channel := payload1 f 7

/-- The payload of a RELEASE (Table 11-3). -/
def releaseOf (f : RawFrame) : ReleasePayload where
  line := payload1 f 0
  user := payload3 f 1
  serial := payload2 f 4
  reason := payload1 f 6

/-- The payload of an ADMIT-REPLY (Table 11-3). -/
def replyOf (f : RawFrame) : ReplyPayload where
  line := payload1 f 0
  serial := payload1 f 1
  verdict := payload1 f 2
  cls := payload1 f 3
  limit := payload1 f 4
  table := payload1 f 5
  channel := payload1 f 6
  allowance := payload2 f 7

/-- The nine orders, in the order of their codes. -/
def allOrders : List OrderKind := [.forceOff, .out, .in_, .prove, .drain, .undrain, .notice, .restart, .report]

/-- The order that an order kind byte names (Table 11-4); `none` for an unknown order (R162, R173). -/
def orderKindOf (b : Byte) : Option OrderKind := allOrders.find? fun k => k.code = b.toNat

/-- The command of an order (Table 9-7). -/
def orderCommand (t : Moment) (src : Station) (line : Byte) (arg : BitVec 16) : OrderKind → Instr
  | .forceOff => .orderForceOff t src line arg
  | .out => .orderOut t src line arg
  | .in_ => .orderIn t src line arg
  | .prove => .orderProve t src line arg
  | .drain => .orderDrain t src line arg
  | .undrain => .orderUndrain t src line arg
  | .notice => .orderNotice t src line arg
  | .restart => .orderRestart t src line arg
  | .report => .orderReport t src line arg

/-! ## The command of a frame (Tables 9-1 and 11-2) -/

/-- The command that a well-formed frame of another station is to station `own`. A frame that no block takes, an unknown order, and a frame
that does not bear the destination with which Table 9-1 has its kind taken, only makes its sender heard (R154, R162). DEDUCED, unsafe: so does a
BEACON with a destination other than 31, which leaves its sender's roles, ceiling, sign-ons and fresh-start seen as they stand (log entry 43). -/
def takenFrame (own : Station) (t : Moment) (src : Station) (f : RawFrame) : Instr :=
  let heard : Instr := .frameOnBus t src f.dest
  let toAll (c : Instr) : Instr := if f.dest.toNat = 31 then c else heard
  let toOwn (c : Instr) : Instr := if f.dest.toNat = own.val then c else heard
  match kindOf f.level.toNat f.kind.toNat with
  | some .time => toAll (.time t src (payload2 f 0) (payload1 f 2))
  | some .beacon => toAll (.beacon t src (beaconOf f))
  | some .flow => toOwn (.flow t src (payload1 f 0) (payload1 f 1))
  | some .release => toAll (.release t src (releaseOf f))
  | some .claim => toAll (.claim t src (claimOf f))
  | some .survey => toAll (.survey t src)
  | some .admitReply => toOwn (.admitReply t src (replyOf f))
  | some .order =>
    match orderKindOf (payload1 f 0) with
    | some k => toOwn (orderCommand t src (payload1 f 1) (payload2 f 2) k)
    | none => heard
  | some .chargeAck => toOwn (.chargeAck t src (payload1 f 0))
  | some .lineState => toAll (.lineState t src (payload1 f 0) (payload1 f 1))
  | some .data => toOwn (.dataOut t src (payload1 f 0) (payload1 f 1) (f.payload.drop 2))
  | some .admitReq | some .charge | some .result | none => heard

/-- The command that a whole frame is, which the LC-16 did not itself send through to its echo slot: a receive fault, a number clash, or a
frame of another station (R154, R160). -/
def readFrame (own : Station) (t : Moment) (f : RawFrame) : Instr :=
  let src : Station := ⟨f.source.toNat, f.source.isLt⟩
  if frameWellFormed f then if src = own then .numberClash t else takenFrame own t src f
  else .receiveFault t f false false

/-- The command that the bits heard from one start on are. Bits that end before the CRC does are a frame cut short; what stood in it is not
looked at, and `sending` tells whether the LC-16 was itself sending it (R154). -/
def readBits (own : Station) (t : Moment) (sending : Bool) (bs : List Bool) : Instr :=
  match frameOfBits bs with
  | some f => readFrame own t f
  | none => .receiveFault t ⟨0, 0, 0, 0, 0, [], 0⟩ true sending

end Sys2Proof.Machine
end

