-- ==== Sys2Proof/Safety.lean ====
section
/-! DEFINITION. What a good state of the LC-16 is: the properties the manual's chapters promise of it, as decidable predicates that
every command keeps. -/

namespace Sys2Proof.Machine

/-! ## What the closing work of an event can write -/

/-- A Character Path state less what the transmitter and the pending texts move: outbound queue, slot, the character in the transmitter
and own FLOW state. -/
def Path.inward (p : Path) : Path :=
  { p with outQ := Queue.empty, slot := none, tx := none, txFlow := false, flow := none }

/-- A session record less what the hold test and a drained report write: hold, HELD, confirm-pending and close reason. -/
def Session.metered (x : Session) : Session := { x with hold := none, held := false, confirm := none, reason := none }

/-- A line's waiting requests less those the closing work makes: close and drained. -/
def Asks.others (a : Asks) : Asks := { a with close := false, drained := false }

/-- The state less everything the closing work of an event (`State.settle`) can write. Two states of equal `kept` agree in every line
record, context, claim, run and result record, in the tables, serials, timers, clock, slots, bus state, wire and result slots, in the
records of the Charge Queue, in every counter but requests coalesced and notices replaced, and in all that `Path.inward`,
`Session.metered` and `Asks.others` keep. -/
def State.kept (s : State) : State :=
  { s with
    asks := s.asks.map Asks.others
    path := s.path.map Path.inward
    free := 0
    sess := s.sess.map fun x => x.map Session.metered
    queue := s.queue.map Queued.unoffer
    reqs := []
    counters := { s.counters with requestsCoalesced := 0, noticesReplaced := 0 }
    draws := 0 }

/-- The state less what the CONFIRM requests raised when an accountant turns present can write besides: the request serial counter and
which kind each line's ADMIT-REQ request was last raised with (R69). -/
def State.core (s : State) : State :=
  { s.kept with requestSerial := 0, claims := s.claims.map fun c => { c with admitConfirm := false } }

/-- The state with station `i` heard at this event: its roster age is 0 (R86); the own entry is never touched (R85). -/
def State.heard (s : State) (i : Station) : State :=
  if i = s.station then s else { s with roster := s.roster.set i { s.roster[i] with age := 0 } }

/-- The command answers a next state, and that state agrees with `t` in everything the closing work of an event leaves alone. -/
def Gives (c : Instr) (s t : State) : Prop := ∃ u, exec c s = .next u ∧ u.kept = t.kept

/-- The command answers a next state, and that state agrees with `t` in everything that neither the closing work of an event nor the
CONFIRM requests of an accountant just heard can write. -/
def GivesHeard (c : Instr) (s t : State) : Prop := ∃ u, exec c s = .next u ∧ u.core = t.core

/-- The command answers a next state for which `p` holds. -/
def Leads (c : Instr) (s : State) (p : State → Prop) : Prop := ∃ u, exec c s = .next u ∧ p u

/-! ## Output, texts and offers at rest (R42, R44 to R46, R118, R123) -/

/-- R44, R46, R109: no session is about to enter hold, no waiting text can be appended, and no idle transmitter can take a character. -/
def OutputAtRest (s : State) : Prop := ∀ n : LineNo, s.entersHold n = false ∧ s.textReady n = false ∧ s.txReady n = false

/-- R118, R123: while an accountant is present every record is offered, or four of them are; while none is present no record is offered and
no ack wait runs. -/
def OffersOk (s : State) : Prop :=
  s.loader = .running →
    if ∃ i : Station, s.roster[i].age < 3 ∧ s.roster[i].roles.accountant = true then
      (∀ r ∈ s.queue, r.offered = true) ∨ 4 ≤ offeredCount s.queue
    else ∀ r ∈ s.queue, r.offered = false ∧ r.ackWait = none

/-- R109, R111: a session with no close reason is held, its hold counter present, exactly while its channel station is not a present channel station
or the bus state is not ACTIVE. -/
def HoldOk (s : State) : Prop :=
  s.loader = .running →
    ∀ n : LineNo, ∀ x ∈ s.sess[n], x.reason = none →
      (x.hold.isSome = true ↔
        ¬(s.roster[x.channel].age < 3 ∧ s.roster[x.channel].roles.channel = true) ∨ s.bus ≠ .active)

/-- R42: with a block allowance of the configuration's range, a FLOW state GO stands only with more than 16 characters of outbound room, and HOLD
only with fewer than 8·A. -/
def FlowOk (s : State) : Prop :=
  s.loader = .running →
    ∀ n : LineNo, 3 ≤ (s.group n).allowance →
      (s.path[n].flow = some .go → 16 < s.outRoom n) ∧ (s.path[n].flow = some .hold → s.outRoom n < 8 * (s.group n).allowance)

/-- R37: line `n` is in SESSION, one of its forwarding triggers holds (a CR, 14 characters, forward-due or a waiting flag), and none of the three
conditions that block forwarding does. -/
def State.forwardingDue (s : State) (n : LineNo) : Prop :=
  let p := s.path[n]
  s.st n = .session ∧
    (∃ x ∈ s.sess[n],
      p.channelHold = false ∧ s.roster[x.channel].age < 3 ∧ s.roster[x.channel].roles.channel = true ∧ s.bus = .active) ∧
    (0x0D ∈ p.inQ.chars ∨ 14 ≤ p.inQ.chars.length ∨ p.fwdDue = true ∨ p.attention = true ∨ p.brk = true)

/-- R37, R156: the DATA-IN request of every line that is due to forward is pending, or its frame is on the wire. -/
def DataInOk (s : State) : Prop :=
  s.loader = .running →
    ∀ n : LineNo, s.forwardingDue n → (s.req (.dataIn n)).pending = true ∨ ∃ w ∈ s.wire, w.req = .dataIn n

/-- The closing work of an event would find nothing to do: output and offers are at rest, and every FLOW state is the one its room calls
for. -/
def AtRest (s : State) : Prop :=
  OutputAtRest s ∧ OffersOk s ∧ ∀ n : LineNo, s.flowWanted n = s.path[n].flow

/-- R36, R44: the Character Path state of a line on a call once its transmitter, if it is idle, has taken its next character: the owed flow
character, which stays owed while it is sent, or the head of the outbound queue while output is not paused. -/
def Path.started (p : Path) : Path :=
  match p.tx, p.owed, p.paused, p.outQ.chars with
  | none, some .xon, _, _ => { p with tx := some 0x11, txFlow := true }
  | none, some .xoff, _, _ => { p with tx := some 0x13, txFlow := true }
  | none, none, false, c :: _ => { p with tx := some (c.setWidth 8), outQ := p.outQ.remove 1 }
  | _, _, _, _ => p

/-- R45, R46: between two states of a line's Character Path a text was taken: it stands whole at the back of the outbound queue, or it waits
in the slot. -/
def TextAppendedOrWaits (cfg : Configuration) (text : Text) (p q : Path) : Prop :=
  (q.slot = none ∧ q.outQ = p.outQ.append (textChars cfg text)) ∨ (q.slot = some text ∧ q.outQ = p.outQ)

/-- R45, R46: at one event, with all output at rest before it, a text was taken for line `n`. It is appended whole where the room is at least its
length; otherwise it waits in the slot. A text that waited there is replaced, which is counted. A transmitter that is sending goes on; an idle one
takes its next character. -/
def TextTaken (s u : State) (n : LineNo) (text : Text) : Prop :=
  let p := s.path[n]
  let chars := textChars s.cfg text
  u.counters.noticesReplaced = (if p.slot.isSome then sat16 s.counters.noticesReplaced else s.counters.noticesReplaced) ∧
    (p.tx.isSome = true →
      u.path[n].tx = p.tx ∧
        if chars.length ≤ s.outRoom n then u.path[n].slot = none ∧ u.path[n].outQ = p.outQ.append chars
        else u.path[n].slot = some text ∧ u.path[n].outQ = p.outQ) ∧
    (p.tx = none → p.slot = none → chars.length ≤ s.outRoom n →
      let q := Path.started { p with outQ := p.outQ.append chars }
      u.path[n].slot = none ∧ u.path[n].outQ = q.outQ ∧ u.path[n].tx = q.tx)

/-! ## While the Start-Up Loader works (R6, R25, R154, R158) -/

/-- R6, R25, R126, R154, R158: from power-up reset or a restart until the other blocks are started, every line rests in OUT or HANGUP, no
call, claim, run or request exists, no record is offered, the tables and the bus are as reset leaves them. -/
def LoadingOk (s : State) : Prop :=
  s.loader ≠ .running →
    (∀ n : LineNo,
        s.sup[n] = LineRec.fresh (if s.loader = .powerUp then .out else .hangup) s.sup[n].ri s.sup[n].cd ∧
          s.asks[n] = Asks.fresh ∧ s.path[n] = Path.fresh ∧ s.sign[n] = none ∧ s.sess[n] = none ∧
            s.claims[n] = Claims.fresh ∧ s.run[n].phase = .none ∧ s.result[n] = none) ∧
      s.free = poolBlocks ∧ s.presence = [] ∧ (∀ r ∈ s.queue, r.offered = false) ∧ s.reqs = [] ∧ s.wire = none ∧
        s.bus = .silent ∧ s.quietTimer = none ∧ s.refreshTimer = none ∧ s.beaconTimer = none ∧ s.clashTimer = none

/-! ## What a restart leaves (R25, R48, R50, R76, R85, R126, R133, R142, R150, R151, R155 to R158, R163, R170) -/

/-- R25, R48, R50, R65, R76, R83, R85, R87, R93, R97, R113, R116, R126, R133, R142, R150, R151, R155, R157, R158, R163, R170: what a restart
makes of the state before it. Every line stands in HANGUP with FAULT and out-pending clear and no timer, and nothing of a call, claim, run or
request is left; the tables, slots, timers and counters of the other blocks have their restart values; the clock, the timebase supervisor
and the session serial stand; and behind the records of the Charge Queue, in ascending order of line, stand those of the sessions it
ended, each with its finished figures and with reason RESTART unless one was set. A run record of no run holds the values that log entry 32
names. -/
def Restarted (s u : State) : Prop :=
  u.loader = .restart ∧
    (∀ n : LineNo,
      u.sup[n] =
          { ri := s.sup[n].ri, cd := s.sup[n].cd, st := .hangup, burstCount := 0, blocked := false, fault := false
            outPending := false, burst := none, ringSilence := none, qual := none, carrierWait := none, dropout := none
            drainLimit := none, hangupGuard := none } ∧
        u.sign[n] = none ∧ u.sess[n] = none ∧ u.result[n] = none ∧ u.run[n].phase = .none ∧ u.run[n] = Run.fresh ∧
        u.path[n] = Path.fresh ∧ u.asks[n] = Asks.fresh ∧
        u.claims[n] = { own := none, release := none, surveyOwed := false, admitConfirm := false }) ∧
    u.free = 160 ∧ u.presence = [] ∧
    (∀ i : Station,
      u.roster[i] =
        { roles := ⟨false, false, false, false⟩, age := 3, freshSeen := false, ceiling := 0, signOns := 0 }) ∧
    u.reqs = [] ∧ u.wire = none ∧ u.streak = 0 ∧ u.rotation = 15 ∧ (∀ i : Fin 17, u.orderSlots[i] = none) ∧
    u.bus = .silent ∧ u.freshAnnounced = false ∧ u.quietTimer = none ∧ u.refreshTimer = none ∧ u.beaconTimer = none ∧
    u.clashTimer = none ∧ u.drain = false ∧ (∀ i : Fin 32, u.slots[i] = ⟨false, 3⟩) ∧ u.counters = Counters.zero ∧
    u.sessionSerial = s.sessionSerial ∧ u.clock = s.clock ∧ u.timebase = s.timebase ∧
    (∀ r ∈ u.queue, r.offered = false ∧ r.ackWait = none) ∧
    ∃ added : List Charge,
      u.queue.map Queued.charge = s.queue.map Queued.charge ++ added ∧
        added.map Charge.line = allLines.filter (fun n => s.sess[n].isSome) ∧
        ∀ c ∈ added, ∀ x ∈ s.sess[c.line],
          c.user = x.user ∧ c.startMinute = (if x.clockUnset then none else x.startMinute) ∧ c.duration = x.duration ∧
            c.units = (x.finish s.cfg).units ∧ c.reason = x.reason.getD .restart ∧ c.provisional = x.provisional ∧
            c.lateConfirmed = x.lateConfirmed ∧ c.clockUnset = x.clockUnset ∧ c.timebase = x.timebase

/-! ## What a store image says (R3, R128, R131, R169, R174, Table 11-5), told apart from how the loader reads it -/

/-- The byte at an offset of the image. -/
def imageByte (img : List Byte) (k : Nat) : Nat := (img.getD k 0).toNat

/-- The two-byte number at an offset, most significant byte first (R174). -/
def imageWord (img : List Byte) (k : Nat) : Nat := 256 * imageByte img k + imageByte img (k + 1)

/-- The four-byte mask at an offset, most significant byte first (R174). -/
def imageMask (img : List Byte) (k : Nat) : Nat := 65536 * imageWord img k + imageWord img (k + 2)

/-- The 7-bit character at an offset: the eighth bit is ignored (R169). -/
def imageChar (img : List Byte) (k : Nat) : Char7 := BitVec.ofNat 7 (imageByte img k)

/-- A number outside its range is read as the nearest end (R169). -/
def nearest (lo hi v : Nat) : Nat := if v < lo then lo else if hi < v then hi else v

/-- A number lies outside its range (R169). -/
def outside (lo hi v : Nat) : Prop := v < lo ∨ hi < v

/-- R3, R169, R174: a hunt group is what the eight bytes from an offset say: an empty speed set is read as all six speeds, a parity byte above 2
as off, and an inbound allowance above A - 2 as A - 2. -/
def groupItem (img : List Byte) (o : Nat) (x : Group) : Prop :=
  (∀ k : Fin 6, x.speeds.getLsbD k = ((imageByte img o).testBit k || imageByte img o % 64 = 0)) ∧
    x.parity = (if imageByte img (o + 1) = 1 then .even else if imageByte img (o + 1) = 2 then .odd else .off) ∧
    x.xonXoff = (imageByte img (o + 2)).testBit 0 ∧
    x.attention1 = (if (imageByte img (o + 2)).testBit 1 then some (imageChar img (o + 3)) else none) ∧
    x.attention2 = (if (imageByte img (o + 2)).testBit 2 then some (imageChar img (o + 4)) else none) ∧
    x.answerRings = nearest 1 8 (imageByte img (o + 5)) ∧ x.allowance = nearest 3 16 (imageByte img (o + 6)) ∧
    x.inAllowance = min (nearest 1 4 (imageByte img (o + 7))) (nearest 3 16 (imageByte img (o + 6)) - 2)

/-- R3, R169, R174: a reading of a hunt group that sets config-clamped. -/
def groupClamps (img : List Byte) (o : Nat) : Prop :=
  imageByte img o % 64 = 0 ∨ 2 < imageByte img (o + 1) ∨ outside 1 8 (imageByte img (o + 5)) ∨
    outside 3 16 (imageByte img (o + 6)) ∨ outside 1 4 (imageByte img (o + 7)) ∨
    nearest 3 16 (imageByte img (o + 6)) - 2 < nearest 1 4 (imageByte img (o + 7))

/-- R174: the forward tag a line's byte says, before R128: FFh is none, 40h to FEh are read as 63. -/
def tagItem (img : List Byte) (n : LineNo) : Option Nat :=
  if imageByte img (0x34 + n) = 255 then none else some (min 63 (imageByte img (0x34 + n)))

/-- R131, R174: a slot whose source byte is a local line's and whose signal is read as MB, in the select mask of an output of mode BUSY. -/
def slotWatchesBusy (img : List Byte) (i : Fin 32) : Prop :=
  64 ≤ imageByte img (0x753 + 2 * i) ∧ imageByte img (0x753 + 2 * i) < 80 ∧ 4 ≤ imageByte img (0x754 + 2 * i) % 8 ∧
    ∃ g : Fin 4, (imageByte img (0x797 + 7 * g)).testBit 3 = true ∧ (imageMask img (0x793 + 7 * g)).testBit i = true

/-- R131, R174: an aggregation slot is what its two bytes say; one that `slotWatchesBusy` is read as unused. -/
def slotItem (img : List Byte) (i : Fin 32) (x : SlotConfig) : Prop :=
  let source := imageByte img (0x753 + 2 * i)
  let byte := imageByte img (0x754 + 2 * i)
  (match x.source with
    | .tag t => source < 64 ∧ t.val = source
    | .line n => source = 64 + n.val ∧ ¬slotWatchesBusy img i
    | .unused => 80 ≤ source ∨ slotWatchesBusy img i) ∧
    x.signal =
      (if byte % 8 = 0 then .busy else if byte % 8 = 1 then .out else if byte % 8 = 2 then .session
       else if byte % 8 = 3 then .fault else .mb) ∧
    x.invert = byte.testBit 3 ∧ x.stale = byte.testBit 4

/-- R3, R128, R131, R169, R174: every item of the configuration is what the image says at the item's offset of Table 11-5, a number outside its
range being read as the nearest end. -/
def ImageItems (img : List Byte) (c : Configuration) : Prop :=
  (∀ g : Fin 4, groupItem img (0x02 + 8 * g) c.groups[g]) ∧
    (∀ n : LineNo, c.lineGroup[n].val = nearest 0 3 (imageByte img (0x22 + n))) ∧
    (∀ n : LineNo, c.inService.getLsbD n = (imageWord img 0x32).testBit n) ∧
    (∀ n : LineNo,
      c.tags[n].map Fin.val = if ∃ m : LineNo, m < n ∧ tagItem img m = tagItem img n then none else tagItem img n) ∧
    c.times =
      { ringMin := nearest 50 1000 (imageWord img 0x44)
        ringMax := nearest 1000 6000 (imageWord img 0x46)
        ringSilence := nearest 4 15 (imageByte img 0x48)
        carrierQualify := nearest 100 1000 (imageWord img 0x49)
        carrierWait := nearest 5 60 (imageByte img 0x4B)
        carrierLoss := nearest 100 2000 (imageWord img 0x4C)
        hangupGuard := nearest 1 10 (imageByte img 0x4E) } ∧
    c.signOnTime = nearest 60 300 (imageWord img 0x4F) ∧ c.replyWait = nearest 2 30 (imageByte img 0x51) ∧
    c.refreshPeriod = nearest 20 120 (imageByte img 0x52) ∧ c.forwardingTimer = nearest 20 500 (imageWord img 0x53) ∧
    (∀ k : Fin 8,
      c.classes[k].idleLimit = nearest 0 240 (imageByte img (0x55 + 2 * k)) ∧
        c.classes[k].echo = decide (imageByte img (0x56 + 2 * k) ≠ 0)) ∧
    c.provisionalEnable = decide (imageByte img 0x65 ≠ 0) ∧ c.provisional.cls.val = nearest 0 7 (imageByte img 0x66) ∧
    c.provisional.limit = nearest 1 7 (imageByte img 0x67) ∧ c.provisional.allowance = nearest 1 65535 (imageWord img 0x68) ∧
    c.provisional.table.val = nearest 0 3 (imageByte img 0x6A) ∧ c.provisional.channel.val = nearest 0 15 (imageByte img 0x6B) ∧
    c.noAccountant = decide (imageByte img 0x6C ≠ 0) ∧ c.fallbackCeiling = nearest 0 4095 (imageWord img 0x6D) ∧
    c.warnThreshold = imageByte img 0x6F ∧ c.graceTime = nearest 0 600 (imageWord img 0x70) ∧
    c.channelLoss = nearest 1 30 (imageByte img 0x72) ∧
    (∀ k : Fin 4,
      (∀ h : Fin 168, (c.tariffs[k].bands[h]).val = nearest 0 3 (imageByte img (0x73 + 178 * k + h))) ∧
        (∀ b : Fin 4, c.tariffs[k].rates[b] = nearest 0 9999 (imageWord img (0x73 + 178 * k + 168 + 2 * b))) ∧
        c.tariffs[k].fee = imageByte img (0x73 + 178 * k + 176) ∧ c.tariffs[k].minimum = imageByte img (0x73 + 178 * k + 177)) ∧
    (∀ k : Fin 16,
      c.messages[k] =
        (List.range (min 40 (imageByte img (0x33B + 41 * k)))).map fun j => imageChar img (0x33C + 41 * k + j)) ∧
    (∀ k : Fin 8,
      c.notices[k] =
        (List.range (min 48 (imageByte img (0x5CB + 49 * k)))).map fun j => imageChar img (0x5CC + 49 * k + j)) ∧
    (∀ i : Fin 32, slotItem img i c.slots[i]) ∧
    (∀ g : Fin 4,
      (∀ i : Fin 32, c.outputs[g].select.getLsbD i = (imageMask img (0x793 + 7 * g)).testBit i) ∧
        c.outputs[g].invert = (imageByte img (0x797 + 7 * g)).testBit 0 ∧
        c.outputs[g].pin = (imageByte img (0x797 + 7 * g)).testBit 1 ∧
        c.outputs[g].alarm = (imageByte img (0x797 + 7 * g)).testBit 2 ∧
        c.outputs[g].busy = (imageByte img (0x797 + 7 * g)).testBit 3 ∧
        ∀ n : LineNo, c.outputs[g].busyLines.getLsbD n = (imageWord img (0x798 + 7 * g)).testBit n) ∧
    (∀ k : Fin 8, c.alarmLevels[k] = nearest 0 7 (imageByte img (0x7AF + k))) ∧
    c.alarmThreshold = nearest 0 7 (imageByte img 0x7B7) ∧ c.passThreshold = imageByte img 0x7B8 ∧
    c.busRate = (if imageByte img 0x7B9 = 0 then .k250 else if imageByte img 0x7B9 = 1 then .k500 else .k1000)

/-- R3, R131, R169, R174: some reading of the image sets config-clamped: a number outside its range, an empty speed set, an inbound
allowance above A - 2, a text above its limit, a byte that names no code, or a slot that `slotWatchesBusy`. A forward tag that repeats a
lower-numbered line's is none of these, nor is a stored character's eighth bit. -/
def ImageClamps (img : List Byte) : Prop :=
  (∃ g : Fin 4, groupClamps img (0x02 + 8 * g)) ∨ (∃ n : LineNo, 3 < imageByte img (0x22 + n)) ∨
    (∃ n : LineNo, 63 < imageByte img (0x34 + n) ∧ imageByte img (0x34 + n) ≠ 255) ∨
    outside 50 1000 (imageWord img 0x44) ∨ outside 1000 6000 (imageWord img 0x46) ∨ outside 4 15 (imageByte img 0x48) ∨
    outside 100 1000 (imageWord img 0x49) ∨ outside 5 60 (imageByte img 0x4B) ∨ outside 100 2000 (imageWord img 0x4C) ∨
    outside 1 10 (imageByte img 0x4E) ∨ outside 60 300 (imageWord img 0x4F) ∨ outside 2 30 (imageByte img 0x51) ∨
    outside 20 120 (imageByte img 0x52) ∨ outside 20 500 (imageWord img 0x53) ∨
    (∃ k : Fin 8, 240 < imageByte img (0x55 + 2 * k)) ∨ 7 < imageByte img 0x66 ∨ outside 1 7 (imageByte img 0x67) ∨
    outside 1 65535 (imageWord img 0x68) ∨ 3 < imageByte img 0x6A ∨ 15 < imageByte img 0x6B ∨ 4095 < imageWord img 0x6D ∨
    600 < imageWord img 0x70 ∨ outside 1 30 (imageByte img 0x72) ∨
    (∃ k : Fin 4,
      (∃ h : Fin 168, 3 < imageByte img (0x73 + 178 * k + h)) ∨
        ∃ b : Fin 4, 9999 < imageWord img (0x73 + 178 * k + 168 + 2 * b)) ∨
    (∃ k : Fin 16, 40 < imageByte img (0x33B + 41 * k)) ∨ (∃ k : Fin 8, 48 < imageByte img (0x5CB + 49 * k)) ∨
    (∃ i : Fin 32,
      80 ≤ imageByte img (0x753 + 2 * i) ∧ imageByte img (0x753 + 2 * i) ≠ 255 ∨ 4 < imageByte img (0x754 + 2 * i) % 8 ∨
        slotWatchesBusy img i) ∨
    (∃ k : Fin 8, 7 < imageByte img (0x7AF + k)) ∨ 7 < imageByte img 0x7B7 ∨ 2 < imageByte img 0x7B9

/-! ## The configuration (R3, R4, R99, R128, R131, R169) -/

/-- R3, Table 1-3: the settings of a hunt group lie in their ranges; the speed set holds a speed, and Ain leaves two blocks. -/
def groupInRange (g : Group) : Prop :=
  g.speeds ≠ 0 ∧ 1 ≤ g.answerRings ∧ g.answerRings ≤ 8 ∧ 3 ≤ g.allowance ∧ g.allowance ≤ 16 ∧ 1 ≤ g.inAllowance ∧
    g.inAllowance ≤ 4 ∧ g.inAllowance ≤ g.allowance - 2

/-- R4, Table 1-4: the line timing settings lie in their ranges. -/
def timesInRange (x : LineTimes) : Prop :=
  (50 ≤ x.ringMin ∧ x.ringMin ≤ 1000) ∧ (1000 ≤ x.ringMax ∧ x.ringMax ≤ 6000) ∧ (4 ≤ x.ringSilence ∧ x.ringSilence ≤ 15) ∧
    (100 ≤ x.carrierQualify ∧ x.carrierQualify ≤ 1000) ∧ (5 ≤ x.carrierWait ∧ x.carrierWait ≤ 60) ∧
    (100 ≤ x.carrierLoss ∧ x.carrierLoss ≤ 2000) ∧ 1 ≤ x.hangupGuard ∧ x.hangupGuard ≤ 10

/-- R99, Table 5-3: the rates, the fee and the minimum charge of a tariff table lie in their ranges. -/
def tariffInRange (x : Tariff) : Prop := (∀ b : Fin 4, x.rates[b] ≤ 9999) ∧ x.fee ≤ 255 ∧ x.minimum ≤ 255

/-- R128: no two lines have the same forward tag. R131: no slot watching a local line's MB signal is selected by an output of mode
BUSY. -/
def crossOk (c : Configuration) : Prop :=
  (∀ n m : LineNo, n ≠ m → c.tags[n] = none ∨ c.tags[n] ≠ c.tags[m]) ∧
    ∀ (i : Fin 32) (g : Fin 4) (n : LineNo),
      c.slots[i].source = .line n → c.slots[i].signal = .mb → c.outputs[g].select.getLsbD i = true → c.outputs[g].busy = false

/-- R169, Table 10-1: every numeric item of the configuration lies in its range; the items whose type holds exactly their range have no
clause. -/
def ConfigurationOk (c : Configuration) : Prop :=
  (∀ g : Fin 4, groupInRange c.groups[g]) ∧ timesInRange c.times ∧ (60 ≤ c.signOnTime ∧ c.signOnTime ≤ 300) ∧
    (2 ≤ c.replyWait ∧ c.replyWait ≤ 30) ∧ (20 ≤ c.refreshPeriod ∧ c.refreshPeriod ≤ 120) ∧
    (20 ≤ c.forwardingTimer ∧ c.forwardingTimer ≤ 500) ∧ (∀ k : Fin 8, c.classes[k].idleLimit ≤ 240) ∧
    (1 ≤ c.provisional.limit ∧ c.provisional.limit ≤ 7) ∧ (1 ≤ c.provisional.allowance ∧ c.provisional.allowance ≤ 65535) ∧
    c.fallbackCeiling ≤ 4095 ∧ (∀ k : Fin 4, tariffInRange c.tariffs[k]) ∧ c.warnThreshold ≤ 255 ∧ c.graceTime ≤ 600 ∧
    (1 ≤ c.channelLoss ∧ c.channelLoss ≤ 30) ∧ (∀ k : Fin 16, c.messages[k].length ≤ 40) ∧
    (∀ k : Fin 8, c.notices[k].length ≤ 48) ∧ (∀ k : Fin 8, c.alarmLevels[k] ≤ 7) ∧ c.alarmThreshold ≤ 7 ∧
    c.passThreshold ≤ 255 ∧ crossOk c

/-! ## Presence Table (R76) -/

/-- R76: at most one entry for each station and line, none of the own station, every age 0 to 2; and none before the other blocks are
started, when no frame is taken (R154). -/
def PresenceOk (s : State) : Prop :=
  s.presence.Pairwise (fun a b => ¬(a.station = b.station ∧ a.line = b.line)) ∧
    (∀ e ∈ s.presence, e.station ≠ s.station ∧ e.age ≤ 2) ∧
    (s.loader ≠ .running → s.presence = [])

/-! ## Calls (R50, R67) -/

/-- R50, R67: a line is in SIGNON exactly when it holds a context, and in SESSION exactly when a session record exists for it. -/
def CallsOk (s : State) : Prop :=
  ∀ n : LineNo, (s.st n = .signon ↔ s.sign[n].isSome = true) ∧ (s.st n = .session ↔ s.sess[n].isSome = true)

/-! ## Charge Queue (R116, R124) -/

/-- The offered records stand ahead of the others (R116). -/
def offeredFirst : List Queued → Bool
  | [] => true
  | r :: rest => if r.offered then offeredFirst rest else rest.all fun x => !x.offered

/-- R116: the serials are pairwise distinct, at most four records are offered, and the offered ones stand ahead. -/
def QueueOk (s : State) : Prop :=
  s.queue.Pairwise (fun a b => a.charge.serial ≠ b.charge.serial) ∧ offeredCount s.queue ≤ offerWindow ∧
    offeredFirst s.queue = true

/-- The contexts that are admitted. -/
def State.admitted (s : State) : Nat :=
  countLines fun n =>
    match s.sign[n] with
    | some c => c.admitted
    | none => false

/-- R124: the records held, the lines in SESSION and the admitted contexts together fit the Charge Queue, so the free slots are never
fewer than the sessions. -/
def SlotsOk (s : State) : Prop := s.queue.length + s.linesIn .session + s.admitted ≤ chargeSlots

/-! ## Buffer Pool (R31) -/

/-- The blocks held on all the lines' queues. -/
def State.heldBlocks (s : State) : Nat := (allLines.map fun n => s.path[n].held).sum

/-- R31: fewer places than a block has stand read ahead of a queue's characters, and a queue without characters holds no block. -/
def Queue.ok (q : Queue) : Prop := q.read < blockSize ∧ (q.chars = [] → q.read = 0)

/-- R31: the blocks held and the free list always number exactly 160; and no line holds more than its allowances. -/
def PoolOk (s : State) : Prop :=
  s.free + s.heldBlocks = poolBlocks ∧
    ∀ n : LineNo,
      s.path[n].inQ.blocks ≤ (s.group n).inAllowance ∧ s.path[n].held ≤ (s.group n).allowance ∧
        s.path[n].inQ.ok ∧ s.path[n].outQ.ok

/-! ## Meter and clock (R97, R102, R103) -/

/-- R97: the clock's minute-of-week is 0 to 10,079 and its second 0 to 59. -/
def ClockOk (s : State) : Prop := s.clock.minute < 10080 ∧ s.clock.second < 60

/-- R102, R103: a session's residue always stays below 3,600, and its duration is at most 16,777,215 seconds. -/
def MetersOk (s : State) : Prop := ∀ n : LineNo, ∀ x ∈ s.sess[n], x.residue < 3600 ∧ x.duration ≤ meterTop

/-- R104, R106: a finite allowance at 0 stands with a grace counter, or in a session already closing. -/
def GraceOk (s : State) : Prop :=
  ∀ n : LineNo, ∀ x ∈ s.sess[n], x.remaining = some 0 → x.grace.isSome = true ∨ x.reason.isSome = true

/-! ## Line records (R5) -/

/-- Each timer and measurement of a line record belongs to the states Table 1-6 names (R5). -/
def LineRec.timersOk (l : LineRec) : Prop :=
  (l.st ≠ .ringing → l.burstCount = 0 ∧ l.blocked = false ∧ l.ringSilence = none) ∧
    (l.st ≠ .idle ∧ l.st ≠ .ringing → l.burst = none) ∧
    (l.st ≠ .answering → l.qual = none ∧ l.carrierWait = none) ∧
    (l.st ≠ .signon ∧ l.st ≠ .session ∧ l.st ≠ .closing → l.dropout = none) ∧
    (l.st ≠ .closing → l.drainLimit = none) ∧ (l.st ≠ .hangup → l.hangupGuard = none)

/-- R5 for every line. -/
def LinesOk (s : State) : Prop := ∀ n : LineNo, s.sup[n].timersOk

/-! ## Bus Controller (R155 to R159) -/

/-- R155, R156: the discard streak is 0 to 2, no request is listed twice, and no strike count is above 7. -/
def RequestsOk (s : State) : Prop :=
  s.streak ≤ 2 ∧ s.reqs.Pairwise (fun a b => a.1 ≠ b.1) ∧ ∀ p ∈ s.reqs, p.2.strikes ≤ 7

end Sys2Proof.Machine
end

