-- ==== Sys2Proof/Certificates/Slice0/Obligations.lean ====
section
/-! DEFINITION. The statements for the provers. `Gives c s t` says that the command answers a next state which agrees with `t` in everything
the closing work of an event leaves alone (`State.kept`), so it states the result and the frame at once; `GivesHeard` leaves out besides what
CONFIRM requests may write (`State.core`); `Leads c s p` says that the command answers a next state for which `p` holds. `s.at t` is `s` with
its clock moved to the moment of the command. Three of the model's choices stand behind many clauses: a timer or a measurement acts at no
command that comes before its moment (log entry 2), an event whose premise does not hold changes nothing (log entry 4), and a request made of the
Line Supervisor waits until its command takes it (log entry 7). -/

open Sys2Proof Sys2Proof.Machine

/-! ## The machine -/

/-- A step takes the command at the front of the queue with the rest waiting, and idles with no command waiting (log entry 3). -/
def Obligations.StepTakesTheFrontCommand : Prop :=
  (∀ (c : Instr) (rest : List Instr) (s : State), s.pending = c :: rest → step s = exec c { s with pending := rest }) ∧
    ∀ s : State, s.pending = [] → step s = .next s

/-- R6, R48, R97, R116, R158, R166 and the reset columns of Tables 1-6, 2-4, 4-3, 5-1, 7-2, 8-1 and 9-4: what power-up leaves, at every moment and
from every state. The levels of the input pins and the waiting commands are kept (log entry 5). The fields of a run record that Table 8-1 gives no
value while the phase is none hold the values of log entry 32. -/
def Obligations.PowerUpResetsEveryBlock : Prop :=
  ∀ (t : Moment) (s : State),
    Leads (.powerUpReset t) s fun u =>
      u.loader = .powerUp ∧ u.restartPin = s.restartPin ∧
        (∀ n : LineNo,
          u.sup[n] = LineRec.fresh .out s.sup[n].ri s.sup[n].cd ∧ u.asks[n] = Asks.fresh ∧ u.path[n] = Path.fresh ∧
            u.sign[n] = none ∧ u.sess[n] = none ∧ u.claims[n] = Claims.fresh ∧ u.run[n] = Run.fresh ∧ u.result[n] = none) ∧
        u.free = 160 ∧ u.requestSerial = 0 ∧ u.sessionSerial = 0 ∧ u.recordSerial = 0 ∧ u.presence = [] ∧
        (∀ i : Station, u.roster[i] = RosterEntry.fresh) ∧ u.refreshTimer = none ∧ u.beaconTimer = none ∧ u.queue = [] ∧
        u.timebase = ⟨.following, none, some (max s.now t + 1500), none, none⟩ ∧ u.clock = ⟨0, 0, true⟩ ∧
        (∀ i : Fin 32, u.slots[i] = ⟨false, 3⟩) ∧ u.drain = false ∧ u.clashTimer = none ∧ u.configClamped = false ∧
        u.bus = .silent ∧ u.freshAnnounced = false ∧ u.quietTimer = none ∧ u.streak = 0 ∧ u.reqs = [] ∧ u.wire = none ∧
        u.rotation = 15 ∧ (∀ i : Fin 17, u.orderSlots[i] = none) ∧ u.counters = Counters.zero ∧ u.pending = s.pending

/-- R3, R6, R25, R83, R87, R128, R129, R131, R158, R166, R168, R169, R174: the start of the other blocks, or nothing at all while the loader is not at
work or the RESTART pin is held (log entry 4). The straps and the read of the store are operands of the event (log entry 28). Whatever the store gave,
every item of the configuration lies in its range. A store that does not acknowledge its address or a byte sent, that holds the clock line low for
more than 25 ms, that ends before its last byte, or that answers with another format mark leaves every item at its built-in default with
config-clamped set. One that answers throughout with the mark A5h 16h and 1,978 bytes gives every item as the bytes at its offset of Table 11-5 say, a
number outside its range as the nearest end, with the special readings of R3, R128, R131, R169 and R174; config-clamped is set where some reading was
such a one, and clear where none was (`ImageItems` and `ImageClamps` spell both from the bytes alone). -/
def Obligations.StartPlacesLinesAndJoins : Prop :=
  ∀ (t : Moment) (straps : BitVec 4) (store : StoreRead) (s : State),
    ((s.loader = .running ∨ s.restartPin = true) → exec (.startOtherBlocks t straps store) s = .next (s.at t)) ∧
      (s.loader ≠ .running → s.restartPin = false →
        Leads (.startOtherBlocks t straps store) s fun u =>
          u.loader = .running ∧ u.station.val = straps.toNat ∧ u.cfg = (readStore store).val ∧
            u.configClamped = (readStore store).clamped ∧ ConfigurationOk u.cfg ∧
            (store.addressAck = false ∨ (∃ a ∈ store.byteAcks, a = false) ∨ (∃ low ∈ store.clockLow, 25000 < low) ∨
                store.image.length < 1978 ∨ store.image.take 2 ≠ [0xA5, 0x16] →
              u.cfg = Configuration.builtIn ∧ u.configClamped = true) ∧
            (store.addressAck = true → (∀ a ∈ store.byteAcks, a = true) → (∀ low ∈ store.clockLow, low ≤ 25000) →
              1978 ≤ store.image.length → store.image.take 2 = [0xA5, 0x16] →
              ImageItems store.image u.cfg ∧ (u.configClamped = true ↔ ImageClamps store.image)) ∧
            u.bus = .joining ∧ (u.req .beacon).pending = true ∧
            u.refreshTimer = some (u.now + 1000 * u.cfg.refreshPeriod) ∧ u.beaconTimer = some (u.now + 10000) ∧
            (∀ (n : LineNo) (tag : Fin 64), u.cfg.tags[n] = some tag → (u.req (.lineState tag)).pending = true) ∧
            (∀ n : LineNo, s.loader = .powerUp → s.sup[n].st = .out → s.sup[n].outPending = false →
              u.sup[n].st = if u.cfg.inService.getLsbD n then .idle else .out) ∧
            ∀ n : LineNo, s.loader = .restart →
              u.sup[n].st = s.sup[n].st ∧ u.sup[n].outPending = !u.cfg.inService.getLsbD n ∧
                u.sup[n].hangupGuard = some (u.now + 1000 * u.cfg.times.hangupGuard))

/-- R25, R48, R50, R65, R76, R83, R85, R87, R93, R97, R113, R116, R126, R133, R142, R150, R151, R155, R157, R158, R163, R166, R170: the RESTART pin
ends every call; every session's charge record is appended in ascending order of line, with reason RESTART unless one was set; the queue, the serials,
the clock and the timebase stand, and every line, run, request, slot, table, counter, switch and timer of the other blocks takes its restart value,
the refresh and the beacon timer stopped and the rotation point at line 15 (`Restarted` spells them; log entry 32 gives a run record of no run its
values). During the loading after a power-up the pin only makes the loader begin again, and a pin already asserted does nothing more (log entry 4).
The release of the pin changes nothing but its level, and lets START_OTHER_BLOCKS be taken. -/
def Obligations.RestartPinKeepsChargesAndEndsCalls : Prop :=
  ∀ (t : Moment) (s : State),
    exec (.restartPinReleased t) s = .next { s.at t with restartPin := false } ∧
      (s.restartPin = true → exec (.restartPinAsserted t) s = .next (s.at t)) ∧
      (s.restartPin = false → s.loader = .powerUp → exec (.restartPinAsserted t) s = .next { s.at t with restartPin := true }) ∧
      (s.restartPin = false → s.loader ≠ .powerUp →
        Leads (.restartPinAsserted t) s fun u =>
          Restarted s u ∧ u.restartPin = true ∧ u.requestSerial = s.requestSerial ∧
            (∀ c ∈ u.queue.drop s.queue.length, ∀ x ∈ s.sess[c.charge.line], c.charge.held = x.held ∧
              c.charge.saturated = (x.finish s.cfg).saturated))

/-! ## Lines (Chapter 1) -/

/-- R2, Table 1-2: DTR and TST of every line, from its state alone. R21, R137, Table 7-4: the MB output of a line, by its state and the seven
make-busy conditions. R89, R90, R91: the ceiling in force, the standing claims and the load. R127, R131, R135, R136: the terms of the slots, the
group outputs, condition g and the pins GS0 to GS3; condition g is spelled for a configuration as R131 leaves it. R139, R140: the alarm causes, the
alarm level and ALM. -/
def Obligations.LeadsAndMakeBusyFollowTheState : Prop :=
  ∀ (s : State) (n : LineNo),
    let accountant (i : Station) : Prop := s.roster[i].age < 3 ∧ s.roster[i].roles.accountant = true
    let channel (i : Station) : Prop := s.roster[i].age < 3 ∧ s.roster[i].roles.channel = true
    let conditions : Prop :=
      s.drain = true ∨ s.bus ≠ .active ∨ (∀ i : Station, ¬channel i) ∨
        (s.cfg.provisionalEnable = false ∧ ((∀ i : Station, ¬accountant i) ∨ s.cfg.noAccountant = true)) ∨
        s.ceiling ≤ s.load ∨ 32 - s.queue.length ≤ s.linesIn .session + s.linesIn .signon ∨ s.condG n = true
    let signal (m : LineNo) (g : Signal) : Bool :=
      match g with
      | .busy => decide (s.st m ≠ .idle ∧ s.st m ≠ .out)
      | .out => decide (s.st m = .out)
      | .session => decide (s.st m = .session)
      | .fault => s.sup[m].fault
      | .mb => s.mb m
    let term (i : Fin 32) : Bool :=
      let c := s.cfg.slots[i]
      match c.source with
      | .unused => false
      | .tag _ => (if s.slots[i].age < 3 then s.slots[i].value else c.stale) != c.invert
      | .line m => signal m c.signal != c.invert
    (s.dtr n = true ↔
        s.st n = .answering ∨ s.st n = .signon ∨ s.st n = .session ∨ s.st n = .closing ∨ s.st n = .proving) ∧
      (s.tst n = true ↔ s.st n = .proving) ∧
      (s.st n = .out ∨ s.st n = .proving ∨ s.st n = .hangup → s.mb n = true) ∧
      (s.st n = .idle ∨ s.st n = .ringing → (s.mb n = true ↔ conditions)) ∧
      (s.st n = .answering ∨ s.st n = .signon ∨ s.st n = .session ∨ s.st n = .closing → s.mb n = false) ∧
      ((∀ i : Station, ¬accountant i) → s.ceiling = s.cfg.fallbackCeiling) ∧
      (∀ i : Station, accountant i →
        s.ceiling ≤ s.roster[i].ceiling ∧ ∃ j : Station, accountant j ∧ s.ceiling = s.roster[j].ceiling) ∧
      s.standingTotal = (allLines.filter fun m => s.claims[m].own.isSome).length + s.presence.length ∧
      (∀ user : Nat,
        s.standingFor user =
          (allLines.filter fun m => s.claims[m].own.map OwnClaim.user = some user).length +
            (s.presence.filter fun e => e.user = user).length) ∧
      s.load =
        (allLines.filter fun m => s.st m = .session).length + s.presence.length +
          (allLines.filter fun m => s.st m = .signon).length +
          (((List.finRange 16).filter fun i => s.roster[i].age < 3 ∧ s.roster[i].roles.line = true).map
            fun i => s.roster[i].signOns).sum ∧
      (∀ g : Fin 4,
        (s.output g = true ↔
          ((∃ i : Fin 32, s.cfg.outputs[g].select.getLsbD i = true ∧ term i = true) ↔ s.cfg.outputs[g].invert = false)) ∧
          (s.gs g = true ↔ s.loader = .running ∧ s.cfg.outputs[g].pin = true ∧ s.output g = true)) ∧
      (crossOk s.cfg →
        (s.condG n = true ↔
          ∃ g : Fin 4, s.cfg.outputs[g].busy = true ∧ s.cfg.outputs[g].busyLines.getLsbD n = true ∧ s.output g = true)) ∧
      (s.alarmCause 0 = true ↔ s.clashTimer.isSome = true) ∧ (s.alarmCause 1 = true ↔ s.bus ≠ .active) ∧
      (s.alarmCause 2 = true ↔ ∀ i : Station, ¬accountant i) ∧ (s.alarmCause 3 = true ↔ ∀ i : Station, ¬channel i) ∧
      (s.alarmCause 4 = true ↔ s.timebase.mode = .fault) ∧ (s.alarmCause 5 = true ↔ 32 - s.queue.length ≤ 4) ∧
      (s.alarmCause 6 = true ↔ ∃ m : LineNo, s.st m = .out ∧ s.sup[m].fault = true) ∧
      (s.alarmCause 7 = true ↔ ∃ g : Fin 4, s.cfg.outputs[g].alarm = true ∧ s.output g = true) ∧
      (∀ i : Fin 8, s.alarmCause i = true → s.cfg.alarmLevels[i] ≤ s.alarmLevel) ∧
      (s.alarmLevel = 0 ∨ ∃ i : Fin 8, s.alarmCause i = true ∧ s.alarmLevel = s.cfg.alarmLevels[i]) ∧
      (s.alm = true ↔ s.loader = .running ∧ s.cfg.alarmThreshold < s.alarmLevel)

/-- R7, R8, R145: a rising edge of RI begins a burst measurement in IDLE and RINGING, is counted in a proving run, and changes nothing but the level
elsewhere; a burst that reaches the stuck-ring limit of Table 1-7 takes the line to OUT with FAULT set and counts nothing, and before the limit
STUCK_RING does nothing, and an edge to the level that stands changes nothing (log entries 2 and 4). -/
def Obligations.RingingBeginsAndSticks : Prop :=
  ∀ (t : Moment) (n : LineNo) (s : State),
    Gives (.riRisingEdge t n) s
        (if s.sup[n].ri = true then s.at t
         else if s.st n = .idle ∨ s.st n = .ringing then
           (s.at t).setSup n { s.sup[n] with ri := true, burst := some (max s.now t) }
         else if s.st n = .proving ∧ s.run[n].phase ≠ .none then
           ((s.at t).setSup n { s.sup[n] with ri := true }).count .ringsWhileBusy
         else (s.at t).setSup n { s.sup[n] with ri := true }) ∧
      Gives (.stuckRing t n) s
        (if (s.st n = .idle ∨ s.st n = .ringing) ∧ s.sup[n].ri = true ∧
            ranFor s.sup[n].burst (2 * s.cfg.times.ringMax + 1) (max s.now t) = true then
           (s.at t).setSup n { LineRec.fresh .out s.sup[n].ri s.sup[n].cd with fault := true }
         else s.at t)

/-- R7, R9, R10, R11, R12, R13: a falling edge of RI ends the measurement. A glitch or a long burst counts nothing. A valid burst counts toward
answering: when the count reaches answer rings the line is blocked if a make-busy condition holds for it, and answers otherwise. A valid burst on a
blocked line is counted, restarts the ring-silence timer, and moves the line no nearer to answering. The conditions are those that stood before the
burst's own move (log entry 36), and a burst that outlived the stuck-ring limit without its event is long (log entry 24). -/
def Obligations.RingBurstsAreClassed : Prop :=
  ∀ (t : Moment) (n : LineNo) (s : State), s.sup[n].ri = true →
    ((∀ b ∈ s.sup[n].burst, max s.now t - b < s.cfg.times.ringMin ∨ s.cfg.times.ringMax < max s.now t - b) →
        Gives (.riFallingEdge t n) s ((s.at t).setSup n { s.sup[n] with ri := false, burst := none })) ∧
      ∀ b : Nat, s.sup[n].burst = some b →
        s.cfg.times.ringMin ≤ max s.now t - b → max s.now t - b ≤ s.cfg.times.ringMax →
        let l := s.sup[n]
        let silence := some (max s.now t + 1000 * s.cfg.times.ringSilence)
        (∀ count : Nat,
            (s.st n = .idle ∧ count = 1 ∨ s.st n = .ringing ∧ s.sup[n].blocked = false ∧ count = s.sup[n].burstCount + 1) →
            Gives (.riFallingEdge t n) s
              (if count < (s.group n).answerRings then
                 (s.at t).setSup n
                   { l with ri := false, burst := none, st := .ringing, burstCount := count, blocked := false, ringSilence := silence }
               else if (s.at t).madeBusy n = true then
                 ((s.at t).setSup n
                   { l with
                     ri := false, burst := none, st := .ringing, burstCount := count, blocked := true, ringSilence := silence }).count
                   .ringsWhileBusy
               else
                 (s.at t).setSup n
                   { LineRec.fresh .answering false l.cd with
                     fault := l.fault
                     outPending := l.outPending
                     carrierWait := some (max s.now t + 1000 * s.cfg.times.carrierWait)
                     qual := if l.cd then some (max s.now t) else none })) ∧
          (s.st n = .ringing → l.blocked = true →
            Gives (.riFallingEdge t n) s
              (((s.at t).setSup n { l with ri := false, burst := none, ringSilence := silence }).count .ringsWhileBusy))

/-- R20: whenever a line would enter IDLE, at hangup-guard expiry or at ring-silence expiry (R10), it enters OUT instead if out-pending is set, and
out-pending is cleared; FAULT is left as it stands; a line that enters IDLE with RI active begins a burst measurement at once, or goes on with the
one that is open (R7). Before its moment, and in another state, neither timer does anything (log entries 2 and 4). -/
def Obligations.LineReturnsToIdleOrToOut : Prop :=
  ∀ (t : Moment) (n : LineNo) (s : State),
    let l := s.sup[n]
    let back : LineRec :=
      if l.outPending then { LineRec.fresh .out l.ri l.cd with fault := l.fault }
      else
        { LineRec.fresh .idle l.ri l.cd with
          fault := l.fault, burst := if l.ri then some (l.burst.getD (max s.now t)) else none }
    Gives (.hangupGuardExpiry t n) s
        (if s.st n = .hangup ∧ fallenDue l.hangupGuard (max s.now t) = true then (s.at t).setSup n back else s.at t) ∧
      Gives (.ringSilenceExpiry t n) s
        (if s.st n = .ringing ∧ fallenDue l.ringSilence (max s.now t) = true then
           if l.blocked then (s.at t).setSup n back else ((s.at t).setSup n back).count .abandonedRings
         else s.at t)

/-- R13, R15, R50, R144, R149: edges of CD begin, end and abandon qualification and dropout measurements; a dropout that ends before its time is a
carrier hit on a call and is not counted in a proving run. When the carrier of an ANSWERING line has been there for carrier-qualify, the line enters
SIGNON with a new context in phase SENSE. An edge to the level that stands, and a qualification before its moment, change nothing (log entries 2 and
4). -/
def Obligations.CarrierEdgesAndQualification : Prop :=
  ∀ (t : Moment) (n : LineNo) (s : State),
    let l := s.sup[n]
    let now := max s.now t
    Gives (.cdRisingEdge t n) s
        (if l.cd = true then s.at t
         else if s.st n = .answering then (s.at t).setSup n { l with cd := true, qual := some now }
         else if (s.st n = .signon ∨ s.st n = .session ∨ s.st n = .closing) ∧ l.dropout.isSome = true then
           ((s.at t).setSup n { l with cd := true, dropout := none }).count .carrierHits
         else if s.st n = .proving ∧ s.run[n].phase = .waiting then
           ((s.at t).setSup n { l with cd := true }).setRun n { s.run[n] with qual := some now }
         else if s.st n = .proving ∧ s.run[n].phase = .running then
           ((s.at t).setSup n { l with cd := true }).setRun n { s.run[n] with dropout := none }
         else (s.at t).setSup n { l with cd := true }) ∧
      Gives (.cdFallingEdge t n) s
        (if l.cd = false then s.at t
         else if s.st n = .answering then (s.at t).setSup n { l with cd := false, qual := none }
         else if s.st n = .signon ∨ s.st n = .session ∨ s.st n = .closing then
           (s.at t).setSup n { l with cd := false, dropout := some now }
         else if s.st n = .proving ∧ s.run[n].phase = .waiting then
           ((s.at t).setSup n { l with cd := false }).setRun n { s.run[n] with qual := none }
         else if s.st n = .proving ∧ s.run[n].phase = .running then
           ((s.at t).setSup n { l with cd := false }).setRun n { s.run[n] with dropout := some now }
         else (s.at t).setSup n { l with cd := false }) ∧
      Gives (.carrierQualified t n) s
        (if s.st n = .answering ∧ l.cd = true ∧ ranFor l.qual s.cfg.times.carrierQualify now = true then
           ((s.at t).setSup n
             { LineRec.fresh .signon l.ri l.cd with
               fault := l.fault, outPending := l.outPending, dropout := l.dropout }).setSign n
             (some (Context.create (now + 1000 * s.cfg.signOnTime)))
         else s.at t)

/-- R14, R16, R18, R19, R48: the ways into HANGUP that end no session and no sign-on: the carrier wait runs out in ANSWERING, and the drained
request, the drain limit or a disconnect ends CLOSING. Entry to HANGUP clears the line record but FAULT and out-pending, starts the hangup guard,
drops DTR, empties the line's Character Path and returns its blocks, and touches no other line. A timer before its moment, and a request not made,
change nothing (log entries 2 and 4). -/
def Obligations.CallsWithoutASessionHangUp : Prop :=
  ∀ (t : Moment) (n : LineNo) (s : State),
    Gives (.carrierWaitExpiry t n) s
        (if s.st n = .answering ∧ fallenDue s.sup[n].carrierWait (max s.now t) = true then
           ((s.at t).count .carrierWaitTimeouts).hangup n
         else s.at t) ∧
      Gives (.drainLimitExpiry t n) s
        (if s.st n = .closing ∧ fallenDue s.sup[n].drainLimit (max s.now t) = true then (s.at t).hangup n else s.at t) ∧
      Gives (.drained t n) s
        (if s.asks[n].drained = true ∧ s.st n = .closing then (s.at t).hangup n else s.at t) ∧
      (s.st n = .closing →
        Gives (.disconnect t n) s
          (if s.sup[n].cd = false ∧ ranFor s.sup[n].dropout s.cfg.times.carrierLoss (max s.now t) = true then (s.at t).hangup n
           else s.at t)) ∧
      let u := s.hangup n
      u.sup[n] =
          { LineRec.fresh .hangup s.sup[n].ri s.sup[n].cd with
            fault := s.sup[n].fault
            outPending := s.sup[n].outPending
            hangupGuard := some (s.now + 1000 * s.cfg.times.hangupGuard) } ∧
        u.path[n] = Path.fresh ∧ u.free = s.free + s.path[n].inQ.blocks + s.path[n].outQ.blocks ∧
        u.dtr n = false ∧ u.tst n = false ∧ u.mb n = true ∧
        ∀ m : LineNo, m ≠ n → u.sup[m] = s.sup[m] ∧ u.path[m] = s.path[m] ∧ u.asks[m] = s.asks[m]

/-- R15, R16, R53, R71, R72, R81, R112, R114: a dropout that reaches carrier-loss. In SESSION it ends the session with CARRIER, or with the reason
already set: its finished meter becomes the last charge record, its RELEASE waits in the release slot, the record is gone and the line is in HANGUP.
In SIGNON it discards the context; a RELEASE with reason WITHDRAWN is raised when its claim was raised and the context is not already in REFUSING.
Before the limit, or with no dropout, DISCONNECT does nothing (log entries 2 and 4). -/
def Obligations.DisconnectEndsTheCall : Prop :=
  ∀ (t : Moment) (n : LineNo) (s : State),
    (s.sup[n].cd = true ∨ (∀ b ∈ s.sup[n].dropout, max s.now t < b + s.cfg.times.carrierLoss) →
        Gives (.disconnect t n) s (s.at t)) ∧
      ∀ b : Nat, s.sup[n].cd = false → s.sup[n].dropout = some b → b + s.cfg.times.carrierLoss ≤ max s.now t →
        (∀ x : Session, s.st n = .session → s.sess[n] = some x →
          Leads (.disconnect t n) s fun u =>
            u.st n = .hangup ∧ u.sess[n] = none ∧ u.path[n].inQ = Queue.empty ∧
              u.claims[n].release = some ⟨x.user, x.serial, .closed (x.reason.getD .carrier)⟩ ∧
              u.claims[n].own = s.claims[n].own ∧ (u.req (.release n)).pending = true ∧
              (∃ serial, u.queue.map Queued.charge =
                s.queue.map Queued.charge ++ [chargeOf serial n (x.finish s.cfg) (x.reason.getD .carrier)]) ∧
              ∀ m : LineNo, m ≠ n → u.sup[m] = s.sup[m] ∧ u.sign[m] = s.sign[m] ∧ u.claims[m] = s.claims[m]) ∧
          ∀ c : Context, s.st n = .signon → s.sign[n] = some c →
            Leads (.disconnect t n) s fun u =>
              u.st n = .hangup ∧ u.sign[n] = none ∧ u.queue.map Queued.charge = s.queue.map Queued.charge ∧
                if c.claimRaised = true ∧ c.phase ≠ .refusing then
                  u.claims[n].release = some ⟨c.user, c.sessionSerial.getD 0, .withdrawn⟩ ∧ (u.req (.release n)).pending = true
                else u.claims = s.claims

/-- R17, R18, R45, R46, R52, R72, R73, R81, R112, R114: the refuse move discards the context and takes the line to CLOSING with its drain limit of 10
s running, and its text is taken (the slot by log entry 12). The close move ends the session: its finished meter becomes the last charge record, its
RELEASE waits in the release slot, the record is gone and the line is in CLOSING. It flushes the outbound queue unless the reason is ENDED, and takes
the closing text: the part of the reason, and the line CONNECT h:mm:ss UNITS u of the record's figures, each behind CR LF. In any other state the
request is ignored. With no request waiting neither command does anything (log entries 4 and 7). -/
def Obligations.RefuseAndCloseMoveToClosing : Prop :=
  (∀ (t : Moment) (n : LineNo) (s : State),
    (∀ text : Text, s.asks[n].refuse = some text →
        Gives (.refuse t n) s
          (if s.st n = .signon then
             (((s.at t).setAsks n { s.asks[n] with refuse := none }).setSup n
               { LineRec.fresh .closing s.sup[n].ri s.sup[n].cd with
                 fault := s.sup[n].fault
                 outPending := s.sup[n].outPending
                 dropout := s.sup[n].dropout
                 drainLimit := some (max s.now t + 10000) }).setSign n none
           else (s.at t).setAsks n { s.asks[n] with refuse := none }) ∧
          (s.loader = .running → s.st n = .signon → OutputAtRest s → Leads (.refuse t n) s fun u => TextTaken s u n text)) ∧
      (s.asks[n].refuse = none → Gives (.refuse t n) s (s.at t)) ∧
      (s.asks[n].close = false ∨ s.st n ≠ .session → Gives (.close t n) s (s.at t)) ∧
      ∀ (x : Session) (r : CloseReason), s.asks[n].close = true → s.st n = .session → s.sess[n] = some x → x.reason = some r →
        let p := s.path[n]
        let q := if r = .ended then p.outQ else Queue.empty
        let room := q.unwritten +
          16 * min ((s.group n).allowance - q.blocks) (s.free + p.inQ.blocks + p.outQ.blocks - q.blocks)
        let text := closingText s.cfg x r
        let chars := textChars s.cfg text
        Leads (.close t n) s fun u =>
          u.st n = .closing ∧ u.sess[n] = none ∧ u.path[n].inQ = Queue.empty ∧ u.sup[n].drainLimit = some (max s.now t + 10000) ∧
            u.claims[n].release = some ⟨x.user, x.serial, .closed r⟩ ∧ u.claims[n].own = s.claims[n].own ∧
            (u.req (.release n)).pending = true ∧
            (∃ serial, u.queue.map Queued.charge = s.queue.map Queued.charge ++ [chargeOf serial n (x.finish s.cfg) r]) ∧
            (∀ m : LineNo, m ≠ n → u.sup[m] = s.sup[m] ∧ u.sign[m] = s.sign[m] ∧ u.claims[m] = s.claims[m]) ∧
            (p.tx.isSome = true →
              u.path[n].tx = p.tx ∧ TextAppendedOrWaits s.cfg text { p with outQ := q } u.path[n] ∧
                (p.slot = none → chars.length ≤ room → u.path[n].slot = none ∧ u.path[n].outQ = q.append chars)) ∧
            (s.loader = .running → p.tx = none → p.slot = none → chars.length ≤ room →
              let started := Path.started { p with owed := none, outQ := q.append chars }
              u.path[n].slot = none ∧ u.path[n].outQ = started.outQ ∧ u.path[n].tx = started.tx) ∧
            ((∀ m : LineNo, s.entersHold m = false) →
              u.counters.noticesReplaced =
                if p.slot.isSome then sat16 s.counters.noticesReplaced else s.counters.noticesReplaced)) ∧
    (∀ (cfg : Configuration) (x : Session) (r : CloseReason),
      let part : List Char7 :=
        match r with
        | .ended => 0x0D :: 0x0A :: cfg.messages[(14 : Fin 16)]
        | .idle => 0x0D :: 0x0A :: cfg.messages[(12 : Fin 16)]
        | .allowance => 0x0D :: 0x0A :: cfg.messages[(11 : Fin 16)]
        | .operator => 0x0D :: 0x0A :: cfg.notices[(0 : Fin 8)]
        | .channelLost => 0x0D :: 0x0A :: cfg.messages[(13 : Fin 16)]
        | .notConfirmed => 0x0D :: 0x0A :: cfg.messages[(4 : Fin 16)]
        | .carrier | .restart => []
      let digit (k : Nat) : Char7 := BitVec.ofNat 7 (0x30 + k)
      let d := x.duration
      textChars cfg (closingText cfg x r) =
        part ++ [0x0D, 0x0A, 0x43, 0x4F, 0x4E, 0x4E, 0x45, 0x43, 0x54, 0x20] ++ decimalText (d / 3600) ++
          [0x3A, digit (d / 60 % 60 / 10), digit (d / 60 % 60 % 10), 0x3A, digit (d % 60 / 10), digit (d % 60 % 10)] ++
          [0x20, 0x55, 0x4E, 0x49, 0x54, 0x53, 0x20] ++ decimalText (x.finish cfg).units) ∧
    (∀ (cfg : Configuration) (i : Fin 16) (j : Fin 8),
      textChars cfg ⟨[.message i], none⟩ = 0x0D :: 0x0A :: cfg.messages[i] ∧
        textChars cfg ⟨[.notice j], none⟩ = 0x0D :: 0x0A :: cfg.notices[j]) ∧
    ∀ k : Nat, k < 100000000 →
      ∃ ds : List Nat,
        decimalText k = ds.map (fun d => BitVec.ofNat 7 (0x30 + d)) ∧ (∀ d ∈ ds, d ≤ 9) ∧ decimalValue ds = k ∧
          (ds = [0] ∨ ∃ d rest, ds = d :: rest ∧ d ≠ 0)

/-- R17, R36, R44, R61, R67, R68, R69, R70, R100, R105, R106, R109: the establish move replaces an admitted context by the session record, its meter
begun with the sign-on fee and its hold by the channel station and the bus, with input-held and output-paused clear; where a NEW request was raised
and the session is provisional, confirm-pending is its serial, not waiting; in any other state the request is ignored. The allowance left by the fee
is tested at once: it warns at or below the threshold, and at 0 it sets the grace counter, or with grace time 0 closes the session with ALLOWANCE. It
is tested before the hold conditions (log entry 42). A held reply is applied at the same move: ACCEPT replaces class, table and allowance, less the
fee already charged, and clears provisional; any other verdict closes the session with NOT-CONFIRMED. That is stated for a grace time above 0, since
the establishment's own allowance test comes first (log entry 22). -/
def Obligations.EstablishCreatesTheSession : Prop :=
  ∀ (t : Moment) (n : LineNo) (s : State),
    (s.asks[n].establish = true → s.st n ≠ .signon →
        Gives (.establish t n) s ((s.at t).setAsks n { s.asks[n] with establish := false })) ∧
      ∀ (c : Context) (g : Granted),
        s.asks[n].establish = true → s.st n = .signon → s.sign[n] = some c → c.admitted = true → c.granted = some g →
        let fee := s.cfg.tariffs[g.table].fee
        (c.heldReply = none →
          Leads (.establish t n) s fun u =>
            u.st n = .session ∧ u.sign[n] = none ∧ u.path[n].inQ = s.path[n].inQ ∧
              u.path[n].inputHeld = false ∧ u.path[n].paused = false ∧
              ∃ x : Session, u.sess[n] = some x ∧ x.user = c.user ∧ x.serial = c.sessionSerial.getD 0 ∧ x.cls = g.cls ∧ x.table = g.table ∧
                x.channel = g.channel ∧ x.granted = g.allowance ∧ x.units = fee ∧ x.residue = 0 ∧ x.duration = 0 ∧
                x.remaining = (if g.allowance = 65535 then none else some (g.allowance - fee)) ∧
                x.startMinute = (if s.clock.unset then none else some s.clock.minute) ∧ x.clockUnset = s.clock.unset ∧
                x.timebase = decide (s.timebase.mode = .fault) ∧ x.provisional = c.provisional ∧ x.lateConfirmed = c.lateConfirmed ∧
                x.saturated = false ∧ x.endMark = false ∧ x.echo = s.cfg.classes[g.cls].echo ∧
                x.idle = (if s.cfg.classes[g.cls].idleLimit = 0 then none else some (60 * s.cfg.classes[g.cls].idleLimit)) ∧
                let holds : Bool := decide (¬(s.roster[g.channel].age < 3 ∧ s.roster[g.channel].roles.channel = true) ∨ s.bus ≠ .active)
                x.reason = (if x.remaining = some 0 ∧ s.cfg.graceTime = 0 then some .allowance else none) ∧
                (x.reason ≠ none → u.asks[n].close = true) ∧
                x.warned = (match x.remaining with | some r => decide (0 < r ∧ r ≤ s.cfg.warnThreshold) | none => false) ∧
                x.grace = (if x.remaining = some 0 ∧ 0 < s.cfg.graceTime then some s.cfg.graceTime else none) ∧
                (s.loader = .running → x.reason = none → x.held = holds ∧ x.hold = if holds then some 0 else none) ∧
                (x.reason = none →
                  x.confirm = if c.provisional then c.requestSerial.map fun q => ⟨q, none, c.answered⟩ else none) ∧
                (x.reason ≠ none → x.confirm = none)) ∧
          ∀ held : Reply, c.heldReply = some held → 0 < s.cfg.graceTime →
            Leads (.establish t n) s fun u =>
              u.st n = .session ∧ u.sign[n] = none ∧ u.path[n].inputHeld = false ∧ u.path[n].paused = false ∧
                ∃ x : Session, u.sess[n] = some x ∧ x.user = c.user ∧ x.serial = c.sessionSerial.getD 0 ∧ x.channel = g.channel ∧
                  x.units = fee ∧ x.residue = 0 ∧ x.duration = 0 ∧ x.confirm = none ∧ x.echo = s.cfg.classes[g.cls].echo ∧
                  if held.verdict = .accept then
                    x.cls = held.granted.cls ∧ x.table = held.granted.table ∧ x.granted = held.granted.allowance ∧
                      x.remaining = (if held.granted.allowance = 65535 then none else some (held.granted.allowance - fee)) ∧
                      x.provisional = false ∧ x.lateConfirmed = true ∧ x.reason = none
                  else x.reason = some .notConfirmed ∧ u.asks[n].close = true

/-! ## Characters (Chapter 2) -/

/-- R27, R28: with the receiver active, a character whose parity bit leaves the count of ones in the eight bits odd under even checking, or even under
odd checking, is counted and handled as SUB, and any other is handled as received, every one of them with checking off; a framing error is counted; in
a line whose receiver is not active none of them changes anything. The check that other statements name by `parityPasses` is this one. -/
def Obligations.ReceiverChecksParityAndFraming : Prop :=
  ∀ (t : Moment) (n : LineNo) (data : Char7) (parity : Bool) (s : State),
    let ones : Nat := ((List.range 7).filter fun i => data.getLsbD i).length + (if parity then 1 else 0)
    let error : Prop := (s.group n).parity = .even ∧ ones % 2 = 1 ∨ (s.group n).parity = .odd ∧ ones % 2 = 0
    ((s.st n).onCall = true ∧ s.path[n].speed.isSome = true →
        (¬error → Gives (.characterReceived t n data parity) s ((s.at t).handChar n data)) ∧
          (error → Gives (.characterReceived t n data parity) s (((s.at t).count .parityErrors).handChar n 0x1A)) ∧
          Gives (.framingError t n) s ((s.at t).count .framingErrors)) ∧
      (¬((s.st n).onCall = true ∧ s.path[n].speed.isSome = true) →
        Gives (.characterReceived t n data parity) s (s.at t) ∧ Gives (.framingError t n) s (s.at t)) ∧
      (parityPasses (s.group n).parity data parity = true ↔ ¬error)

/-- R33, R34, R36, R37, R70, the third entry: an ordinary character in SESSION with inbound room is appended to the inbound queue and starts a stopped
forwarding timer; with no room it is discarded and counted as an overrun, and it is not echoed, whatever the echo mode: it never enters the outbound
queue, and no echo is counted lost. Either way it reloads the idle timer of a session that is not closing, and no other line is touched. With echo
mode on it is first echoed: it stands at the back of the outbound queue, where an idle transmitter takes its next character, or the echo finds no
outbound room, is dropped and counted. An echo that takes the last block leaves the character itself an overrun (log entry 13). With echo mode off
nothing is echoed. The outbound side is stated for a line with no text waiting and no session about to enter hold. An append that brings the queue to
16·Ain − 8 characters with input-held clear sets it and makes XOFF owed, or none where XON was still owed (log entry 41). The forwarding timer's
expiry sets forward-due and stops it; before its moment, or with the timer stopped, nothing changes (log entry 2). -/
def Obligations.SessionCharacterQueuesOrOverruns : Prop :=
  ∀ (t : Moment) (n : LineNo) (s : State),
    Gives (.forwardingTimerExpiry t n) s
        (if fallenDue s.path[n].fwdTimer (max s.now t) = true then
           (s.at t).setPath n { s.path[n] with fwdTimer := none, fwdDue := true }
         else s.at t) ∧
      ∀ (c : Char7) (parity : Bool) (x : Session),
        s.st n = .session → s.sess[n] = some x → s.path[n].speed.isSome = true → parityPasses (s.group n).parity c parity = true →
        ((s.group n).xonXoff = true → c ≠ 0x11 ∧ c ≠ 0x13) → (s.group n).attention1 ≠ some c → (s.group n).attention2 ≠ some c →
        let y : Session :=
          if x.reason = none then
            { x with idle :=
                if s.cfg.classes[x.cls].idleLimit = 0 then none else some (60 * s.cfg.classes[x.cls].idleLimit) }
          else x
        (s.inRoom n = 0 →
            Gives (.characterReceived t n c parity) s (((s.at t).setSess n (some y)).count .overruns) ∧
              Leads (.characterReceived t n c parity) s fun u =>
                let p := s.path[n]
                p.slot = none → s.entersHold n = false →
                  (p.tx.isSome = true → u.path[n].tx = p.tx ∧ u.path[n].outQ = p.outQ) ∧
                    (s.loader = .running → p.tx = none →
                      u.path[n].tx = (Path.started p).tx ∧ u.path[n].outQ = (Path.started p).outQ)) ∧
          (1 ≤ s.inRoom n →
            let p := s.path[n]
            let echoed : Bool := x.echo && decide (1 ≤ s.outRoom n)
            let q := if echoed then p.outQ.append [c] else p.outQ
            let left := if echoed then (s.sendOut n [c]).inRoom n else s.inRoom n
            Leads (.characterReceived t n c parity) s fun u =>
              let full : Prop := (s.group n).xonXoff = true ∧ p.inputHeld = false ∧ 16 * (s.group n).inAllowance - 8 ≤ p.inQ.chars.length + 1
              (1 ≤ left →
                u.path[n].inQ = p.inQ.append [c] ∧
                  u.path[n].fwdTimer = some (p.fwdTimer.getD (max s.now t + s.cfg.forwardingTimer)) ∧
                  (full → u.path[n].inputHeld = true ∧ u.path[n].owed = if p.owed = some .xon then none else some .xoff) ∧
                  (¬full → u.path[n].inputHeld = p.inputHeld ∧ u.path[n].owed = p.owed) ∧
                  u.counters.overruns = s.counters.overruns) ∧
                (left = 0 → u.path[n].inward = p.inward ∧ u.counters.overruns = sat16 s.counters.overruns) ∧
                u.counters.echoesLost =
                  (if x.echo = true ∧ s.outRoom n = 0 then sat16 s.counters.echoesLost else s.counters.echoesLost) ∧
                (p.slot = none → s.entersHold n = false →
                  (p.tx.isSome = true → u.path[n].tx = p.tx ∧ u.path[n].outQ = q) ∧
                    (s.loader = .running → p.tx = none →
                      let started := Path.started { p with owed := u.path[n].owed, outQ := q }
                      u.path[n].tx = started.tx ∧ u.path[n].outQ = started.outQ)) ∧
                u.sess[n].map Session.metered = some y.metered ∧ u.sup = s.sup ∧ u.sign = s.sign ∧ u.claims = s.claims ∧
                ∀ m : LineNo, m ≠ n → u.path[m].inward = s.path[m].inward)

/-- R33, R34, R35, R44, R70: with terminal XON/XOFF enabled, DC3 pauses the line's output and DC1 resumes it, in SESSION and in CLOSING. Neither is
queued inbound or outbound, and neither is echoed: what the transmitter takes next is what stood there. An attention character and a BREAK in SESSION
set their flag to wait, and place the flag mark after the last character of the inbound queue; the queue itself stands. They flush the outbound queue:
it is empty, and the character in the transmitter and the owed flow character are not touched (the outbound side is stated for a line with no text
waiting and no session about to enter hold). Every character, DC1, DC3 and the attention characters too, reloads the idle timer of a session that is
not closing; a BREAK leaves it. A BREAK elsewhere has no effect. -/
def Obligations.TerminalControlsActOnTheLine : Prop :=
  ∀ (t : Moment) (n : LineNo) (s : State), s.path[n].speed.isSome = true →
    let reloaded (x : Session) : Session :=
      if x.reason = none then
        { x with idle := if s.cfg.classes[x.cls].idleLimit = 0 then none else some (60 * s.cfg.classes[x.cls].idleLimit) }
      else x
    let flushed (u : State) : Prop :=
      let p := s.path[n]
      p.slot = none → s.entersHold n = false →
        u.path[n].outQ = Queue.empty ∧ u.path[n].slot = none ∧ u.path[n].owed = p.owed ∧ (p.tx.isSome = true → u.path[n].tx = p.tx) ∧
          (s.loader = .running → p.tx = none → u.path[n].tx = (Path.started { p with outQ := Queue.empty }).tx)
    (∀ pause parity : Bool,
      (s.group n).xonXoff = true → (s.st n = .closing ∨ s.st n = .session ∧ s.sess[n].isSome = true) →
      let c : Char7 := if pause then 0x13 else 0x11
      parityPasses (s.group n).parity c parity = true →
      Leads (.characterReceived t n c parity) s fun u =>
        u.path[n].paused = pause ∧ u.path[n].inQ = s.path[n].inQ ∧ u.sup = s.sup ∧
          (s.st n = .session → u.sess[n].map Session.metered = s.sess[n].map fun x => (reloaded x).metered) ∧
          u.counters.echoesLost = s.counters.echoesLost ∧ u.counters.overruns = s.counters.overruns ∧
          let p : Path := { s.path[n] with paused := pause }
          (p.slot = none → s.entersHold n = false →
            (p.tx.isSome = true → u.path[n].tx = p.tx ∧ u.path[n].outQ = p.outQ) ∧
              (s.loader = .running → p.tx = none →
                u.path[n].tx = (Path.started p).tx ∧ u.path[n].outQ = (Path.started p).outQ))) ∧
      (s.st n = .session →
        Leads (.lineBreak t n) s fun u =>
          u.path[n].brk = true ∧ u.path[n].attention = s.path[n].attention ∧ u.path[n].mark = some s.path[n].inQ.chars.length ∧
            u.path[n].inQ = s.path[n].inQ ∧ u.sup = s.sup ∧ u.claims = s.claims ∧ flushed u ∧
            u.sess[n].map Session.metered = s.sess[n].map Session.metered) ∧
      (s.st n ≠ .session → Gives (.lineBreak t n) s (s.at t)) ∧
      ∀ (c : Char7) (parity : Bool) (x : Session),
        s.st n = .session → s.sess[n] = some x → parityPasses (s.group n).parity c parity = true →
        ((s.group n).xonXoff = true → c ≠ 0x11 ∧ c ≠ 0x13) → ((s.group n).attention1 = some c ∨ (s.group n).attention2 = some c) →
        Leads (.characterReceived t n c parity) s fun u =>
          u.path[n].attention = true ∧ u.path[n].brk = s.path[n].brk ∧ u.path[n].mark = some s.path[n].inQ.chars.length ∧
            u.path[n].inQ = s.path[n].inQ ∧ u.sup = s.sup ∧ u.claims = s.claims ∧ flushed u ∧
            u.sess[n].map Session.metered = some (reloaded x).metered

/-- R3, R29, R30, R45, R54, Table 2-1: a try in SENSE. A pulse whose width in microseconds lies in the window Table 2-1 gives an allowed speed, and
that decodes as CR with its stop bit at mark sets the speed, sends M0 and M1 and moves to USER; any other uses up a try, the third with the
speed-failure counter, the lowest allowed speed and REFUSING with M9; a falling edge that 200 ms of mark do not precede, after a failed try, is not
tried. The speed that other statements name by `lowestSpeed` is the first of the table that is allowed. -/
def Obligations.SpeedTrySucceedsOrFails : Prop :=
  ∀ (t : Moment) (n : LineNo) (mark width : Nat) (decoded : Char7) (stop : Bool) (s : State) (c : Context),
    s.st n = .signon → s.sign[n] = some c → c.phase = .sense →
    let speeds : List (Speed × Nat × Nat × Nat) :=
      [(.b110, 0, 7727, 10455), (.b150, 1, 5667, 7667), (.b300, 2, 2833, 3833), (.b600, 3, 1417, 1917), (.b1200, 4, 708, 958),
        (.b2400, 5, 354, 480)]
    let allowed (w : Speed × Nat × Nat × Nat) : Prop := (s.group n).speeds.getLsbD w.2.1 = true
    let matching (w : Speed × Nat × Nat × Nat) : Prop := allowed w ∧ w.2.2.1 ≤ width ∧ width ≤ w.2.2.2
    let lowest (w : Speed × Nat × Nat × Nat) : Prop := allowed w ∧ ∀ v ∈ speeds, v.2.1 < w.2.1 → ¬allowed v
    (∀ w ∈ speeds, lowest w → lowestSpeed (s.group n) = w.1) ∧
    (0 < c.tries → mark < 200 → Gives (.speedTry t n mark width decoded stop) s (s.at t)) ∧
      (c.tries = 0 ∨ 200 ≤ mark →
        (∀ w ∈ speeds, matching w → decoded = 0x0D → stop = true →
          Gives (.speedTry t n mark width decoded stop) s
              (((s.at t).setPath n { s.path[n] with speed := some w.1 }).setSign n (some { c with phase := .user })) ∧
            (s.loader = .running → OutputAtRest s →
              Leads (.speedTry t n mark width decoded stop) s fun u => TextTaken s u n ⟨[.message 0, .message 1], none⟩)) ∧
        ((∀ w ∈ speeds, ¬matching w) ∨ decoded ≠ 0x0D ∨ stop = false →
          (c.tries + 1 < 3 →
            Gives (.speedTry t n mark width decoded stop) s ((s.at t).setSign n (some { c with tries := c.tries + 1 }))) ∧
          (3 ≤ c.tries + 1 →
            Leads (.speedTry t n mark width decoded stop) s fun u =>
              u.counters.speedFailures = sat16 s.counters.speedFailures ∧
                (∀ w ∈ speeds, lowest w → u.path[n].speed = some w.1) ∧ u.asks[n].refuse = some ⟨[.message 9], none⟩ ∧
                u.sign[n] = some { c with tries := c.tries + 1, phase := .refusing, signOnTimer := none, replyWait := none })))

/-- R36, R44, R46: a transmitter that finishes a character. A flow character is no longer owed once it has been sent, one of its kind owed anew while
it was being sent included (log entry 41). On a call the transmitter then takes an owed flow character, even while output is paused, or the next
character of its outbound queue, or neither; a line that so is drained makes the drained request in CLOSING, and ends a session that carries END.
That is stated for a line with no text waiting and no session about to enter hold. A text waiting in the slot is appended whole at the event at which
the room reaches its length, and is cut to a room that cannot grow; stated for other lines with no text waiting and no character an idle transmitter
could take. In a proving run the transmitter sends the next character of the pattern (R146). One that sends nothing finishes nothing (log entry 4). -/
def Obligations.TransmitterTakesTheNextCharacter : Prop :=
  ∀ (t : Moment) (n : LineNo) (s : State),
    let p := s.path[n]
    let owed := if p.txFlow then none else p.owed
    (p.tx = none → Gives (.characterSent t n) s (s.at t)) ∧
    ∀ b : BitVec 8, p.tx = some b →
      (s.loader = .running → (s.st n).onCall = true → p.slot = none → s.entersHold n = false →
        Leads (.characterSent t n) s fun u =>
          let v := u.path[n]
          v.inQ = p.inQ ∧ v.paused = p.paused ∧ v.slot = none ∧ v.owed = owed ∧ u.sup = s.sup ∧
            (∀ m : LineNo, m ≠ n → u.path[m].inward = s.path[m].inward) ∧
            (owed = some .xon → v.tx = some 0x11 ∧ v.txFlow = true ∧ v.outQ = p.outQ) ∧
            (owed = some .xoff → v.tx = some 0x13 ∧ v.txFlow = true ∧ v.outQ = p.outQ) ∧
            (∀ (c : Char7) (rest : List Char7), owed = none → p.paused = false → p.outQ.chars = c :: rest →
              v.tx = some (c.setWidth 8) ∧ v.txFlow = false ∧ v.outQ = p.outQ.remove 1) ∧
            (owed = none → p.paused = true ∨ p.outQ.chars = [] → v.tx = none ∧ v.outQ = p.outQ) ∧
            (owed = none → p.outQ.chars = [] →
              (s.st n = .closing → u.asks[n].drained = true) ∧
                ∀ x : Session, s.st n = .session → s.sess[n] = some x → x.endMark = true →
                  ∃ y : Session, u.sess[n] = some y ∧ y.reason = some (x.reason.getD .ended) ∧
                    (x.reason = none → u.asks[n].close = true))) ∧
      (∀ text : Text, s.loader = .running → (s.st n).onCall = true → p.slot = some text → owed = none →
        (∀ m : LineNo, s.entersHold m = false) → (∀ m : LineNo, m ≠ n → s.path[m].slot = none ∧ s.txReady m = false) →
        let chars := textChars s.cfg text
        (∀ (c : Char7) (rest : List Char7), p.outQ.chars = c :: rest → p.paused = false → s.outRoom n < chars.length →
          let q := p.outQ.remove 1
          let room := q.unwritten +
            16 * min ((s.group n).allowance - (p.inQ.blocks + q.blocks)) (s.free + p.outQ.blocks - q.blocks)
          Leads (.characterSent t n) s fun u =>
            u.path[n].tx = some (c.setWidth 8) ∧
              if chars.length ≤ room then u.path[n].slot = none ∧ u.path[n].outQ = q.append chars
              else u.path[n].slot = some text ∧ u.path[n].outQ = q) ∧
          (p.outQ.chars = [] → p.inQ.chars = [] → (s.group n).allowance ≤ s.free →
            let cut := chars.take (16 * (s.group n).allowance)
            Leads (.characterSent t n) s fun u =>
              u.path[n].slot = none ∧
                (p.paused = true → u.path[n].tx = none ∧ u.path[n].outQ.chars = cut) ∧
                ∀ (c : Char7) (rest : List Char7), p.paused = false → cut = c :: rest →
                  u.path[n].tx = some (c.setWidth 8) ∧ u.path[n].outQ.chars = rest)) ∧
      (s.st n = .proving → s.run[n].phase = .running →
        Gives (.characterSent t n) s
            ((s.at t).setRun n { s.run[n] with generator := (patternBits 8 s.run[n].generator).2 }) ∧
          Leads (.characterSent t n) s fun u => u.path[n].tx = some (charOfBits (patternBits 8 s.run[n].generator).1))

/-! ## Sign-on and sessions (Chapter 3) -/

/-- R33, R45, R55, R56, R57, Table 3-3: how a character changes a context in USER and in CODE (CR apart, which ends the field), and that it changes
no line record, claim or inbound queue. What is sent to the terminal: in USER the digit, BEL, or BS, space and BS, of which as many as the outbound
room takes stand at the back of the outbound queue, where an idle transmitter takes its next character, and the others are each counted as an echo
lost; M1 at CAN (one that replaces a text waiting in the slot by log entry 12); in every other phase nothing. The echoes are stated for a line with
no text waiting, no session about to enter hold and a sound outbound queue (`Queue.ok`, which `BufferPoolIsConserved` keeps). -/
def Obligations.SignOnCharactersCollectFields : Prop :=
  ∀ (t : Moment) (n : LineNo) (ch : Char7) (parity : Bool) (s : State) (c : Context),
    s.st n = .signon → s.sign[n] = some c → s.path[n].speed.isSome = true → parityPasses (s.group n).parity ch parity = true → ch ≠ 0x0D →
    Leads (.characterReceived t n ch parity) s fun u =>
      u.sup = s.sup ∧ u.claims = s.claims ∧ u.path[n].inQ = s.path[n].inQ ∧
        ∃ c' : Context, u.sign = s.sign.set n (some c') ∧
          (c.phase = .user → c' = { c with digits := c'.digits } ∧
            c'.digits =
              if ch = 0x18 then [] else if ch = 0x08 ∨ ch = 0x7F then c.digits.dropLast
              else match digitOf ch with
                | some d => if c.digits.length < 6 then c.digits ++ [d] else c.digits
                | none => c.digits) ∧
          (c.phase = .code → c' = { c with code := c'.code } ∧
            c'.code =
              if ch = 0x18 then [] else if ch = 0x08 ∨ ch = 0x7F then c.code.dropLast
              else if 0x20 ≤ ch.toNat ∧ ch.toNat ≤ 0x7E ∧ c.code.length < 8 then c.code ++ [ch] else c.code) ∧
          (c.phase ≠ .user → c.phase ≠ .code → c' = c) ∧
          (c.phase = .user → ch = 0x18 → s.loader = .running → OutputAtRest s → TextTaken s u n ⟨[.message 1], none⟩) ∧
          (¬(c.phase = .user ∧ ch = 0x18) → s.path[n].outQ.ok →
            let p := s.path[n]
            let sent : List Char7 :=
              if c.phase ≠ .user then []
              else if ch = 0x08 ∨ ch = 0x7F then (if c.digits = [] then [0x07] else [0x08, 0x20, 0x08])
              else if (digitOf ch).isSome = true ∧ c.digits.length < 6 then [ch] else [0x07]
            let q := if sent.take (s.outRoom n) = [] then p.outQ else p.outQ.append (sent.take (s.outRoom n))
            u.counters.echoesLost = (sent.drop (s.outRoom n)).foldl (fun k _ => sat16 k) s.counters.echoesLost ∧
              (p.slot = none → s.entersHold n = false →
                (p.tx.isSome = true → u.path[n].tx = p.tx ∧ u.path[n].outQ = q) ∧
                  (s.loader = .running → p.tx = none →
                    let started := Path.started { p with outQ := q }
                    u.path[n].tx = started.tx ∧ u.path[n].outQ = started.outQ)))

/-- R45, R54, R55, R56, R57, R58, R59, R60, R64: CR ends a field. In USER, an empty field or the value 0 uses up an attempt, with M3 and M1, the
third of which enters REFUSING with M3; any other value goes on to CODE with the code empty, with M2. In CODE, the context enters ASKING with the
next request serial, not yet answered, its reply wait started and an ADMIT-REQ raised, when an accountant is present and can be asked; otherwise it
is admitted provisionally with the configured grant and the next session serial and a CLAIM is raised, or is refused with M8 where provisional
admission is disabled. In ASKING, CLAIMING and REFUSING a CR is discarded without echo and without a count. A text that replaces one waiting in the
slot is taken by log entry 12. -/
def Obligations.CarriageReturnEndsAField : Prop :=
  ∀ (t : Moment) (n : LineNo) (parity : Bool) (s : State) (c : Context),
    s.st n = .signon → s.sign[n] = some c → s.path[n].speed.isSome = true → parityPasses (s.group n).parity 0x0D parity = true →
    Leads (.characterReceived t n 0x0D parity) s fun u =>
      let asked : Prop := s.cfg.noAccountant = false ∧ ∃ i : Station, s.roster[i].age < 3 ∧ s.roster[i].roles.accountant = true
      u.sup = s.sup ∧
        (c.phase = .user → c.user ≠ 0 →
          u.sign[n] = some { c with phase := .code, code := [] } ∧
            (s.loader = .running → OutputAtRest s → TextTaken s u n ⟨[.message 2], none⟩)) ∧
        (c.phase = .user → c.user = 0 → c.attempts + 1 < 3 →
          u.sign[n] = some { c with attempts := c.attempts + 1, digits := [], code := [], replyWait := none } ∧
            (s.loader = .running → OutputAtRest s → TextTaken s u n ⟨[.message 3, .message 1], none⟩)) ∧
        (c.phase = .user → c.user = 0 → 3 ≤ c.attempts + 1 →
          u.sign[n] = some { c with attempts := c.attempts + 1, phase := .refusing, signOnTimer := none, replyWait := none } ∧
            u.asks[n].refuse = some ⟨[.message 3], none⟩) ∧
        (c.phase ≠ .user → c.phase ≠ .code →
          let p := s.path[n]
          u.kept = (s.at t).kept ∧
            (p.slot = none → s.entersHold n = false →
              (p.tx.isSome = true → u.path[n].tx = p.tx ∧ u.path[n].outQ = p.outQ) ∧
                (s.loader = .running → p.tx = none → u.path[n].tx = (Path.started p).tx ∧ u.path[n].outQ = (Path.started p).outQ))) ∧
        (c.phase = .code → asked →
          u.sign[n] = some { c with
              phase := .asking, requestSerial := some s.requestSerial, answered := false,
              replyWait := some (max s.now t + 1000 * s.cfg.replyWait) } ∧
            u.requestSerial = s.requestSerial + 1 ∧ (u.req (.admitReq n)).pending = true) ∧
        (c.phase = .code → ¬asked → s.cfg.provisionalEnable = true →
          u.sign[n] = some { c with
              phase := .claiming, granted := some s.cfg.provisional, provisional := true, replyWait := none,
              sessionSerial := some s.sessionSerial, claimRaised := true } ∧
            u.sessionSerial = s.sessionSerial + 1 ∧ (u.req (.claim n)).pending = true) ∧
        (c.phase = .code → ¬asked → s.cfg.provisionalEnable = false →
          u.sign[n] = some { c with phase := .refusing, signOnTimer := none, replyWait := none } ∧
            u.asks[n].refuse = some ⟨[.message 8], none⟩)

/-- R51, R52, R58, R62, R64: the sign-on timer's expiry in any phase but REFUSING is counted and refuses with M9, withdrawing a claim that was
raised; the speed becomes the lowest allowed in SENSE; in REFUSING, or before its moment, nothing changes (log entry 2). The reply wait's expiry in
ASKING admits provisionally: the context enters CLAIMING with the configured grant and the next session serial and a CLAIM is raised; with
provisional admission disabled it is refused with M8. -/
def Obligations.SignOnTimersRefuseOrAdmit : Prop :=
  ∀ (t : Moment) (n : LineNo) (s : State) (c : Context), s.sign[n] = some c →
    (c.phase ≠ .refusing → fallenDue c.signOnTimer (max s.now t) = true →
      Leads (.signOnTimerExpiry t n) s fun u =>
        u.counters.signOnTimeouts = sat16 s.counters.signOnTimeouts ∧
          u.sign[n] = some { c with phase := .refusing, signOnTimer := none, replyWait := none } ∧
          u.asks[n].refuse = some ⟨[.message 9], none⟩ ∧
          u.path[n].speed = (if c.phase = .sense then some (lowestSpeed (s.group n)) else s.path[n].speed) ∧
          (c.claimRaised = true →
            u.claims[n].release = some ⟨c.user, c.sessionSerial.getD 0, .withdrawn⟩ ∧ (u.req (.release n)).pending = true) ∧
          (c.claimRaised = false → u.claims = s.claims) ∧ u.sup = s.sup) ∧
      (c.phase = .refusing ∨ fallenDue c.signOnTimer (max s.now t) = false → Gives (.signOnTimerExpiry t n) s (s.at t)) ∧
      (c.phase = .asking → fallenDue c.replyWait (max s.now t) = true →
        (s.cfg.provisionalEnable = true →
          Leads (.replyWaitExpiry t n) s fun u =>
            u.sessionSerial = s.sessionSerial + 1 ∧ (u.req (.claim n)).pending = true ∧ u.sup = s.sup ∧ u.claims = s.claims ∧
              u.sign[n] = some { c with
                phase := .claiming, granted := some s.cfg.provisional, provisional := true, replyWait := none,
                sessionSerial := some s.sessionSerial, claimRaised := true }) ∧
          (s.cfg.provisionalEnable = false →
            Leads (.replyWaitExpiry t n) s fun u =>
              u.sign[n] = some { c with phase := .refusing, signOnTimer := none, replyWait := none } ∧
                u.asks[n].refuse = some ⟨[.message 8], none⟩)) ∧
      (c.phase ≠ .asking ∨ fallenDue c.replyWait (max s.now t) = false → Gives (.replyWaitExpiry t n) s (s.at t))

/-- R69, R105, R106, R108: at the expiry of a confirmation's reply wait confirm-pending is no longer waiting, and the session stays provisional;
stated for a session without the END mark, whose drained report could otherwise close it at the same event. An ACCEPT of a matched reply in the
session sets the reply's class, table and allowance less the units so far, and clears provisional; the grace counter is removed unless the new
remaining allowance is 0, and warned is cleared above the threshold; within it the session is warned; at 0 a grace counter runs on, and a session
without one is exhausted. Any other verdict closes the session with NOT-CONFIRMED. -/
def Obligations.ConfirmationsAct : Prop :=
  ∀ (t : Moment) (n : LineNo) (s : State) (x : Session) (c : Confirm),
    s.sess[n] = some x → x.confirm = some c → x.endMark = false →
    (∀ d : Moment, c.wait = some d → d ≤ max s.now t →
      Leads (.confirmReplyWaitExpiry t n) s fun u =>
        ∃ y : Session, u.sess[n] = some y ∧ y.confirm = some { c with wait := none } ∧ y.metered = x.metered ∧ y.reason = x.reason) ∧
      ∀ (src : Station) (p : ReplyPayload),
        s.loader = .running → src ≠ s.station → s.bus = .joining ∨ s.bus = .active → s.roster[src].roles.accountant = true →
        s.roster[src].age < 3 → p.line.toNat = n.val → p.serial = c.serial → c.answered = false → s.sign[n] = none →
        x.provisional = true → x.reason = none →
        let left : Option Nat := if p.allowance.toNat = 65535 then none else some (p.allowance.toNat - x.units)
        Leads (.admitReply t src p) s fun u =>
          ∃ y : Session, u.sess[n] = some y ∧ y.user = x.user ∧ y.serial = x.serial ∧ y.units = x.units ∧ y.channel = x.channel ∧
            y.residue = x.residue ∧ y.duration = x.duration ∧ y.echo = x.echo ∧ y.idle = x.idle ∧
            if (readReply p).verdict = .accept then
              y.cls = (readReply p).granted.cls ∧ y.table = (readReply p).granted.table ∧ y.provisional = false ∧
                y.lateConfirmed = true ∧ y.confirm = none ∧ y.remaining = left ∧
                ((∀ r ∈ left, s.cfg.warnThreshold < r) → y.grace = none ∧ y.warned = false ∧ y.reason = none) ∧
                (∀ r : Nat, left = some (r + 1) → r + 1 ≤ s.cfg.warnThreshold → y.grace = none ∧ y.warned = true ∧ y.reason = none) ∧
                (left = some 0 → y.warned = x.warned ∧
                  if x.grace.isSome = true then y.grace = x.grace ∧ y.reason = none
                  else if 0 < s.cfg.graceTime then y.grace = some s.cfg.graceTime ∧ y.reason = none
                  else y.grace = none ∧ y.reason = some .allowance ∧ u.asks[n].close = true)
            else y.reason = some .notConfirmed ∧ u.asks[n].close = true

/-- R45, R61, R62, R63: a reply of an accountant to a context's request serial. In ASKING, ACCEPT enters CLAIMING with the reply's grant and the next
session serial; UNKNOWN uses up an attempt and goes back to USER with the text of M3 and M1 (one that replaces a text waiting in the slot by log entry
12), or is refused with M3 at the third; BARRED, HOURS and QUOTA are refused with M4. In CLAIMING with provisional set, an admitted context holds the
reply; for another, ACCEPT replaces the grant but its channel station and clears provisional, and any other verdict is refused with M4 and withdraws
the claim. The serial stands, and is marked answered, so that a second reply to it is stale (log entry 19). A reply from a station that does not
announce ACCOUNTANT, for a line that holds neither a context nor a session, or that matches nothing of the line it names, is echoed, counted as stale
and otherwise ignored. -/
def Obligations.RepliesDecideOrAreStale : Prop :=
  ∀ (t : Moment) (src : Station) (p : ReplyPayload) (s : State),
    s.loader = .running → src ≠ s.station → s.bus = .joining ∨ s.bus = .active →
    let stale : Prop := GivesHeard (.admitReply t src p) s (State.count { (s.at t).heard src with echo := true } .staleReplies)
    ((s.roster[src].roles.accountant = false ∨ ∀ n : LineNo, p.line.toNat = n.val → s.sign[n] = none ∧ s.sess[n] = none) → stale) ∧
      (∀ (n : LineNo) (c : Context), p.line.toNat = n.val → s.sign[n] = some c →
        (c.requestSerial ≠ some p.serial ∨ c.answered = true ∨ c.phase ≠ .asking ∧ c.phase ≠ .claiming ∨
          c.phase = .claiming ∧ (c.provisional = false ∨ c.heldReply.isSome = true)) → stale) ∧
      (∀ (n : LineNo) (x : Session), p.line.toNat = n.val → s.sign[n] = none → s.sess[n] = some x → s.roster[src].age < 3 →
        (x.provisional = false ∨ x.reason ≠ none ∨ ∀ q ∈ x.confirm, q.serial ≠ p.serial ∨ q.answered = true) → stale) ∧
      ∀ (n : LineNo) (c : Context),
        s.roster[src].roles.accountant = true → p.line.toNat = n.val → s.sign[n] = some c → c.requestSerial = some p.serial →
        c.answered = false →
        let a : Context := { c with answered := true }
        (c.phase = .asking →
          Leads (.admitReply t src p) s fun u =>
            u.echo = true ∧ u.roster[src].age = 0 ∧
              match (readReply p).verdict with
              | .accept =>
                u.sign[n] = some { a with
                    phase := .claiming, granted := some (readReply p).granted, replyWait := none,
                    sessionSerial := some s.sessionSerial, claimRaised := true } ∧
                  u.sessionSerial = s.sessionSerial + 1 ∧ (u.req (.claim n)).pending = true
              | .unknown =>
                if c.attempts + 1 < 3 then
                  u.sign[n] = some { a with phase := .user, attempts := c.attempts + 1, digits := [], code := [], replyWait := none } ∧
                    (OutputAtRest s → TextTaken s u n ⟨[.message 3, .message 1], none⟩)
                else
                  u.sign[n] = some { a with phase := .refusing, attempts := c.attempts + 1, signOnTimer := none, replyWait := none } ∧
                    u.asks[n].refuse = some ⟨[.message 3], none⟩
              | .barred | .hours | .quota =>
                u.sign[n] = some { a with phase := .refusing, signOnTimer := none, replyWait := none } ∧
                  u.asks[n].refuse = some ⟨[.message 4], none⟩) ∧
          ∀ g : Granted, c.phase = .claiming → c.provisional = true → c.heldReply = none → c.granted = some g →
            Leads (.admitReply t src p) s fun u =>
              u.echo = true ∧ u.roster[src].age = 0 ∧ u.sessionSerial = s.sessionSerial ∧
                if c.admitted = true then u.sign[n] = some { a with heldReply := some (readReply p) }
                else if (readReply p).verdict = .accept then
                  u.sign[n] = some { a with
                    granted := some { (readReply p).granted with channel := g.channel }, provisional := false, lateConfirmed := true }
                else
                  u.sign[n] = some { a with phase := .refusing, signOnTimer := none, replyWait := none } ∧
                    u.asks[n].refuse = some ⟨[.message 4], none⟩ ∧
                    (c.claimRaised = true →
                      u.claims[n].release = some ⟨c.user, c.sessionSerial.getD 0, .withdrawn⟩ ∧ (u.req (.release n)).pending = true)

/-- R52, R65, R66, R90, R155: the echo of an own CLAIM of kind NEW creates the own claim, and for a context in CLAIMING with its serial takes the
decision: the charge reservation (M7), the ceiling in force (M6) and the per-user limit (M5) in that order; a context that passes all three is
admitted, its sign-on timer stopped and the establish request made; of one refused the claim is withdrawn by a RELEASE. The request's strike count
returns to 0, and the discard streak for a frame addressed to 31. -/
def Obligations.ClaimDecisionChecksThreeLimits : Prop :=
  ∀ (t : Moment) (n : LineNo) (s : State) (w : WireFrame) (c : Context) (g : Granted) (prov : Bool) (serial : BitVec 16) (ch : Station),
    s.wire = some w → w.body = .claim n .new prov c.user serial ch → s.sign[n] = some c → c.phase = .claiming →
    c.sessionSerial = some serial → c.granted = some g →
    let counted : State := s.setClaims n { s.claims[n] with own := some ⟨c.user, serial⟩ }
    let refusedWith : Option (Fin 16) :=
      if 32 - s.queue.length < s.linesIn .session + s.otherAdmitted n + 1 then some 7
      else if s.ceiling < counted.standingTotal then some 6
      else if g.limit < counted.standingFor c.user then some 5
      else none
    Leads (.claimEchoed t) s fun u =>
      u.claims[n].own = some ⟨c.user, serial⟩ ∧ u.wire = none ∧ u.sup = s.sup ∧ (u.req w.req).strikes = 0 ∧
        u.streak = (if w.dest = .all then 0 else s.streak) ∧
        match refusedWith with
        | none =>
          u.sign[n] = some { c with admitted := true, signOnTimer := none } ∧ u.asks[n].establish = true ∧
            u.claims[n].release = s.claims[n].release
        | some m =>
          u.sign[n] = some { c with phase := .refusing, signOnTimer := none, replyWait := none } ∧
            u.asks[n].refuse = some ⟨[.message m], none⟩ ∧
            (c.claimRaised = true →
              u.claims[n].release = some ⟨c.user, serial, .withdrawn⟩ ∧ (u.req (.release n)).pending = true)

/-! ## Presence and roster (Chapter 4) -/

/-- R77: a CLAIM of another station, of whatever kind, inserts or replaces the entry of its station and line with age 0; one with a line above 15 or
a bad user number leaves the table as it stands, and so does one of the reserved kind (log entry 18). Whatever it carries, its sender's age becomes
0 (R86). -/
def Obligations.ClaimEntersThePresenceTable : Prop :=
  ∀ (t : Moment) (src : Station) (p : ClaimPayload) (s : State), s.loader = .running → src ≠ s.station →
    GivesHeard (.claim t src p) s
      (match lineOf p.line, userOf p.user, claimKindOf p.kind with
       | some n, some user, some _ =>
         { (s.at t).heard src with
           echo := (s.at t).canEcho
           presence := ⟨src, n, user, p.serial, 0⟩ :: s.presence.filter fun e => ¬(e.station = src ∧ e.line = n) }
       | _, _, _ => { (s.at t).heard src with echo := (s.at t).canEcho })

/-- R78: a RELEASE removes the entry with its station, line and session serial and no other; a stale or unmatched one leaves the table as it
stands, and WITHDRAWN acts as any other reason. -/
def Obligations.ReleaseRemovesOnlyItsOwnEntry : Prop :=
  ∀ (t : Moment) (src : Station) (p : ReleasePayload) (s : State), s.loader = .running → src ≠ s.station → p.reason.toNat ≤ 8 →
    GivesHeard (.release t src p) s
      { (s.at t).heard src with
        echo := (s.at t).canEcho
        presence := s.presence.filter fun e => ¬(e.station = src ∧ e.line.val = p.line.toNat ∧ e.serial = p.serial) }

/-- R84, R86, R88, R154, R159, R173: a BEACON replaces the sender's roles, ceiling, sign-ons and fresh-start mark with age 0; a fresh start purges the
sender's presence entries, and nobody else's. Any frame on the bus makes its sender's age 0 and nothing else: a RELEASE with a reserved reason (log
entry 18), and a frame no block takes; one addressed to this station alone is on the bus only if the LC-16 echoes it, so in SILENT a frame of whatever
such kind takes no effect. Before the other blocks are started no frame of any kind is taken: nothing but the clock of the model changes (R154; an own
LINE-STATE is on no wire then, `LoadingOk`). A frame that a command gives the own number changes nothing either (log entry 40), a LINE-STATE apart
(`LineStateSetsItsSlots`). -/
def Obligations.RosterFollowsFrames : Prop :=
  ∀ (t : Moment) (src : Station) (s : State),
    (∀ p : BeaconPayload, s.loader = .running → src ≠ s.station →
      Leads (.beacon t src p) s fun u =>
        u.roster =
            s.roster.set src
              ⟨⟨p.roles.getLsbD 0, p.roles.getLsbD 1, p.roles.getLsbD 2, p.roles.getLsbD 3⟩, 0, decide (p.freshStart ≠ 0),
                p.levelCeiling.toNat % 4096, min 16 p.signOns.toNat⟩ ∧
          u.presence = (if p.freshStart ≠ 0 then s.presence.filter fun e => e.station ≠ src else s.presence) ∧
          u.sup = s.sup ∧ u.sign = s.sign ∧ u.clock = s.clock ∧ u.slots = s.slots) ∧
      (∀ p : ReleasePayload, s.loader = .running → src ≠ s.station → 8 < p.reason.toNat →
        GivesHeard (.release t src p) s { (s.at t).heard src with echo := decide (s.bus ≠ .silent) }) ∧
      ∀ dest : BitVec 5,
        (s.loader = .running → src ≠ s.station → dest.toNat = s.station.val →
            GivesHeard (.frameOnBus t src dest) s
              (if s.bus = .silent then { s.at t with echo := false } else { (s.at t).heard src with echo := true })) ∧
          (s.loader = .running → src ≠ s.station → dest.toNat ≠ s.station.val → (dest.toNat < 16 ∨ 30 ≤ dest.toNat) →
            GivesHeard (.frameOnBus t src dest) s
              { (s.at t).heard src with echo := decide (dest.toNat = 31 ∧ s.bus ≠ .silent) }) ∧
          ∀ (line state flags minor serial : Byte) (arg minute : BitVec 16) (chars : List Byte) (beacon : BeaconPayload) (claim : ClaimPayload)
            (release : ReleasePayload) (reply : ReplyPayload) (f : RawFrame) (cut own : Bool),
            (∀ c ∈ [Instr.frameOnBus t src dest, .beacon t src beacon, .claim t src claim, .release t src release, .survey t src,
                .time t src minute minor, .flow t src line state, .dataOut t src line flags chars, .admitReply t src reply,
                .chargeAck t src serial, .orderForceOff t src line arg, .orderOut t src line arg, .orderIn t src line arg,
                .orderProve t src line arg, .orderDrain t src line arg, .orderUndrain t src line arg, .orderNotice t src line arg,
                .orderRestart t src line arg, .orderReport t src line arg],
              (s.loader ≠ .running → exec c s = .next (s.at t)) ∧ (src = s.station → Gives c s (s.at t))) ∧
            (s.loader = .running → src ≠ s.station → s.bus = .silent →
              ∀ c ∈ [Instr.flow t src line state, .dataOut t src line flags chars, .admitReply t src reply, .chargeAck t src serial,
                  .orderForceOff t src line arg, .orderOut t src line arg, .orderIn t src line arg, .orderProve t src line arg,
                  .orderDrain t src line arg, .orderUndrain t src line arg, .orderNotice t src line arg, .orderRestart t src line arg,
                  .orderReport t src line arg],
                Gives c s { s.at t with echo := false }) ∧
            (s.loader ≠ .running →
              (src ≠ s.station ∨ s.wire = none → exec (.lineState t src line flags) s = .next (s.at t)) ∧
                exec (.receiveFault t f cut own) s = .next (s.at t) ∧ exec (.numberClash t) s = .next (s.at t))

/-- R42, R60, R69, R80, R82, R83, R85, R87, R88, R127, R129, R133, R156, R161: a SURVEY raises a CLAIM request for every line in SESSION, with its
survey-owed mark, a FLOW request for every line in SESSION in HOLD, and the LINE-STATE request of every forwarded line. A refresh period raises the
same requests and leaves the mark of every line as it stands, ages every presence entry and tag slot, removes and counts the entries that reach 3, and
starts the timer again. The presence ageing is an event of its own, so a forwarded line whose signals it changes has its LINE-STATE request raised at
it and raised again by the refresh, which is coalesced and counted (stated where nothing else is coalesced: no request pending and no session). The
presence ageing comes before or after the ageing of the tag slots (log entries 10, 16). At a refresh period every provisional session that may asks
again for its confirmation: with k of them asking they take the next k request serials, each line another of them, and the counter stands behind the
last; one that END closes at this same event has asked by then. So do they at the beacon with which an accountant turns present. A beacon period ages
every roster entry but the own, stopping at 3, raises the LC-16's beacon and starts the timer again. The periods start again from the moment of the
command (log entry 27). -/
def Obligations.SurveysAndPeriodsReannounce : Prop :=
  ∀ (t : Moment) (s : State),
    let unconfirmed (x : Session) : Bool :=
      x.provisional && x.reason.isNone && !s.cfg.noAccountant && (x.confirm.all fun c => c.wait.isNone)
    let asking : List LineNo := allLines.filter fun n => s.sess[n].any unconfirmed
    let confirmed (u : State) : Prop :=
      u.requestSerial = s.requestSerial + BitVec.ofNat 8 asking.length ∧
        ∃ k : LineNo → Nat,
          (∀ n ∈ asking, k n < asking.length) ∧ (∀ n ∈ asking, ∀ m ∈ asking, k n = k m → n = m) ∧
            ∀ (n : LineNo) (x : Session), s.sess[n] = some x → unconfirmed x = true →
              (u.req (.admitReq n)).pending = true ∧ u.claims[n].admitConfirm = true ∧
                ∃ y : Session, u.sess[n] = some y ∧ (x.endMark = false → y.reason = none) ∧
                  (y.reason = none →
                    y.confirm =
                      some ⟨s.requestSerial + BitVec.ofNat 8 (k n), some (max s.now t + 1000 * s.cfg.replyWait), false⟩)
    (∀ src : Station, s.loader = .running → src ≠ s.station →
      Leads (.survey t src) s fun u =>
        (∀ n : LineNo, s.st n = .session → (u.req (.claim n)).pending = true ∧ u.claims[n].surveyOwed = true) ∧
          (∀ n : LineNo, s.st n ≠ .session → u.claims[n].surveyOwed = s.claims[n].surveyOwed) ∧
          (∀ n : LineNo, s.st n = .session → s.path[n].flow = some .hold → (u.req (.flow n)).pending = true) ∧
          (∀ (n : LineNo) (tag : Fin 64), s.cfg.tags[n] = some tag → (u.req (.lineState tag)).pending = true) ∧
          u.presence = s.presence ∧ u.sup = s.sup ∧ u.sign = s.sign) ∧
    (∀ d : Moment, d ≤ max s.now t → s.loader = .running → s.refreshTimer = some d →
      Leads (.refreshTimerExpiry t) s fun u =>
        u.refreshTimer = some (max s.now t + 1000 * s.cfg.refreshPeriod) ∧
          u.presence = (s.presence.map fun e => { e with age := e.age + 1 }).filter (fun e => e.age < 3) ∧
          u.counters.agedOutEntries =
            (s.presence.filter fun e => 3 ≤ e.age + 1).foldl (fun k _ => sat16 k) s.counters.agedOutEntries ∧
          (∀ i : Fin 32, ∀ tag, s.cfg.slots[i].source = .tag tag →
            u.slots[i].value = s.slots[i].value ∧ u.slots[i].age = min 3 (s.slots[i].age + 1)) ∧
          (∀ n : LineNo, s.st n = .session → (u.req (.claim n)).pending = true) ∧
          (∀ n : LineNo, u.claims[n].surveyOwed = s.claims[n].surveyOwed) ∧
          (∀ n : LineNo, s.st n = .session → s.path[n].flow = some .hold → (u.req (.flow n)).pending = true) ∧
          (∀ (n : LineNo) (tag : Fin 64), s.cfg.tags[n] = some tag → (u.req (.lineState tag)).pending = true) ∧
          ((∃ i : Station, s.roster[i].age < 3 ∧ s.roster[i].roles.accountant = true) → confirmed u) ∧
          ((∀ i : Station, ¬(s.roster[i].age < 3 ∧ s.roster[i].roles.accountant = true)) → u.requestSerial = s.requestSerial) ∧
          (s.reqs = [] → (∀ n : LineNo, s.st n ≠ .session ∧ s.sess[n] = none) → OffersOk s → crossOk s.cfg →
            let raisedTwice (slots : Vector SlotState 32) : List LineNo :=
              allLines.filter fun n =>
                (s.cfg.tags[n]).isSome ∧
                  State.signals { s.at t with presence := u.presence, slots := slots } n ≠ State.signals { s.at t with slots := slots } n
            ∃ slots ∈ [s.slots, u.slots],
              u.counters.requestsCoalesced = (raisedTwice slots).foldl (fun k _ => sat16 k) s.counters.requestsCoalesced) ∧
          u.sup = s.sup ∧ u.sign = s.sign ∧ u.roster = s.roster) ∧
      (∀ (src : Station) (p : BeaconPayload), s.loader = .running → src ≠ s.station → p.roles.getLsbD 1 = true →
        (¬(s.roster[src].age < 3 ∧ s.roster[src].roles.accountant = true) ∨
          s.roster[src].freshSeen = false ∧ p.freshStart ≠ 0) →
        Leads (.beacon t src p) s confirmed) ∧
      (∀ d : Moment, d ≤ max s.now t → s.beaconTimer = some d →
        Leads (.beaconPeriodExpiry t) s fun u =>
          u.beaconTimer = some (max s.now t + 10000) ∧ (u.req .beacon).pending = true ∧
            (∀ i : Station,
              u.roster[i] = if i = s.station then s.roster[i] else { s.roster[i] with age := min 3 (s.roster[i].age + 1) }) ∧
            u.sup = s.sup ∧ u.sign = s.sign ∧ u.presence = s.presence)

/-! ## Metering (Chapter 5) -/

/-- R94, R95, R96, R97, R101: which edges and expiries are ticks, and what each does to the timebase supervisor. Any other edge or expiry is no tick:
an edge 500 ms or less after the last tick, a candidate edge, a returning edge too soon after the last tick, an expiry before its moment or in the
other mode (log entries 2, 4). At such a one the clock and every meter, idle timer, grace counter and hold counter stand. The divider's next expiry
counts from the moment the last fell due (log entry 27). -/
def Obligations.TimebaseFollowsFailsAndReturns : Prop :=
  ∀ (t : Moment) (s : State),
    let b := s.timebase
    let now := max s.now t
    let tickDue : Prop := ∀ l ∈ b.lastTick, l + 500 < now
    let returned : Prop := ∃ c ∈ b.candidate, c + 900 ≤ now ∧ now ≤ c + 1100
    let noTick (c : Instr) (after : Timebase) : Prop :=
      Gives c s { s.at t with timebase := after } ∧
        Leads c s fun u =>
          u.clock = s.clock ∧ (HoldOk s → ∀ n : LineNo, u.sess[n].map Session.hold = s.sess[n].map Session.hold)
    (b.mode = .following → ¬tickDue → noTick (.tbRisingEdge t) b) ∧
      (b.mode = .fault → ¬returned → noTick (.tbRisingEdge t) { b with candidate := some now }) ∧
      (b.mode = .fault → returned → ¬tickDue →
        noTick (.tbRisingEdge t) ⟨.following, b.lastTick, some (now + 1500), none, none⟩) ∧
      (b.mode = .fault ∨ fallenDue b.watch now = false → noTick (.watchTimerExpiry t) b) ∧
      (b.mode = .following ∨ fallenDue b.divider now = false → noTick (.internalDividerTick t) b) ∧
      (b.mode = .following →
        Leads (.tbRisingEdge t) s fun u =>
          (tickDue → u.timebase = { b with lastTick := some now, watch := some (now + 1500) }) ∧ (¬tickDue → u.timebase = b)) ∧
      (b.mode = .fault →
        Leads (.tbRisingEdge t) s fun u =>
          (returned → u.timebase =
            ⟨.following, if b.lastTick.all (fun l => l + 500 < now) then some now else b.lastTick, some (now + 1500), none, none⟩) ∧
          (¬returned → u.timebase = { b with candidate := some now })) ∧
      (∀ d, b.mode = .following → b.watch = some d → d ≤ now →
        Leads (.watchTimerExpiry t) s fun u => u.timebase = ⟨.fault, some now, none, some (now + 1000), none⟩) ∧
      ∀ d, b.mode = .fault → b.divider = some d → d ≤ now →
        Leads (.internalDividerTick t) s fun u =>
          u.timebase = { b with lastTick := some now, divider := some (d + 1000) }

/-- R70, R96, R97, R99, R101 to R107, R110: at a tick, from whichever of its sources (an edge, an expiry of the watch timer or of the divider, or the
edge with which the reference returns), every session that is neither closing nor held is metered at the rate of its band, with SATURATED set where
the units or the duration reach past their top. Its new remaining allowance warns, sets the grace counter, or closes it; a grace counter that stood
before the tick falls, and closes it at 0; and unless that has closed it, the idle timer falls, warns at 60 and closes at 0. A held session keeps its
meter, its allowance, its grace counter and its idle timer, and its hold counter rises, to the channel-loss limit; a closing one keeps everything; and
the clock advances by one second. Each notice is taken, stated for the only one of its session at the tick and a transmitter that is sending (log
entry 9 for the closes). The failure of the reference sets TIMEBASE in every session record, a closing one's too, and no other tick sets or clears it
(R95). -/
def Obligations.TickMetersEverySession : Prop :=
  ∀ (c : Instr) (t : Moment) (s : State),
    (c = .tbRisingEdge t ∧ s.timebase.mode = .following ∧ (∀ l ∈ s.timebase.lastTick, l + 500 < max s.now t) ∨
      c = .tbRisingEdge t ∧ s.timebase.mode = .fault ∧ (∀ l ∈ s.timebase.lastTick, l + 500 < max s.now t) ∧
        (∃ e ∈ s.timebase.candidate, e + 900 ≤ max s.now t ∧ max s.now t ≤ e + 1100) ∨
      c = .watchTimerExpiry t ∧ s.timebase.mode = .following ∧ (∃ d ∈ s.timebase.watch, d ≤ max s.now t) ∨
      c = .internalDividerTick t ∧ s.timebase.mode = .fault ∧ (∃ d ∈ s.timebase.divider, d ≤ max s.now t)) →
    Leads c s fun u =>
      u.clock.unset = s.clock.unset ∧
        u.clock.second = (if s.clock.second + 1 < 60 then s.clock.second + 1 else 0) ∧
        u.clock.minute =
          (if s.clock.second + 1 < 60 then s.clock.minute else if s.clock.minute + 1 < 10080 then s.clock.minute + 1 else 0) ∧
        u.sup = s.sup ∧ u.sign = s.sign ∧
        ∀ (n : LineNo) (x : Session), s.sess[n] = some x →
          ∃ y : Session, u.sess[n] = some y ∧ y.user = x.user ∧ y.serial = x.serial ∧ y.table = x.table ∧
            y.timebase = (x.timebase || decide (c = .watchTimerExpiry t)) ∧
            (x.reason = none ∧ x.hold = none →
              let rate := rateAt s.cfg.tariffs[x.table] s.clock.minute
              let produced := (x.residue + rate) / 3600
              let left := x.remaining.map (· - produced)
              let warns : Prop := left ≠ x.remaining ∧ x.warned = false ∧ ∃ r ∈ left, 0 < r ∧ r ≤ s.cfg.warnThreshold
              let exhausts : Prop := left ≠ x.remaining ∧ left = some 0 ∧ x.grace = none
              let closes : Prop := exhausts ∧ s.cfg.graceTime = 0 ∨ ∃ g ∈ x.grace, g ≤ 1
              let noticed (m : Fin 16) : Prop :=
                s.st n = .session → s.entersHold n = false → s.path[n].slot = none → s.path[n].tx.isSome = true →
                  TextAppendedOrWaits s.cfg ⟨[.message m], none⟩ s.path[n] u.path[n]
              y.residue = (x.residue + rate) % 3600 ∧ y.duration = min 16777215 (x.duration + 1) ∧
                y.units = min 16777215 (x.units + produced) ∧ y.remaining = left ∧
                y.saturated = (x.saturated || decide (16777215 < x.units + produced ∨ 16777215 ≤ x.duration)) ∧
                (warns → y.warned = true) ∧ (¬warns → y.warned = x.warned) ∧
                (exhausts ∧ 0 < s.cfg.graceTime → y.grace = some s.cfg.graceTime) ∧
                (¬(exhausts ∧ 0 < s.cfg.graceTime) → y.grace = x.grace.map (· - 1)) ∧
                (closes → y.idle = x.idle ∧ y.reason = some .allowance ∧ u.asks[n].close = true) ∧
                (¬closes → y.idle = x.idle.map (· - 1)) ∧
                (¬closes → x.idle = some 1 → y.reason = some .idle ∧ u.asks[n].close = true) ∧
                (¬closes → x.idle ≠ some 1 → x.endMark = false → y.reason = none) ∧
                (warns → x.idle ≠ some 61 → noticed 10) ∧ (exhausts → 0 < s.cfg.graceTime → x.idle ≠ some 61 → noticed 11) ∧
                (¬warns → ¬exhausts → ¬closes → x.idle = some 61 → noticed 12)) ∧
            (x.reason ≠ none ∨ x.hold ≠ none →
              y.residue = x.residue ∧ y.duration = x.duration ∧ y.units = x.units ∧ y.remaining = x.remaining ∧
                y.grace = x.grace ∧ y.idle = x.idle ∧ y.saturated = x.saturated) ∧
            ∀ h : Nat, x.reason = none → x.hold = some h →
              ¬(s.roster[x.channel].age < 3 ∧ s.roster[x.channel].roles.channel = true) ∨ s.bus ≠ .active →
              y.hold = some (h + 1) ∧
                (60 * s.cfg.channelLoss ≤ h + 1 → y.reason = some .channelLost ∧ u.asks[n].close = true) ∧
                (h + 1 < 60 * s.cfg.channelLoss → x.endMark = false → y.reason = none)

/-- R105, R106, R112: a change of the remaining allowance warns once, at or below the threshold and above 0; at 0 with no grace counter it sets the
grace counter and takes M11, or closes with ALLOWANCE when the grace time is 0; an unlimited allowance does neither. Finishing the meter rounds
half up, saturating, and then raises the units to the minimum charge of the session's table. -/
def Obligations.AllowanceIsTestedAndMeterFinished : Prop :=
  ∀ (cfg : Configuration) (x : Session),
    (x.remaining = none → x.testAllowance cfg = ⟨x, [], none⟩) ∧
      (x.remaining = some 0 → x.grace = none → 0 < cfg.graceTime →
        x.testAllowance cfg = ⟨{ x with grace := some cfg.graceTime }, [11], none⟩) ∧
      (x.remaining = some 0 → x.grace = none → cfg.graceTime = 0 → x.testAllowance cfg = ⟨x, [], some .allowance⟩) ∧
      (x.remaining = some 0 → x.grace ≠ none → x.testAllowance cfg = ⟨x, [], none⟩) ∧
      (∀ r, x.remaining = some (r + 1) →
        x.testAllowance cfg =
          if r + 1 ≤ cfg.warnThreshold ∧ x.warned = false then ⟨{ x with warned := true }, [10], none⟩ else ⟨x, [], none⟩) ∧
      (x.units ≤ 16777215 →
        let up := if 1800 ≤ x.residue then 1 else 0
        (x.finish cfg).units = max (min 16777215 (x.units + up)) cfg.tariffs[x.table].minimum ∧
          (x.finish cfg).duration = x.duration ∧
          (x.finish cfg).saturated = (x.saturated || decide (1800 ≤ x.residue ∧ x.units = 16777215)))

/-- R70, R71, R107, R110: a session that stands at its idle, grace or channel-loss limit with no close reason set closes with IDLE, ALLOWANCE or
CHANNEL-LOST, and the close request waits to be taken; a session already closing keeps its reason. That the event by itself closes a session that
stands at the limit is the model's reading (log entry 9). R109, R111: after every command a session with no close reason is held exactly while its
channel station is absent or the bus is not ACTIVE. At a beacon, a frame heard, a beacon period, a strike with its discard, a number clash and the
joining beacon a session that becomes held has its hold counter at 0, HELD set and M13 taken; one held already keeps its counter; one whose hold ends
has no counter; and HELD, once set, stays. M13 is stated for a line with no text waiting and a transmitter that is sending. -/
def Obligations.LimitsCloseTheSession : Prop :=
  (∀ (t : Moment) (n : LineNo) (s : State) (x : Session), s.sess[n] = some x →
    (∀ (c : Instr) (r : CloseReason),
      (c = .idleTimerExpiry t n ∧ x.idle = some 0 ∧ r = .idle ∨
        c = .graceExpiry t n ∧ x.grace = some 0 ∧ r = .allowance ∨
        c = .channelLossLimit t n ∧ (∃ h ∈ x.hold, 60 * s.cfg.channelLoss ≤ h) ∧ r = .channelLost) →
      x.reason = none →
      Leads c s fun u =>
        u.sess[n] = some { x with reason := some r, confirm := none } ∧ u.asks[n].close = true ∧ u.kept = (s.at t).kept) ∧
      (x.reason ≠ none →
        Gives (.idleTimerExpiry t n) s (s.at t) ∧ Gives (.graceExpiry t n) s (s.at t) ∧ Gives (.channelLossLimit t n) s (s.at t))) ∧
    (∀ (c : Instr) (s u : State), HoldOk s → exec c s = .next u → HoldOk u) ∧
    ∀ (t : Moment) (src : Station) (p : BeaconPayload) (dest : BitVec 5) (s : State), HoldOk s → s.loader = .running →
      ∀ c ∈ [Instr.beacon t src p, .frameOnBus t src dest, .beaconPeriodExpiry t, .strike t, .numberClash t, .joiningBeaconEchoed t],
        Leads c s fun u =>
          ∀ (n : LineNo) (x : Session), s.sess[n] = some x → x.reason = none →
            let held : Prop := ¬(u.roster[x.channel].age < 3 ∧ u.roster[x.channel].roles.channel = true) ∨ u.bus ≠ .active
            ∃ y : Session, u.sess[n] = some y ∧ y.channel = x.channel ∧ (held → y.held = (x.held || x.hold.isNone)) ∧
              (held → y.hold = some (x.hold.getD 0)) ∧ (¬held → y.hold = none ∧ y.held = x.held) ∧
              (held → x.hold = none → s.st n = .session → s.path[n].slot = none → s.path[n].tx.isSome = true →
                TextAppendedOrWaits s.cfg ⟨[.message 13], none⟩ s.path[n] u.path[n]) ∧
              y.units = x.units ∧ y.residue = x.residue ∧ y.duration = x.duration ∧ y.remaining = x.remaining ∧ y.grace = x.grace ∧
              y.idle = x.idle

/-- R98: a TIME frame whose source announces CLOCK and whose values lie in their ranges sets the station clock and clears clock-unset; any other
leaves it; and no session record, start minute or flag changes. -/
def Obligations.TimeSetsTheClock : Prop :=
  ∀ (t : Moment) (src : Station) (minute : BitVec 16) (second : Byte) (s : State), s.loader = .running → src ≠ s.station →
    GivesHeard (.time t src minute second) s
      (if s.roster[src].roles.clock = true ∧ minute.toNat ≤ 10079 ∧ second.toNat ≤ 59 then
         { (s.at t).heard src with echo := (s.at t).canEcho, clock := ⟨minute.toNat, second.toNat, false⟩ }
       else { (s.at t).heard src with echo := (s.at t).canEcho })

/-! ## Charge records (Chapter 6) -/

/-- R115: the record serial counter is 0 after power-up and a restart with no session leaves it. A record takes the first value from the counter on
that no record in the queue bears, and the counter then stands one past it; with at most 32 records in the queue one of 33 values is free. -/
def Obligations.RecordSerialPassesOverBearers : Prop :=
  (∀ (t : Moment) (s : State),
      Leads (.powerUpReset t) s (fun u => u.recordSerial = 0) ∧
        ((∀ n : LineNo, s.sess[n] = none) → s.restartPin = false → s.loader ≠ .powerUp →
          Leads (.restartPinAsserted t) s fun u => u.recordSerial = s.recordSerial)) ∧
    ∀ (s : State) (n : LineNo) (x : Session) (r : CloseReason), s.queue.length ≤ 32 →
      ∃ k : Nat, k ≤ 32 ∧
        (∀ j < k, ∃ q ∈ s.queue, q.charge.serial = s.recordSerial + BitVec.ofNat 8 j) ∧
        (∀ q ∈ s.queue, q.charge.serial ≠ s.recordSerial + BitVec.ofNat 8 k) ∧
        (s.appendCharge n x r).recordSerial = s.recordSerial + BitVec.ofNat 8 k + 1 ∧
        (s.appendCharge n x r).queue = s.queue ++ [⟨chargeOf (s.recordSerial + BitVec.ofNat 8 k) n x r, false, none⟩]

/-- R86, R121: an acknowledgement from an accountant removes the record with its serial wherever it stands, and no other; any other is stale and
counted. -/
def Obligations.AcknowledgementRemovesItsRecord : Prop :=
  ∀ (t : Moment) (src : Station) (serial : BitVec 8) (s : State),
    s.loader = .running → src ≠ s.station → s.bus = .joining ∨ s.bus = .active →
    GivesHeard (.chargeAck t src serial) s
      (if s.roster[src].roles.accountant = true ∧ (s.queue.any fun r => decide (r.charge.serial = serial)) = true then
         { (s.at t).heard src with echo := true, queue := s.queue.filter fun r => r.charge.serial ≠ serial }
       else State.count { (s.at t).heard src with echo := true } .staleReplies)

/-- R86, R88, R118, R120, R123: the expiry of an offered record's ack wait raises its CHARGE request again and starts the wait again, from the moment
of the command (log entry 27); the echo of its CHARGE frame starts the wait again, frees the transmitter and puts the request's strikes at 0. Neither
removes or changes a record. The beacon with which an accountant turns present offers the oldest four records, each with a request and an ack wait; a
beacon period that leaves no accountant present ends every offer; and after every command that finds them so the offers are as many as may stand. -/
def Obligations.OffersAreRepeatedUntilAcknowledged : Prop :=
  (∀ (t : Moment) (s : State) (q : Queued) (before after : List Queued),
    s.loader = .running → (∃ i : Station, s.roster[i].age < 3 ∧ s.roster[i].roles.accountant = true) →
    s.queue = before ++ q :: after → (∀ r ∈ before, r.charge.serial ≠ q.charge.serial) → q.offered = true →
    (∀ d : Moment, q.ackWait = some d → d ≤ max s.now t →
      Leads (.ackWaitExpiry t q.charge.serial) s fun u =>
        (u.req (.charge q.charge.serial)).pending = true ∧ ⟨q.charge, true, some (max s.now t + 5000)⟩ ∈ u.queue ∧
          u.queue.map Queued.charge = s.queue.map Queued.charge ∧ u.kept = (s.at t).kept) ∧
      ∀ (w : WireFrame) (c : Charge), s.wire = some w → w.body = .charge c → c.serial = q.charge.serial →
        Leads (.chargeEchoed t) s fun u =>
          u.wire = none ∧ (u.req w.req).strikes = 0 ∧ u.streak = (if w.dest = .all then 0 else s.streak) ∧
            ⟨q.charge, true, some (max s.now t + 5000)⟩ ∈ u.queue ∧
            u.queue.map Queued.charge = s.queue.map Queued.charge ∧ u.sup = s.sup) ∧
    (∀ (t : Moment) (src : Station) (p : BeaconPayload) (s : State), s.loader = .running → src ≠ s.station →
      p.roles.getLsbD 1 = true → (∀ r ∈ s.queue, r.offered = false) →
      Leads (.beacon t src p) s fun u =>
        u.queue =
            (s.queue.take 4).map (fun r => ⟨r.charge, true, some (max s.now t + 5000)⟩) ++ s.queue.drop 4 ∧
          ∀ r ∈ s.queue.take 4, (u.req (.charge r.charge.serial)).pending = true) ∧
    (∀ (t : Moment) (s : State) (d : Moment), s.loader = .running → s.beaconTimer = some d → d ≤ max s.now t →
      (∀ i : Station, s.roster[i].roles.accountant = true → 3 ≤ if i = s.station then s.roster[i].age else s.roster[i].age + 1) →
      Leads (.beaconPeriodExpiry t) s fun u => u.queue = s.queue.map fun r => ⟨r.charge, false, none⟩) ∧
    ∀ (c : Instr) (s u : State), OffersOk s → exec c s = .next u → OffersOk u

/-! ## Group status (Chapter 7) -/

/-- R127, R129, R132, R155: at whatever command changes one of the five signals of a forwarded line (BUSY, OUT, SESSION, FAULT, MB), the LINE-STATE
request of its tag is pending after it (raised once for a line and event, log entry 16). A LINE-STATE of another station sets every slot watching its
tag to the frame's value of the slot's signal, with age 0, and no other slot; the own frame's echo does the same with the values it carries, whatever
the command carries beside it (log entry 40), and puts the request's strike count and, for a frame addressed to 31, the discard streak at 0. -/
def Obligations.LineStateSetsItsSlots : Prop :=
  (∀ (c : Instr) (s u : State), exec c s = .next u → s.loader = .running → u.loader = .running →
    let signals (s : State) (n : LineNo) : List Bool :=
      [decide (s.st n ≠ .idle ∧ s.st n ≠ .out), decide (s.st n = .out), decide (s.st n = .session), s.sup[n].fault, s.mb n]
    ∀ (n : LineNo) (tag : Fin 64), s.cfg.tags[n] = some tag → signals s n ≠ signals u n → (u.req (.lineState tag)).pending = true) ∧
  ∀ (t : Moment) (s : State), s.loader = .running →
    let noted (tag : Nat) (g : Signals) : Vector SlotState 32 :=
      mapTable s.slots fun i x =>
        match s.cfg.slots[i].source with
        | .tag k => if k.val = tag then ⟨g.value s.cfg.slots[i].signal, 0⟩ else x
        | .unused | .line _ => x
    (∀ (src : Station) (tag signals : Byte), src ≠ s.station →
      GivesHeard (.lineState t src tag signals) s
        { (s.at t).heard src with echo := (s.at t).canEcho, slots := noted tag.toNat (signalsOf signals) }) ∧
      ∀ (tag signals : Byte) (w : WireFrame) (k : Fin 64) (g : Signals), s.wire = some w → w.body = .lineState k g →
        Leads (.lineState t s.station tag signals) s fun u =>
          u.slots = noted k.val g ∧ u.wire = none ∧ (u.req w.req).strikes = 0 ∧ u.sup = s.sup ∧
            u.streak = if w.dest = .all then 0 else s.streak

/-! ## Line proving (Chapter 8) -/

/-- R7, R17, R143, R144, R150, R151: the begin-proving move from IDLE or OUT, or an ABORTED result with its RESULT request where the request finds the
line elsewhere (several wait in their order, log entry 30); and the line's move out of PROVING by the verdict of its run, to IDLE only when the run
passed, began in IDLE, and out-pending is clear; with RI active on that entry to IDLE a burst measurement begins. -/
def Obligations.ProvingBeginsAndEnds : Prop :=
  ∀ (t : Moment) (n : LineNo) (s : State),
    (∀ (b : BeginAsk) (rest : List BeginAsk), s.asks[n].begin = b :: rest →
      (s.st n = .idle ∨ s.st n = .out →
        Gives (.beginProving t n) s
          ((((s.at t).setAsks n { s.asks[n] with begin := rest }).setSup n
              { LineRec.fresh .proving s.sup[n].ri s.sup[n].cd with
                fault := s.sup[n].fault, outPending := s.sup[n].outPending }).setRun n
            { Run.fresh with
              phase := .waiting
              origin := b.origin
              station := b.station
              duration := b.duration
              speed := highestSpeed (s.group n)
              carrierWait := some (max s.now t + 5000)
              qual := if s.sup[n].cd then some (max s.now t) else none })) ∧
        (s.st n ≠ .idle → s.st n ≠ .out →
          Gives (.beginProving t n) s
            (((s.at t).setAsks n { s.asks[n] with begin := rest }).setResult n
              (some ⟨b.station, .aborted, highestSpeed (s.group n), 0, 0, 0, false⟩)) ∧
            Leads (.beginProving t n) s fun u => (u.req (.runResult n)).pending = true)) ∧
      ∀ v : ProvingVerdict, s.asks[n].endRun = some v → s.st n = .proving →
        Leads (.endProving t n) s fun u =>
          u.st n = (if v = .pass ∧ s.run[n].origin = .idle ∧ s.sup[n].outPending = false then .idle else .out) ∧
            u.sup[n].fault = decide (v ≠ .pass) ∧
            u.sup[n].burst = (if u.st n = .idle ∧ s.sup[n].ri = true then some (s.sup[n].burst.getD (max s.now t)) else none) ∧
            u.dtr n = false ∧ u.tst n = false ∧ u.run = s.run ∧ u.sign = s.sign ∧
            ∀ m : LineNo, m ≠ n → u.sup[m] = s.sup[m]

/-- R145, R146, R149, R151: when the carrier of a waiting run qualifies, the run is RUNNING with its timer started, the first character FFh of the
pattern is being sent, and the generator is past it; a run ends with NO-CARRIER, with CARRIER-LOST, or at its timer by its counts; each end fills the
result record and raises its RESULT. -/
def Obligations.ProvingRunsToAVerdict : Prop :=
  ∀ (t : Moment) (n : LineNo) (s : State),
    let r := s.run[n]
    let now := max s.now t
    (s.st n = .proving → r.phase = .waiting → s.sup[n].cd = true → (∃ b ∈ r.qual, b + s.cfg.times.carrierQualify ≤ now) →
        Gives (.provingCarrierQualified t n) s
          ((s.at t).setRun n { r with
            phase := .running
            carrierWait := none
            qual := none
            runTimer := some (now + 1000 * r.duration)
            generator := (patternBits 8 (BitVec.allOnes 9)).2
            checker := 0
            loaded := 0 }) ∧
          Leads (.provingCarrierQualified t n) s fun u => u.path[n].tx = some 0xFF) ∧
      ∀ (c : Instr) (v : ProvingVerdict),
        (c = .provingCarrierWaitExpiry t n ∧ r.phase = .waiting ∧ (∃ d ∈ r.carrierWait, d ≤ now) ∧ v = .noCarrier ∨
          c = .provingCarrierLost t n ∧ r.phase = .running ∧ s.sup[n].cd = false ∧
            (∃ b ∈ r.dropout, b + s.cfg.times.carrierLoss ≤ now) ∧ v = .carrierLost ∨
          c = .runTimerExpiry t n ∧ r.phase = .running ∧ (∃ d ∈ r.runTimer, d ≤ now) ∧
            v = (if r.lockReached = false then .noLock else if r.errored ≤ s.cfg.passThreshold then .pass else .fail)) →
        Leads c s fun u =>
          u.result[n] = some ⟨r.station, v, r.speed, r.checked, r.errored, r.lockLosses, r.lockReached⟩ ∧
            u.run[n].phase = .none ∧ u.run[n].locked = false ∧ u.run[n].checked = r.checked ∧ u.run[n].errored = r.errored ∧
            (s.st n = .proving → u.path[n].tx = none) ∧ u.asks[n].endRun = some v ∧
            (u.req (.runResult n)).pending = true ∧ u.sup = s.sup

/-- R147, R148: a character of a run changes only that line's run record. Its bits enter the register, least significant first, the last of them in
stage 1. While fewer than nine stages are loaded they are counted as loaded, and a character with a loading bit changes nothing else. With the
register loaded the character is clean if each bit is the bit nine places before it exclusive-ORed with the one five places before it and it is not
badly framed. Unlocked, a clean character adds 1 to the clean run, of which the sixteenth brings lock with lock reached set and both runs at 0, and an
errored one puts it at 0. Locked, every character is counted; a clean one puts the errored run at 0; an errored one is counted and adds 1 to it, of
which the eighth loses lock, is counted as a loss and empties the register. Nothing else of the run changes. -/
def Obligations.CheckerClassesCharacters : Prop :=
  (∀ (t : Moment) (n : LineNo) (data : Byte) (bad : Bool) (s : State),
    Gives (.provingCharacterReceived t n data bad) s
      (if s.run[n].phase = .running then (s.at t).setRun n (s.run[n].character data bad) else s.at t)) ∧
    ∀ (data : Byte) (bad : Bool) (r : Run),
      let u := r.character data bad
      let shifted := { r with checker := u.checker }
      let clean : Prop :=
        bad = false ∧
          ∀ i : Fin 8,
            data.getLsbD i =
              (r.checker.getLsbD (8 - i) ^^ (if i.val < 5 then r.checker.getLsbD (4 - i) else data.getLsbD (i - 5)))
      (∀ i : Fin 8, u.checker.getLsbD i = data.getLsbD (7 - i)) ∧ u.checker.getLsbD 8 = r.checker.getLsbD 0 ∧
        (r.loaded < 9 → u = { shifted with loaded := min 9 (r.loaded + 8) }) ∧
        (9 ≤ r.loaded → r.locked = false →
          (clean → r.cleanRun + 1 < 16 → u = { shifted with cleanRun := r.cleanRun + 1 }) ∧
            (clean → 16 ≤ r.cleanRun + 1 →
              u = { shifted with locked := true, lockReached := true, cleanRun := 0, erroredRun := 0 }) ∧
            (¬clean → u = { shifted with cleanRun := 0 })) ∧
        (9 ≤ r.loaded → r.locked = true →
          let counted := { shifted with checked := min 16777215 (r.checked + 1) }
          (clean → u = { counted with erroredRun := 0 }) ∧
            (¬clean → r.erroredRun + 1 < 8 →
              u = { counted with errored := min 255 (r.errored + 1), erroredRun := r.erroredRun + 1 }) ∧
            (¬clean → 8 ≤ r.erroredRun + 1 →
              u =
                { counted with
                  errored := min 255 (r.errored + 1), locked := false, lockLosses := min 15 (r.lockLosses + 1)
                  erroredRun := 0, cleanRun := 0, loaded := 0 }))

/-! ## The bus (Chapter 9) -/

/-- R38, R42, R60, R64, R69, R80, R81, R119, R130, R151, R154, R156, R157, R159, R161, R163, R164, R172, R173: at an idle with the transmitter free
the selector starts the frame of the first request that the bus state allows, built from its owner's state as it stands: first by the level and kind
code of Table 11-2, then by the place R157 gives within the kind. A request whose owner finds nothing to build is dropped, and the next is started at
the same idle. With the transmitter busy, or with nothing the bus state allows, an idle starts nothing; in SILENT nothing is allowed and in JOINING
only the beacon. What each frame carries is spelled, by its named fields and by the bytes of Table 11-3 with the codes of Table 11-4; every frame
bears its kind's level and code, the own station, its destination and its length, and every frame built is well-formed. -/
def Obligations.SelectorStartsThePreferredFrame : Prop :=
  let kind (i : ReqId) : Nat × Nat :=
    match i with
    | .beacon => (1, 1) | .flow _ => (1, 2) | .release _ => (2, 3) | .claim _ => (2, 4) | .survey => (2, 5)
    | .admitReq _ => (3, 6) | .charge _ => (4, 9) | .lineState _ => (5, 11) | .orderResult _ => (5, 12) | .runResult _ => (5, 12)
    | .dataIn _ => (6, 13)
  (∀ (t : Moment) (s : State),
    let place (i : ReqId) : Nat :=
      match i with
      | .beacon | .survey => 0
      | .flow n | .release n | .claim n | .admitReq n => n
      | .charge serial => (s.queue.map fun r => r.charge.serial).idxOf serial
      | .lineState tag => tag
      | .orderResult slot => 2 * slot
      | .runResult n => 2 * n + 1
      | .dataIn n => (n.val + 15 - s.rotation.val) % 16
    let precedes (i j : ReqId) : Prop :=
      (kind i).1 < (kind j).1 ∨
        (kind i).1 = (kind j).1 ∧ ((kind i).2 < (kind j).2 ∨ (kind i).2 = (kind j).2 ∧ place i < place j)
    let allowed (i : ReqId) : Prop := (s.req i).pending = true ∧ (s.bus = .active ∨ s.bus = .joining ∧ i = .beacon)
    let first (p : ReqId → Prop) (i : ReqId) : Prop := p i ∧ ∀ j, p j → j ≠ i → precedes i j
    let same (u : State) : Prop :=
      u.sup = s.sup ∧ u.sign = s.sign ∧ u.presence = s.presence ∧ u.roster = s.roster ∧ u.orderSlots = s.orderSlots
    (RequestsOk s → s.queue.length ≤ 32 → s.wire = none → ∀ i : ReqId, first allowed i →
      (∀ (d : Dest) (b : FrameBody), s.build i = some (d, b) →
        Leads (.busIdle t) s fun u =>
          u.wire = some ⟨i, d, b⟩ ∧ (u.req i).strikes = (s.req i).strikes ∧ same u ∧
            (∀ n : LineNo, i = .claim n → u.claims[n].surveyOwed = false) ∧
            ∀ (n : LineNo) (a k : Bool) (cs : List Char7), b = .dataIn n a k cs →
              u.path[n].inFlight = some ⟨cs.length, a, k, false, false⟩ ∧ u.path[n].inQ = s.path[n].inQ) ∧
        (s.build i = none →
          let dropped (u : State) : Prop :=
            ∀ n : LineNo,
              ((i = .claim n ∨ i = .release n ∨ i = .admitReq n ∨ i = .runResult n) → u.req i = Req.idle) ∧
                (i = .claim n → u.claims[n].surveyOwed = false)
          (∀ (j : ReqId) (d : Dest) (b : FrameBody), first (fun k => allowed k ∧ k ≠ i) j → s.build j = some (d, b) →
            Leads (.busIdle t) s fun u => u.wire = some ⟨j, d, b⟩ ∧ same u ∧ dropped u) ∧
            ((∀ k, allowed k → k = i) → Leads (.busIdle t) s fun u => u.wire = none ∧ same u ∧ dropped u))) ∧
      (s.wire ≠ none ∨ s.bus = .silent ∨ (RequestsOk s ∧ ∀ i, ¬allowed i) → Gives (.busIdle t) s (s.at t))) ∧
    ∀ (s : State) (n : LineNo),
      let p := s.path[n]
      let c := s.claims[n]
      s.build .survey = some (.all, .survey) ∧
        s.build .beacon =
          some (.all, .beacon
            { freshStart := !s.freshAnnounced
              configClamped := s.configClamped
              clash := s.clashTimer.isSome
              sessions := (allLines.filter fun m => s.st m = .session).length
              signOns := (allLines.filter fun m => s.st m = .signon).length
              freeLines := (allLines.filter fun m => s.st m = .idle ∧ s.mb m = false).length
              freeSlots := 32 - s.queue.length
              alarmLevel := s.alarmLevel }) ∧
        s.build (.release n) = c.release.map (fun r => (.all, .release n r)) ∧
        s.build (.runResult n) = s.result[n].map (fun r => (.station r.station, .runResult n r)) ∧
        (∀ x : Session, s.st n = .session → s.sess[n] = some x →
          s.build (.claim n) =
              some (.all, .claim n (if c.surveyOwed then .surveyAnswer else .refresh) x.provisional x.user x.serial x.channel) ∧
            s.build (.flow n) = p.flow.map (fun f => (.station x.channel, .flow n f)) ∧
            (∀ k : Confirm, c.admitConfirm = true → x.confirm = some k → x.provisional = true → x.reason = none →
              s.build (.admitReq n) = some (.accountants, .admitReq n k.serial true x.user [])) ∧
            (c.admitConfirm = true → x.provisional = false ∨ x.reason ≠ none ∨ x.confirm = none → s.build (.admitReq n) = none) ∧
            let ahead := if p.attention = true ∨ p.brk = true then p.mark.getD 0 else 14
            let k := min (min 14 p.inQ.chars.length) ahead
            let carries : Bool := decide ((p.attention = true ∨ p.brk = true) ∧ p.mark = some k)
            let blocked : Prop :=
              p.channelHold = true ∨ ¬(s.roster[x.channel].age < 3 ∧ s.roster[x.channel].roles.channel = true) ∨ s.bus ≠ .active
            (blocked ∨ k = 0 ∧ carries = false → s.build (.dataIn n) = none) ∧
              (¬blocked → k ≠ 0 ∨ carries = true →
                s.build (.dataIn n) =
                  some (.station x.channel,
                    .dataIn n (carries && p.attention) (carries && p.brk) (p.inQ.chars.take k)))) ∧
        (∀ (x : Context) (q : BitVec 16) (g : Granted),
          s.st n = .signon → s.sign[n] = some x → x.phase = .claiming → x.sessionSerial = some q → x.granted = some g →
          s.build (.claim n) = some (.all, .claim n .new x.provisional x.user q g.channel)) ∧
        (∀ x : Context, s.st n = .signon → s.sign[n] = some x → x.phase ≠ .claiming → s.build (.claim n) = none) ∧
        (∀ (x : Context) (q : BitVec 8), c.admitConfirm = false → s.sign[n] = some x → x.requestSerial = some q →
          s.build (.admitReq n) = if x.phase = .asking then some (.accountants, .admitReq n q false x.user x.code) else none) ∧
        (s.st n ≠ .signon → s.st n ≠ .session → s.build (.claim n) = none) ∧
        (s.st n ≠ .session → s.build (.flow n) = none ∧ s.build (.dataIn n) = none) ∧
        (∀ (before after : List Queued) (q : Queued), s.queue = before ++ q :: after → q.offered = true →
          (∀ r ∈ before, r.charge.serial ≠ q.charge.serial) →
          s.build (.charge q.charge.serial) = some (.accountants, .charge q.charge)) ∧
        (∀ serial : BitVec 8, (∀ r ∈ s.queue, r.charge.serial = serial → r.offered = false) → s.build (.charge serial) = none) ∧
        (∀ tag : Fin 64, s.cfg.tags[n] = some tag → (∀ m : LineNo, m < n → s.cfg.tags[m] ≠ some tag) →
          s.build (.lineState tag) =
            some (.all, .lineState tag
              { busy := decide (s.st n ≠ .idle ∧ s.st n ≠ .out)
                out := decide (s.st n = .out)
                session := decide (s.st n = .session)
                fault := s.sup[n].fault
                mb := s.mb n })) ∧
        (∀ (slot : Fin 17) (r : OrderResult), s.orderSlots[slot] = some r →
          s.build (.orderResult slot) =
            some (.station r.station, .orderResult r
              (match r.outcome with
               | .reportData g _ => s.counters.report g
               | _ => []))) ∧
        (let b (v : Nat) : Byte := BitVec.ofNat 8 v
         let two (v : Nat) : List Byte := [b (v / 256), b v]
         let three (v : Nat) : List Byte := [b (v / 65536), b (v / 256), b v]
         let user (v : Nat) : List Byte :=
           [b (16 * (v / 100000 % 10) + v / 10000 % 10), b (16 * (v / 1000 % 10) + v / 100 % 10), b (16 * (v / 10 % 10) + v % 10)]
         let bit (x : Bool) (v : Nat) : Nat := if x then v else 0
         let reason (r : CloseReason) : Byte :=
           match r with
           | .ended => 0 | .carrier => 1 | .idle => 2 | .allowance => 3 | .operator => 4 | .channelLost => 5 | .notConfirmed => 6
           | .restart => 7
         (∀ (i : ReqId) (d : Dest) (x : FrameBody),
             let f := WireFrame.raw ⟨i, d, x⟩ s.station
             f.level.toNat = (kind i).1 ∧ f.kind.toNat = (kind i).2 ∧ f.source.toNat = s.station.val ∧
               f.dest.toNat = (match d with | .station q => q.val | .accountants => 30 | .all => 31) ∧
               f.length = BitVec.ofNat 5 x.payload.length ∧ f.payload = x.payload) ∧
           (∀ x : BeaconOut,
             FrameBody.payload (.beacon x) =
               [1, b (bit x.freshStart 1), b (bit x.configClamped 1), b (bit x.clash 1), b x.sessions, b x.signOns, b x.freeLines,
                 b x.freeSlots, b (16 * x.alarmLevel), 0]) ∧
           FrameBody.payload .survey = [] ∧
           (∀ f : FlowState, FrameBody.payload (.flow n f) = [b n, match f with | .go => 0 | .hold => 1]) ∧
           (∀ r : ReleaseSlot,
             FrameBody.payload (.release n r) =
               [b n] ++ user r.user ++ two r.serial.toNat ++ [match r.reason with | .closed x => reason x | .withdrawn => 8]) ∧
           (∀ (k : ClaimKind) (prov : Bool) (u : Nat) (q : BitVec 16) (ch : Station),
             FrameBody.payload (.claim n k prov u q ch) =
               [b n, b ((match k with | .new => 0 | .refresh => 1 | .surveyAnswer => 2) + bit prov 128)] ++ user u ++ two q.toNat ++
                 [b ch]) ∧
           (∀ (q : BitVec 8) (confirm : Bool) (u : Nat) (code : List Char7),
             FrameBody.payload (.admitReq n q confirm u code) =
               [b n, q, b (code.length + bit confirm 128)] ++ user u ++
                 (List.range 8).map fun j => ((code[j]?).map fun x => x.setWidth 8).getD 0) ∧
           (∀ x : Charge,
             FrameBody.payload (.charge x) =
               [x.serial, b x.line] ++ user x.user ++ (match x.startMinute with | some m => two m | none => [0xFF, 0xFF]) ++
                 three x.duration ++ three x.units ++
                 [reason x.reason,
                   b (bit x.provisional 1 + bit x.lateConfirmed 2 + bit x.clockUnset 4 + bit x.timebase 8 + bit x.saturated 16 +
                     bit x.held 32)]) ∧
           (∀ (tag : Fin 64) (g : Signals),
             FrameBody.payload (.lineState tag g) =
               [b tag, b (bit g.busy 1 + bit g.out 2 + bit g.session 4 + bit g.fault 8 + bit g.mb 16)]) ∧
           (∀ (r : OrderResult) (data : List Byte),
             FrameBody.payload (.orderResult r data) =
               [match r.kind with
                 | .forceOff => 1 | .out => 2 | .in_ => 3 | .prove => 4 | .drain => 5 | .undrain => 6 | .notice => 7 | .restart => 8
                 | .report => 9,
                 r.line,
                 match r.outcome with
                 | .done => 0 | .queued => 1 | .refusedLine => 2 | .refusedState => 3 | .refusedEntitlement => 4
                 | .reportData _ _ => 6] ++ data) ∧
           (∀ r : RunResult,
             FrameBody.payload (.runResult n r) =
               [4, b n, 5,
                 match r.verdict with
                 | .pass => 0 | .fail => 1 | .noLock => 2 | .noCarrier => 3 | .carrierLost => 4 | .aborted => 5,
                 match r.speed with | .b110 => 0 | .b150 => 1 | .b300 => 2 | .b600 => 3 | .b1200 => 4 | .b2400 => 5] ++
                 three r.checked ++ [b r.errored, b r.lockLosses, b (bit r.lockReached 1)]) ∧
           (∀ (attention brk : Bool) (cs : List Char7),
             FrameBody.payload (.dataIn n attention brk cs) =
               [b n, b (bit attention 1 + bit brk 2)] ++ cs.map fun x => x.setWidth 8) ∧
           let k := s.counters
           k.report 0 =
               [k.abandonedRings, k.ringsWhileBusy, k.carrierWaitTimeouts, k.carrierHits, k.speedFailures, k.signOnTimeouts].flatMap two ∧
             k.report 1 =
               [k.framingErrors, k.parityErrors, k.overruns, k.echoesLost, k.dataOutRefused, k.noticesReplaced].flatMap two ∧
             k.report 2 =
               [k.receiveFaults, k.strikes, k.framesDiscarded, k.requestsCoalesced, k.staleReplies, k.agedOutEntries].flatMap two ++
                 [b k.numberClashes]) ∧
        ∀ (i : ReqId) (d : Dest) (b : FrameBody), s.build i = some (d, b) →
          frameWellFormed (WireFrame.raw ⟨i, d, b⟩ s.station) = true

/-- R38, R39, R81, R151, R152, R155, R158, R163: a frame that loses arbitration, or takes a strike below its eighth, stands pending again; the loss
adds no strike. The eighth strike discards the frame and drops its request with any raising of it made meanwhile, which is stated for the requests
that the closing work of the event cannot raise again. One addressed to a station marks it absent; one addressed to 31 adds to the discard streak and
silences the LC-16 at the third, or at once for a joining beacon; a discarded RELEASE empties its slot and removes the own claim with its serial, a
discarded RESULT its slot or record. A DATA-IN frame that ends in any of these ways leaves the inbound queue of its line, its flags and its mark as
they stand, and the frame in flight ends with it (log entry 37). -/
def Obligations.StrikesRepeatAndDiscard : Prop :=
  ∀ (t : Moment) (s : State) (w : WireFrame), s.wire = some w →
    let queueStands (u : State) : Prop :=
      ∀ (n : LineNo) (attention brk : Bool) (chars : List Char7), w.req = .dataIn n → w.body = .dataIn n attention brk chars →
        u.path[n].inward = { s.path[n] with inFlight := none, channelHold := u.path[n].channelHold }.inward
    let dropped (u : State) : Prop :=
      (w.req = .beacon ∨ w.req = .survey ∨ (∃ k : Fin 17, w.req = .orderResult k) ∨
          ∃ n : LineNo, w.req = .claim n ∨ w.req = .release n ∨ w.req = .admitReq n ∨ w.req = .runResult n) →
        (u.req w.req).pending = false
    (Leads (.arbitrationLost t) s fun u =>
        u.wire = none ∧ (u.req w.req).pending = true ∧ (u.req w.req).strikes = (s.req w.req).strikes ∧
          u.counters.strikes = s.counters.strikes ∧ u.sup = s.sup ∧ u.claims = s.claims ∧ u.roster = s.roster ∧ queueStands u) ∧
      ((s.req w.req).strikes + 1 < 8 →
        Leads (.strike t) s fun u =>
          u.wire = none ∧ (u.req w.req).pending = true ∧ (u.req w.req).strikes = (s.req w.req).strikes + 1 ∧
            u.counters.strikes = sat16 s.counters.strikes ∧ u.roster = s.roster ∧ u.bus = s.bus ∧ u.sup = s.sup ∧ u.claims = s.claims ∧
            queueStands u) ∧
      (8 ≤ (s.req w.req).strikes + 1 →
        Leads (.strike t) s fun u =>
          u.wire = none ∧ (u.req w.req).strikes = 0 ∧ dropped u ∧ u.counters.framesDiscarded = sat16 s.counters.framesDiscarded ∧
            u.counters.strikes = sat16 s.counters.strikes ∧ u.sup = s.sup ∧ queueStands u ∧
            (∀ i : Station, w.dest = .station i → i ≠ s.station →
              u.roster[i].age = 3 ∧ u.roster[i].roles = s.roster[i].roles ∧ u.bus = s.bus ∧ u.streak = s.streak) ∧
            (w.dest = .accountants → u.roster = s.roster ∧ u.bus = s.bus ∧ u.streak = s.streak) ∧
            (w.dest = .all →
              if (s.bus = .joining ∧ w.req = .beacon) ∨ 2 ≤ s.streak then
                u.bus = .silent ∧ u.streak = 0 ∧ u.quietTimer = some (max s.now t + 2000)
              else u.bus = s.bus ∧ u.streak = s.streak + 1) ∧
            (∀ (n : LineNo) (r : ReleaseSlot), w.body = .release n r →
              u.claims[n].release = none ∧
                u.claims[n].own =
                  (match s.claims[n].own with | some o => if o.serial = r.serial then none else some o | none => none)) ∧
            (∀ (slot : Fin 17) (r : OrderResult) (data : List Byte),
              w.req = .orderResult slot → w.body = .orderResult r data → u.orderSlots[slot] = none) ∧
            (∀ (n : LineNo) (r : RunResult), w.body = .runResult n r → u.result[n] = none))

/-- R36, R37, R39, R155, R156, R157: after every command the DATA-IN request of a line in SESSION for which a forwarding trigger holds and forwarding
is not blocked (`State.forwardingDue`) is pending or its frame on the wire, and at the event that makes this so it is pending. The echo of the DATA-IN
frame in flight removes its characters from the head of the inbound queue, clears the flags it carried unless taken again since, moves the rotation
point, and changes nothing else but what the echo of any own frame does: the mark keeps its place behind the same characters while a flag stays
waiting and is cleared otherwise, and the forwarding timer starts again for characters that are left. With no frame in flight, its session having
ended, it only moves the rotation point. A removal that leaves 8·Ain characters or fewer with input-held set clears it and makes XON owed, or none
where XOFF was still owed (log entry 41); the echo of a frame that carried flags alone counts as such a removal too (log entry 44). -/
def Obligations.DataInEchoRemovesItsCharacters : Prop :=
  (∀ (c : Instr) (s u : State), DataInOk s → exec c s = .next u →
    DataInOk u ∧
      (u.loader = .running →
        ∀ n : LineNo, ¬s.forwardingDue n → u.forwardingDue n → (u.req (.dataIn n)).pending = true)) ∧
  ∀ (t : Moment) (s : State) (w : WireFrame) (n : LineNo) (a b : Bool) (cs : List Char7),
    s.wire = some w → w.body = .dataIn n a b cs →
    let base : State := { s.at t with wire := none, rotation := n, streak := if w.dest = .all then 0 else s.streak }
    (∀ f : InFlight, s.path[n].inFlight = some f →
      let p := s.path[n]
      let q := p.inQ.remove f.k
      let attention := p.attention && (!f.attention || f.attentionAgain)
      let brk := p.brk && (!f.brk || f.brkAgain)
      let low : Bool :=
        (s.group n).xonXoff && p.inputHeld && decide (p.inQ.chars.length - f.k ≤ 8 * (s.group n).inAllowance)
      Gives (.dataInEchoed t) s
          (base.setPath n
            { p with
              inQ := q
              inFlight := none
              fwdDue := false
              fwdTimer := if q.chars = [] then none else some (max s.now t + s.cfg.forwardingTimer)
              attention := attention
              brk := brk
              mark := if attention || brk then p.mark.map (· - f.k) else none
              inputHeld := p.inputHeld && !low
              owed := if low then (if p.owed = some .xoff then none else some .xon) else p.owed }) ∧
        Leads (.dataInEchoed t) s fun u => u.path[n].inQ.chars = p.inQ.chars.drop f.k ∧ (u.req w.req).strikes = 0) ∧
      (s.path[n].inFlight = none →
        Gives (.dataInEchoed t) s base ∧ Leads (.dataInEchoed t) s fun u => (u.req w.req).strikes = 0)

/-- R65, R79, R81, R151, R153, R155, R158, R163, R164: what the echoes of the other own frames do: a RELEASE ends its own claim and empties its slot,
a newer release in it included (log entry 14); a CLAIM of kind NEW creates the own claim, also for a context no longer in CLAIMING, for which it
decides nothing, and one of another kind leaves the own claims; the joining beacon makes the bus ACTIVE and raises a SURVEY; a RESULT empties its
slot, unless a newer result is waiting in it, or the result record, filled again meanwhile or not (log entry 30); a clearing REPORT zeroes its group
of counters and no other (by the frame on the wire, log entry 23), stated for a part at rest, in which the event counts nothing else; FLOW, ADMIT-REQ,
SURVEY and a later beacon only free the transmitter. Each puts its request's strike count at 0, and one addressed to 31 the discard streak. -/
def Obligations.EchoesOfOwnFrames : Prop :=
  ∀ (t : Moment) (s : State) (w : WireFrame), s.wire = some w →
    let returned (u : State) : Prop := (u.req w.req).strikes = 0 ∧ u.streak = if w.dest = .all then 0 else s.streak
    (∀ (n : LineNo) (r : ReleaseSlot), w.body = .release n r →
      Leads (.releaseEchoed t) s fun u =>
        u.wire = none ∧ u.claims[n].release = none ∧
          u.claims[n].own = (match s.claims[n].own with | some o => if o.serial = r.serial then none else some o | none => none) ∧
          u.sup = s.sup ∧ u.sign = s.sign ∧ returned u ∧ ∀ m : LineNo, m ≠ n → u.claims[m] = s.claims[m]) ∧
      (∀ (n : LineNo) (k : ClaimKind) (prov : Bool) (user : Nat) (serial : BitVec 16) (ch : Station),
        w.body = .claim n k prov user serial ch →
        (Leads (.claimEchoed t) s fun u => returned u) ∧
          (k ≠ .new → Gives (.claimEchoed t) s
            { s.at t with wire := none, streak := if w.dest = .all then 0 else s.streak }) ∧
          (k = .new → (∀ c ∈ s.sign[n], c.phase ≠ .claiming ∨ c.sessionSerial ≠ some serial) →
            Gives (.claimEchoed t) s
              { (s.at t).setClaims n { s.claims[n] with own := some ⟨user, serial⟩ } with
                wire := none, streak := if w.dest = .all then 0 else s.streak })) ∧
      (∀ b : BeaconOut, w.body = .beacon b → s.bus = .joining →
        Leads (.joiningBeaconEchoed t) s fun u =>
          u.wire = none ∧ u.bus = .active ∧ u.freshAnnounced = (s.freshAnnounced || b.freshStart) ∧
            (u.req .survey).pending = true ∧ u.sup = s.sup ∧ u.sign = s.sign ∧ returned u) ∧
      (∀ (slot : Fin 17) (r : OrderResult) (data : List Byte), w.req = .orderResult slot → w.body = .orderResult r data →
        Leads (.resultEchoed t) s fun u =>
          u.wire = none ∧
            u.orderSlots = (if (s.req (.orderResult slot)).pending then s.orderSlots else s.orderSlots.set slot none) ∧
            (r.outcome = .reportData 0 true →
              u.counters.abandonedRings = 0 ∧ u.counters.ringsWhileBusy = 0 ∧ u.counters.carrierWaitTimeouts = 0 ∧
                u.counters.carrierHits = 0 ∧ u.counters.speedFailures = 0 ∧ u.counters.signOnTimeouts = 0 ∧
                u.counters.framingErrors = s.counters.framingErrors ∧ u.counters.strikes = s.counters.strikes) ∧
            (r.outcome = .reportData 1 true →
              u.counters.framingErrors = 0 ∧ u.counters.parityErrors = 0 ∧ u.counters.overruns = 0 ∧ u.counters.echoesLost = 0 ∧
                u.counters.dataOutRefused = 0 ∧ u.counters.strikes = s.counters.strikes ∧
                u.counters.abandonedRings = s.counters.abandonedRings) ∧
            (r.outcome = .reportData 2 true →
              u.counters.receiveFaults = 0 ∧ u.counters.strikes = 0 ∧ u.counters.framesDiscarded = 0 ∧
                u.counters.staleReplies = 0 ∧ u.counters.agedOutEntries = 0 ∧ u.counters.numberClashes = 0 ∧
                u.counters.abandonedRings = s.counters.abandonedRings ∧ u.counters.framingErrors = s.counters.framingErrors) ∧
            (AtRest s →
              u.counters =
                match r.outcome with
                | .reportData 0 true =>
                  { s.counters with
                    abandonedRings := 0, ringsWhileBusy := 0, carrierWaitTimeouts := 0, carrierHits := 0, speedFailures := 0,
                    signOnTimeouts := 0 }
                | .reportData 1 true =>
                  { s.counters with
                    framingErrors := 0, parityErrors := 0, overruns := 0, echoesLost := 0, dataOutRefused := 0, noticesReplaced := 0 }
                | .reportData 2 true =>
                  { s.counters with
                    receiveFaults := 0, strikes := 0, framesDiscarded := 0, requestsCoalesced := 0, staleReplies := 0,
                    agedOutEntries := 0, numberClashes := 0 }
                | _ => s.counters) ∧
            u.sup = s.sup ∧ returned u) ∧
      (∀ (n m : LineNo) (r : RunResult), w.req = .runResult m → w.body = .runResult n r →
        Leads (.resultEchoed t) s fun u => u.wire = none ∧ u.result = s.result.set n none ∧ u.sup = s.sup ∧ u.run = s.run ∧ returned u) ∧
      ((w.body = .survey ∨ (∃ n x, w.body = .flow n x) ∨ (∃ n q k us co, w.body = .admitReq n q k us co) ∨
          ((∃ b, w.body = .beacon b) ∧ s.bus ≠ .joining)) →
        Leads (.ownFrameOnBus t) s fun u =>
          u.wire = none ∧ returned u ∧ u.sup = s.sup ∧ u.sign = s.sign ∧ u.claims = s.claims ∧ u.roster = s.roster)

/-- R141, R154, R159, R160, R161: a receive fault is counted, not echoed, and has no other effect; a number clash is counted, starts the clash timer
and silences the LC-16, or restarts the quiet interval of one already silent. The clash timer's expiry ends the number-clash cause; the quiet
interval's expiry makes the bus state JOINING and raises a beacon. R154, R160, R162, R172, R173, Tables 11-2 and 11-3: a frame that is not well-formed
is a receive fault and one of the own number a clash; of any other, level and kind code pick the command, the payload's bytes are its operands in
their places, and an ORDER's first byte picks the order; a kind no block takes, an unknown order, and a frame that does not bear the destination of
Table 9-1 only make the sender heard, a BEACON among them (log entry 43). The bits of a frame give its fields back, and bits that end too early are a
frame cut short. -/
def Obligations.FaultsClashesAndSilence : Prop :=
  (∀ (t : Moment) (s : State),
    (s.loader = .running →
      (∀ (f : RawFrame) (cut own : Bool),
        Gives (.receiveFault t f cut own) s
          (if (if cut then !own else !frameWellFormed f) then State.count { s.at t with echo := false } .receiveFaults
           else s.at t)) ∧
        Gives (.numberClash t) s
          { (s.at t).count .numberClashes with
            echo := false
            clashTimer := some (max s.now t + 60000)
            bus := .silent
            quietTimer := some (max s.now t + 2000)
            streak := if s.bus = .silent then s.streak else 0 }) ∧
      Gives (.clashTimerExpiry t) s
        (if fallenDue s.clashTimer (max s.now t) = true then { s.at t with clashTimer := none } else s.at t) ∧
      ((s.bus ≠ .silent ∨ fallenDue s.quietTimer (max s.now t) = false) → Gives (.quietIntervalExpiry t) s (s.at t)) ∧
      (s.bus = .silent → fallenDue s.quietTimer (max s.now t) = true →
        Leads (.quietIntervalExpiry t) s fun u =>
          u.bus = .joining ∧ u.quietTimer = none ∧ (u.req .beacon).pending = true ∧ u.sup = s.sup ∧ u.sign = s.sign)) ∧
    (∀ (own : Station) (t : Moment) (f : RawFrame),
      (frameWellFormed f = false → readFrame own t f = .receiveFault t f false false) ∧
        (frameWellFormed f = true → f.source.toNat = own.val → readFrame own t f = .numberClash t) ∧
        (frameWellFormed f = true → ∀ src : Station, f.source.toNat = src.val → src ≠ own →
          let toAll (level kind : Nat) : Prop := f.level.toNat = level ∧ f.kind.toNat = kind ∧ f.dest.toNat = 31
          let toOwn (level kind : Nat) : Prop := f.level.toNat = level ∧ f.kind.toNat = kind ∧ f.dest.toNat = own.val
          (∀ a b c, toAll 0 0 → f.payload = [a, b, c] → readFrame own t f = .time t src (a ++ b) c) ∧
            (∀ ro fr cc cl se so fl fs a b, toAll 1 1 → f.payload = [ro, fr, cc, cl, se, so, fl, fs, a, b] →
              readFrame own t f = .beacon t src ⟨ro, fr, cc, cl, se, so, fl, fs, a ++ b⟩) ∧
            (∀ l x, toOwn 1 2 → f.payload = [l, x] → readFrame own t f = .flow t src l x) ∧
            (∀ l a b c d e r, toAll 2 3 → f.payload = [l, a, b, c, d, e, r] →
              readFrame own t f = .release t src ⟨l, a ++ b ++ c, d ++ e, r⟩) ∧
            (∀ l k a b c d e ch, toAll 2 4 → f.payload = [l, k, a, b, c, d, e, ch] →
              readFrame own t f = .claim t src ⟨l, k, a ++ b ++ c, d ++ e, ch⟩) ∧
            (toAll 2 5 → readFrame own t f = .survey t src) ∧
            (∀ l q v c m tb ch a b, toOwn 3 7 → f.payload = [l, q, v, c, m, tb, ch, a, b] →
              readFrame own t f = .admitReply t src ⟨l, q, v, c, m, tb, ch, a ++ b⟩) ∧
            (∀ k l a b, toOwn 3 8 → f.payload = [k, l, a, b] →
              readFrame own t f =
                match k.toNat with
                | 1 => .orderForceOff t src l (a ++ b)
                | 2 => .orderOut t src l (a ++ b)
                | 3 => .orderIn t src l (a ++ b)
                | 4 => .orderProve t src l (a ++ b)
                | 5 => .orderDrain t src l (a ++ b)
                | 6 => .orderUndrain t src l (a ++ b)
                | 7 => .orderNotice t src l (a ++ b)
                | 8 => .orderRestart t src l (a ++ b)
                | 9 => .orderReport t src l (a ++ b)
                | _ => .frameOnBus t src f.dest) ∧
            (∀ q, toOwn 4 10 → f.payload = [q] → readFrame own t f = .chargeAck t src q) ∧
            (∀ tag g, toAll 5 11 → f.payload = [tag, g] → readFrame own t f = .lineState t src tag g) ∧
            (∀ l fl chars, toOwn 6 13 → f.payload = l :: fl :: chars → readFrame own t f = .dataOut t src l fl chars) ∧
            (f.kind.toNat ∈ [6, 9, 12] ∨ f.kind.toNat ∈ [0, 1, 3, 4, 5, 11] ∧ f.dest.toNat ≠ 31 ∨
                f.kind.toNat ∈ [2, 7, 8, 10, 13] ∧ f.dest.toNat ≠ own.val →
              readFrame own t f = .frameOnBus t src f.dest))) ∧
    ∀ (own : Station) (t : Moment) (sending : Bool) (f : RawFrame), f.payload.length = f.length.toNat →
      readBits own t sending (frameBits f) = readFrame own t f ∧
        ∀ k : Nat, k < (frameBits f).length →
          readBits own t sending ((frameBits f).take k) = .receiveFault t ⟨0, 0, 0, 0, 0, [], 0⟩ true sending

/-! ## Data and orders -/

/-- R31, R36, R40, R41, R43, R44, R173: a DATA-OUT that finds no room is refused with its echo withheld and nothing stored; one for a line that its
source may not send to is echoed, discarded and counted; an accepted one is echoed, its characters stand at the back of the outbound queue, which
FLUSH has emptied first, an idle transmitter takes its next character, and its END, ECHO-ON and ECHO-OFF flags act on the session (stated when no
session is about to enter hold, so that no notice takes the room first; the queue for a line with no text waiting), an END that finds the line drained
closing the session with ENDED. A FLOW from the session's channel station sets or clears channel-hold; any other, and a reserved state (log entry 18),
is echoed and ignored. Channel-hold is cleared where that station turns absent from CHANNEL (at a beacon, a frame, a period or a discard) and at its
fresh-start beacon. R42: the line's own FLOW state, at whatever command changes its outbound room: it is HOLD or GO by the room at the establish move,
turns from GO to HOLD at a room of 16 or fewer and from HOLD to GO at 8·A or more, each change and a HOLD at the establishment with a FLOW request,
and is discarded when the line leaves SESSION. The room is that after the whole event (log entry 11). -/
def Obligations.ChannelFramesAreAcceptedOrRefused : Prop :=
  (∀ (c : Instr) (s u : State), LoadingOk s → FlowOk s → exec c s = .next u →
    FlowOk u ∧
      (u.loader = .running →
        ∀ n : LineNo, 3 ≤ (u.group n).allowance →
          (s.st n = .session → u.st n = .session →
            (s.path[n].flow = some .go → u.outRoom n ≤ 16 → u.path[n].flow = some .hold ∧ (u.req (.flow n)).pending = true) ∧
              (s.path[n].flow = some .go → 16 < u.outRoom n → u.path[n].flow = some .go) ∧
              (s.path[n].flow = some .hold → 8 * (u.group n).allowance ≤ u.outRoom n →
                u.path[n].flow = some .go ∧ (u.req (.flow n)).pending = true) ∧
              (s.path[n].flow = some .hold → u.outRoom n < 8 * (u.group n).allowance → u.path[n].flow = some .hold)) ∧
            (s.st n ≠ .session → u.st n = .session →
              (u.outRoom n ≤ 16 → u.path[n].flow = some .hold ∧ (u.req (.flow n)).pending = true) ∧
                (16 < u.outRoom n → u.path[n].flow = some .go)) ∧
            (s.st n = .session → u.st n ≠ .session → u.path[n].flow = none))) ∧
  (∀ (t : Moment) (src : Station) (p : BeaconPayload) (dest : BitVec 5) (s : State), s.loader = .running →
    ∀ c ∈ [Instr.beacon t src p, .frameOnBus t src dest, .beaconPeriodExpiry t, .strike t],
      Leads c s fun u =>
        ∀ (n : LineNo) (x : Session), s.sess[n] = some x →
          let present (v : State) : Prop := v.roster[x.channel].age < 3 ∧ v.roster[x.channel].roles.channel = true
          let fresh : Prop := c = .beacon t src p ∧ p.freshStart ≠ 0 ∧ src ≠ s.station ∧ src = x.channel
          u.path[n].channelHold = (s.path[n].channelHold && !decide (present s ∧ ¬present u ∨ fresh))) ∧
  ∀ (t : Moment) (src : Station) (line flags state : Byte) (chars : List Byte) (s : State),
    s.loader = .running → src ≠ s.station → s.bus = .joining ∨ s.bus = .active →
    (∀ n : LineNo, s.dataOutLine src line = some n → s.roomFor n (flags.getLsbD 3) < chars.length →
        Gives (.dataOut t src line flags chars) s (State.count { s.at t with echo := false } .dataOutRefused)) ∧
      (s.dataOutLine src line = none →
        GivesHeard (.dataOut t src line flags chars) s (State.count { (s.at t).heard src with echo := true } .dataOutRefused)) ∧
      (∀ (n : LineNo) (x : Session), s.sess[n] = some x → s.dataOutLine src line = some n →
        chars.length ≤ s.roomFor n (flags.getLsbD 3) → (∀ m : LineNo, s.entersHold m = false) →
        Leads (.dataOut t src line flags chars) s fun u =>
          u.echo = true ∧ u.sup = s.sup ∧ u.path[n].inQ = s.path[n].inQ ∧ u.counters.dataOutRefused = s.counters.dataOutRefused ∧
            (∃ y : Session, u.sess[n] = some y ∧ y.endMark = (x.endMark || flags.getLsbD 2) ∧ y.units = x.units ∧
              y.echo = (if flags.getLsbD 0 = flags.getLsbD 1 then x.echo else flags.getLsbD 0) ∧
              (y.endMark = true → s.path[n].slot = none → s.path[n].tx = none → s.path[n].owed = none →
                (s.path[n].outQ.chars = [] ∨ flags.getLsbD 3 = true) → chars = [] →
                y.reason = some (x.reason.getD .ended) ∧ (x.reason = none → u.asks[n].close = true))) ∧
            (s.path[n].slot = none →
              let p := s.path[n]
              let q := (if flags.getLsbD 3 then Queue.empty else p.outQ).append (chars.map fun b => b.setWidth 7)
              u.path[n].slot = none ∧ u.path[n].paused = p.paused ∧ u.path[n].owed = p.owed ∧
                (p.tx.isSome = true → u.path[n].tx = p.tx ∧ u.path[n].outQ = q) ∧
                (p.tx = none → p.owed = some .xon → u.path[n].tx = some 0x11 ∧ u.path[n].outQ = q) ∧
                (p.tx = none → p.owed = some .xoff → u.path[n].tx = some 0x13 ∧ u.path[n].outQ = q) ∧
                (p.tx = none → p.owed = none → p.paused = true ∨ q.chars = [] → u.path[n].tx = none ∧ u.path[n].outQ = q) ∧
                ∀ (c : Char7) (rest : List Char7), p.tx = none → p.owed = none → p.paused = false → q.chars = c :: rest →
                  u.path[n].tx = some (c.setWidth 8) ∧ u.path[n].outQ = q.remove 1)) ∧
      (∀ n : LineNo, line.toNat = n.val → (s.sessionOf n src).isSome = true → state = 0 ∨ state = 1 →
        Leads (.flow t src line state) s fun u =>
          u.path[n].channelHold = decide (state = 1) ∧ u.echo = true ∧ u.path[n].inQ = s.path[n].inQ ∧ u.sup = s.sup) ∧
      ((∀ n : LineNo, line.toNat = n.val → (s.sessionOf n src).isSome = false) ∨ 2 ≤ state.toNat →
        GivesHeard (.flow t src line state) s { (s.at t).heard src with echo := true })

/-- R162, R163: an ORDER from a station that announces neither ACCOUNTANT nor CHANNEL, whatever its kind and line, and one of an entitled station
with a line outside 0 to 15 and 255, only fills its result slot with the refusal and raises its RESULT, which carries line 255 for a line out of
range (log entry 15). -/
def Obligations.OrdersAreCheckedFirst : Prop :=
  ∀ (t : Moment) (src : Station) (line : Byte) (arg : BitVec 16) (s : State) (c : Instr) (kind : OrderKind),
    s.loader = .running → src ≠ s.station → s.bus = .joining ∨ s.bus = .active →
    (c = .orderForceOff t src line arg ∧ kind = .forceOff ∨ c = .orderOut t src line arg ∧ kind = .out ∨
      c = .orderIn t src line arg ∧ kind = .in_ ∨ c = .orderProve t src line arg ∧ kind = .prove ∨
      c = .orderDrain t src line arg ∧ kind = .drain ∨ c = .orderUndrain t src line arg ∧ kind = .undrain ∨
      c = .orderNotice t src line arg ∧ kind = .notice ∨ c = .orderRestart t src line arg ∧ kind = .restart ∨
      c = .orderReport t src line arg ∧ kind = .report) →
    let filled (o : OrderOutcome) : State :=
      { (s.at t).heard src with
        echo := true
        orderSlots := s.orderSlots.set (orderSlot line) (some ⟨src, kind, if line.toNat < 16 then line else 255, o⟩) }
    let entitled : Prop := s.roster[src].roles.accountant = true ∨ s.roster[src].roles.channel = true
    let answers (o : OrderOutcome) : Prop :=
      GivesHeard c s (filled o) ∧ Leads c s fun u => (u.req (.orderResult (orderSlot line))).pending = true
    (¬entitled → answers .refusedEntitlement) ∧ (entitled → 16 ≤ line.toNat → line ≠ 255 → answers .refusedLine)

/-- R22, R23, R24, R138, R143, R150, R151, R163: OUT and IN of one line, DRAIN and UNDRAIN, and PROVE, each with the result slot it fills and the
RESULT request it raises; an accepted PROVE sends no RESULT yet, and its request waits behind earlier ones of the line (log entry 30). An OUT order
taken in PROVING ends the run with ABORTED: its result record is filled and the line is in OUT with FAULT as it stood; where the run has ended by
itself, the line leaves PROVING by its verdict first, and the order then takes it to OUT (log entry 8). -/
def Obligations.ServiceOrdersActOnOneLine : Prop :=
  ∀ (t : Moment) (src : Station) (line : Byte) (arg : BitVec 16) (n : LineNo) (s : State),
    s.loader = .running → src ≠ s.station → s.bus = .joining ∨ s.bus = .active →
    (s.roster[src].roles.accountant = true ∨ s.roster[src].roles.channel = true) → line.toNat = n.val →
    let l := s.sup[n]
    let base : State := { (s.at t).heard src with echo := true }
    let filled (kind : OrderKind) (o : OrderOutcome) : State :=
      { base with orderSlots := s.orderSlots.set n.castSucc (some ⟨src, kind, line, o⟩) }
    let answers (c : Instr) (u : State) : Prop :=
      GivesHeard c s u ∧ Leads c s fun v => (v.req (.orderResult n.castSucc)).pending = true
    (s.st n = .idle →
        answers (.orderOut t src line arg)
          ((filled .out .done).setSup n { LineRec.fresh .out l.ri l.cd with fault := l.fault, outPending := l.outPending })) ∧
      (s.st n = .out → answers (.orderOut t src line arg) (filled .out .done)) ∧
      (s.st n ≠ .idle → s.st n ≠ .out → s.st n ≠ .proving →
        answers (.orderOut t src line arg) ((filled .out .queued).setSup n { l with outPending := true })) ∧
      (s.st n = .proving → s.run[n].phase ≠ .none →
        Leads (.orderOut t src line arg) s fun u =>
          let r := s.run[n]
          u.st n = .out ∧ u.sup[n].fault = l.fault ∧ u.run[n].phase = .none ∧ u.asks[n].endRun = none ∧
            u.result[n] = some ⟨r.station, .aborted, r.speed, r.checked, r.errored, r.lockLosses, r.lockReached⟩ ∧
            (u.req (.runResult n)).pending = true ∧ u.orderSlots[n.castSucc] = some ⟨src, .out, line, .done⟩ ∧
            (u.req (.orderResult n.castSucc)).pending = true ∧ ∀ m : LineNo, m ≠ n → u.sup[m] = s.sup[m]) ∧
      (∀ v : ProvingVerdict, s.st n = .proving → s.run[n].phase = .none → s.asks[n].endRun = some v →
        answers (.orderOut t src line arg)
          (((filled .out .done).setAsks n { s.asks[n] with endRun := none }).setSup n
            { LineRec.fresh .out l.ri l.cd with
              fault := decide (v ≠ .pass), outPending := l.outPending && !decide (v = .pass ∧ s.run[n].origin = .idle) })) ∧
      (s.st n = .out →
        answers (.orderIn t src line arg)
          ((filled .in_ .done).setSup n
            { LineRec.fresh .idle l.ri l.cd with burst := if l.ri then some (l.burst.getD (max s.now t)) else none })) ∧
      (s.st n ≠ .out →
        answers (.orderIn t src line arg)
          (if l.outPending then (filled .in_ .done).setSup n { l with outPending := false } else filled .in_ .refusedState)) ∧
      answers (.orderDrain t src line arg) { filled .drain .done with drain := true } ∧
      answers (.orderUndrain t src line arg) { filled .undrain .done with drain := false } ∧
      (s.st n = .idle ∨ s.st n = .out → s.result[n] = none →
        GivesHeard (.orderProve t src line arg) s
          (base.setAsks n
            { s.asks[n] with
              begin := s.asks[n].begin ++ [⟨src, if s.st n = .idle then .idle else .out, max 1 (min 60 arg.toNat)⟩] })) ∧
      (s.st n ≠ .idle ∧ s.st n ≠ .out ∨ s.result[n] ≠ none →
        answers (.orderProve t src line arg) (filled .prove .refusedState))

/-- R47, R71, R74, R163, R164: FORCE-OFF closes a line's session with OPERATOR and makes its close request, unless a reason is set, and is refused
elsewhere; NOTICE is taken in SESSION, where its text is appended or waits in the slot (R45; log entry 12), and is refused elsewhere; REPORT of a
group 0 to 2 records the group and the clear flag and is refused above 2. Each raises the RESULT of the slot it fills. -/
def Obligations.OperatorOrdersOnOneLine : Prop :=
  ∀ (t : Moment) (src : Station) (line : Byte) (arg : BitVec 16) (n : LineNo) (s : State),
    s.loader = .running → src ≠ s.station → s.bus = .joining ∨ s.bus = .active →
    (s.roster[src].roles.accountant = true ∨ s.roster[src].roles.channel = true) → line.toNat = n.val →
    let filled (kind : OrderKind) (o : OrderOutcome) : State :=
      { (s.at t).heard src with echo := true, orderSlots := s.orderSlots.set n.castSucc (some ⟨src, kind, line, o⟩) }
    let answers (c : Instr) (u : State) : Prop :=
      GivesHeard c s u ∧ Leads c s fun v => (v.req (.orderResult n.castSucc)).pending = true
    (s.st n = .session → s.sess[n].isSome = true →
        Leads (.orderForceOff t src line arg) s fun u =>
          u.core = (filled .forceOff .done).core ∧ (u.req (.orderResult n.castSucc)).pending = true ∧
            (∀ x ∈ s.sess[n], x.reason = none → u.asks[n].close = true) ∧
            ∃ y r, u.sess[n] = some y ∧ y.reason = some r ∧ (∀ x ∈ s.sess[n], r = x.reason.getD .operator)) ∧
      (s.st n ≠ .session → answers (.orderForceOff t src line arg) (filled .forceOff .refusedState)) ∧
      answers (.orderNotice t src line arg) (filled .notice (if s.st n = .session then .done else .refusedState)) ∧
      (∀ i : Fin 8, i.val = min 7 arg.toNat → OutputAtRest s →
        Leads (.orderNotice t src line arg) s fun u =>
          (s.st n = .session → TextTaken s u n ⟨[.notice i], none⟩) ∧
            (∀ m : LineNo, m ≠ n ∨ s.st n ≠ .session →
              u.path[m].outQ = s.path[m].outQ ∧ u.path[m].slot = s.path[m].slot ∧ u.path[m].tx = s.path[m].tx)) ∧
      answers (.orderReport t src line arg)
        (filled .report
          (if h : arg.toNat / 256 < 3 then .reportData ⟨arg.toNat / 256, h⟩ (arg.getLsbD 0) else .refusedState))

/-- R22, R23, R24, R45, R47, R71, R74, R138, R143, R150, R151, R163, R164: an order of an entitled station with line 255 acts on every line that a
single order would act on, at one event, fills the one slot of line 255 and raises its RESULT: OUT answers QUEUED if any line was queued, ends each
proving run at work with ABORTED, and takes a line whose run has ended first out of PROVING by its verdict (log entry 8); IN and FORCE-OFF pass over
the lines they would refuse; the text of NOTICE is taken for every line in SESSION; PROVE is refused; and REPORT of a group 0 to 2 records the group
and the clear flag and is refused above 2. -/
def Obligations.OrdersToAllLinesActOnEach : Prop :=
  ∀ (t : Moment) (src : Station) (arg : BitVec 16) (s : State),
    s.loader = .running → src ≠ s.station → s.bus = .joining ∨ s.bus = .active →
    (s.roster[src].roles.accountant = true ∨ s.roster[src].roles.channel = true) →
    let base : State := { (s.at t).heard src with echo := true }
    let filled (kind : OrderKind) (o : OrderOutcome) : State :=
      { base with orderSlots := s.orderSlots.set (16 : Fin 17) (some ⟨src, kind, 255, o⟩) }
    let answers (c : Instr) (u : State) : Prop :=
      GivesHeard c s u ∧ Leads c s fun v => (v.req (.orderResult 16)).pending = true
    let queues (n : LineNo) : Bool := decide (s.st n ≠ .idle ∧ s.st n ≠ .out ∧ s.st n ≠ .proving)
    (Leads (.orderOut t src 255 arg) s fun u =>
        (∀ n : LineNo,
          let l := s.sup[n]
          let r := s.run[n]
          let ended : Option ProvingVerdict := if s.st n = .proving ∧ r.phase = .none then s.asks[n].endRun else none
          u.sup[n] =
              (if queues n then { l with outPending := true }
               else if s.st n = .out then l
               else
                 match ended with
                 | none => { LineRec.fresh .out l.ri l.cd with fault := l.fault, outPending := l.outPending }
                 | some v =>
                   { LineRec.fresh .out l.ri l.cd with
                     fault := decide (v ≠ .pass), outPending := l.outPending && !decide (v = .pass ∧ r.origin = .idle) }) ∧
            (s.st n = .proving → r.phase ≠ .none →
              u.run[n].phase = .none ∧ u.asks[n].endRun = none ∧ (u.req (.runResult n)).pending = true ∧
                u.result[n] = some ⟨r.station, .aborted, r.speed, r.checked, r.errored, r.lockLosses, r.lockReached⟩) ∧
            (s.st n ≠ .proving ∨ r.phase = .none → u.run[n] = r ∧ u.result[n] = s.result[n])) ∧
          u.orderSlots[(16 : Fin 17)] = some ⟨src, .out, 255, if allLines.any queues then .queued else .done⟩ ∧
            (u.req (.orderResult 16)).pending = true) ∧
      (Leads (.orderIn t src 255 arg) s fun u =>
        (∀ n : LineNo,
          u.sup[n] =
            if s.st n = .out then
              { LineRec.fresh .idle s.sup[n].ri s.sup[n].cd with
                burst := if s.sup[n].ri then some (s.sup[n].burst.getD (max s.now t)) else none }
            else { s.sup[n] with outPending := false }) ∧
          u.orderSlots[(16 : Fin 17)] = some ⟨src, .in_, 255, .done⟩ ∧ (u.req (.orderResult 16)).pending = true) ∧
      (Leads (.orderForceOff t src 255 arg) s fun u =>
        u.core = (filled .forceOff .done).core ∧ (u.req (.orderResult 16)).pending = true ∧
          ∀ (n : LineNo) (x : Session), s.st n = .session → s.sess[n] = some x →
            ∃ y : Session, u.sess[n] = some y ∧ y.reason = some (x.reason.getD .operator) ∧ (x.reason = none → u.asks[n].close = true)) ∧
      answers (.orderNotice t src 255 arg) (filled .notice .done) ∧
      (∀ i : Fin 8, i.val = min 7 arg.toNat → (∀ m : LineNo, s.entersHold m = false) →
        let text : Text := ⟨[.notice i], none⟩
        let chars := textChars s.cfg text
        Leads (.orderNotice t src 255 arg) s fun u =>
          u.counters.noticesReplaced =
              (allLines.filter fun n => s.st n = .session ∧ s.path[n].slot.isSome = true).foldl (fun k _ => sat16 k)
                s.counters.noticesReplaced ∧
            (∀ n : LineNo, s.st n = .session → s.path[n].tx.isSome = true →
              u.path[n].tx = s.path[n].tx ∧ TextAppendedOrWaits s.cfg text s.path[n] u.path[n] ∧
                (s.path[n].slot = none → 16 * ((chars.length + 15) / 16) ≤ s.free → chars.length ≤ s.outRoom n →
                  u.path[n].slot = none ∧ u.path[n].outQ = s.path[n].outQ.append chars)) ∧
            ∀ n : LineNo, s.st n ≠ .session → s.path[n].slot = none → s.txReady n = false →
              u.path[n].outQ = s.path[n].outQ ∧ u.path[n].slot = none) ∧
      answers (.orderDrain t src 255 arg) { filled .drain .done with drain := true } ∧
      answers (.orderUndrain t src 255 arg) { filled .undrain .done with drain := false } ∧
      answers (.orderProve t src 255 arg) (filled .prove .refusedLine) ∧
      answers (.orderReport t src 255 arg)
        (filled .report
          (if h : arg.toNat / 256 < 3 then .reportData ⟨arg.toNat / 256, h⟩ (arg.getLsbD 0) else .refusedState))

/-- R25, R48, R60, R83, R87, R126, R133, R142, R150, R157, R158, R162, R170: a RESTART order of an entitled station, whatever line in range it names,
begins a restart at its event and sends no RESULT; the charge records stand, and those of the sessions it closes follow them in ascending order of
line, and the other blocks take the restart values that the RESTART pin gives them (`Restarted`), FAULT, out-pending and the run records among them.
The request serial stands, stated for a sender that was present: one that turns present may first raise CONFIRM requests, which take serials (log
entry 17). -/
def Obligations.RestartOrderRestarts : Prop :=
  ∀ (t : Moment) (src : Station) (line : Byte) (arg : BitVec 16) (s : State),
    s.loader = .running → src ≠ s.station → s.bus = .joining ∨ s.bus = .active →
    (s.roster[src].roles.accountant = true ∨ s.roster[src].roles.channel = true) → (line.toNat < 16 ∨ line = 255) →
    Leads (.orderRestart t src line arg) s fun u =>
      Restarted s u ∧ u.restartPin = s.restartPin ∧ (s.roster[src].age < 3 → u.requestSerial = s.requestSerial)

/-! ## Invariants -/

/-- Every invariant below holds at reset, with the ranges of the configuration (`StartPlacesLinesAndJoins`), the offers
(`OffersAreRepeatedUntilAcknowledged`), the holds (`LimitsCloseTheSession`), the FLOW states (`ChannelFramesAreAcceptedOrRefused`) and the DATA-IN
requests (`DataInEchoRemovesItsCharacters`). -/
def Obligations.InvariantsHoldAtReset : Prop :=
  LoadingOk State.reset ∧ PresenceOk State.reset ∧ CallsOk State.reset ∧ SlotsOk State.reset ∧ QueueOk State.reset ∧
    PoolOk State.reset ∧ GraceOk State.reset ∧ MetersOk State.reset ∧ ClockOk State.reset ∧ LinesOk State.reset ∧
    RequestsOk State.reset ∧ ConfigurationOk State.reset.cfg ∧ OffersOk State.reset ∧ HoldOk State.reset ∧ FlowOk State.reset ∧ DataInOk State.reset

/-- R25, R126, R154, R158: while the Start-Up Loader works, whatever commands come, nothing of a call, a claim, a run, the tables, the bus or the
requests comes to be. No frame is taken then (R154; `RosterFollowsFrames`, and `FaultsClashesAndSilence` after the start). -/
def Obligations.NothingActsWhileLoading : Prop :=
  ∀ s u : State, LoadingOk s → step s = .next u → LoadingOk u

/-- R76: from every state that meets it, every step keeps the Presence Table without two entries of one station and line, without an entry of the own
station, and with ages 0 to 2. -/
def Obligations.PresenceTableStaysSound : Prop :=
  ∀ s u : State, PresenceOk s → step s = .next u → PresenceOk u

/-- R50, R67: every step keeps a line in SIGNON exactly when it holds a context, and in SESSION exactly when it has a session record. -/
def Obligations.CallStatesMatchTheirRecords : Prop :=
  ∀ s u : State, LoadingOk s → CallsOk s → step s = .next u → CallsOk u

/-- R66, R72, R124: every step keeps the free charge slots at no fewer than the lines in SESSION and the admitted contexts together, so an append
never finds the queue full. -/
def Obligations.EverySessionHasAChargeSlot : Prop :=
  ∀ s u : State, LoadingOk s → CallsOk s → SlotsOk s → step s = .next u → SlotsOk u

/-- R115, R116: every step keeps the record serials pairwise distinct, at most four records offered, and the offered ones ahead of the others. -/
def Obligations.ChargeQueueStaysOrdered : Prop :=
  ∀ s u : State, LoadingOk s → CallsOk s → SlotsOk s → QueueOk s → step s = .next u → QueueOk u

/-- R31, R32: every step keeps the blocks on the lines' queues and the free list at exactly 160 together, and every line within its allowances. -/
def Obligations.BufferPoolIsConserved : Prop :=
  ∀ s u : State, LoadingOk s → PoolOk s → step s = .next u → PoolOk u

/-- R97, R102, R103, R106: every step keeps the clock in its ranges, every residue below 3,600 and every duration in its range, and a finite
allowance at 0 only with a grace counter or in a session already closing. -/
def Obligations.MetersStayInRange : Prop :=
  ∀ s u : State, ClockOk s → MetersOk s → GraceOk s → step s = .next u → ClockOk u ∧ MetersOk u ∧ GraceOk u

/-- R5, R155, R156: every step keeps each timer and measurement of a line record to the states it belongs to, every strike count at most 7, no request
listed twice, and the discard streak at most 2. -/
def Obligations.TimersAndStrikesStayInTheirStates : Prop :=
  ∀ s u : State, LoadingOk s → LinesOk s → RequestsOk s → step s = .next u → LinesOk u ∧ RequestsOk u
end

