-- ==== Sys2Proof/Laws/Settle.lean ====
section
/-! SUPPORT. What the closing work of an event leaves alone: `settle_kept`, and the same for each operation it is made of. -/

namespace Sys2Proof.Machine

/-! ## Tables -/

theorem tabulate_get {α : Type} {n : Nat} (f : Fin n → α) (i : Fin n) : (tabulate n f)[i] = f i := by
  simp [tabulate]

@[simp] theorem mapTable_get {α β : Type} {n : Nat} (v : Vector α n) (f : Fin n → α → β) (i : Fin n) :
    (mapTable v f)[i] = f i v[i] := tabulate_get _ i

@[simp] theorem mapTable_getElem {α β : Type} {n : Nat} (v : Vector α n) (f : Fin n → α → β) (k : Nat) (hk : k < n) :
    (mapTable v f)[k] = f ⟨k, hk⟩ v[k] := mapTable_get v f ⟨k, hk⟩

theorem vector_ext_fin {α : Type} {n : Nat} {v w : Vector α n} (h : ∀ i : Fin n, v[i] = w[i]) : v = w :=
  Vector.ext fun i hi => h ⟨i, hi⟩

@[simp] theorem vector_map_get {α β : Type} {n : Nat} (v : Vector α n) (f : α → β) (i : Fin n) : (v.map f)[i] = f v[i] := by
  simp

@[simp] theorem vector_set_get_self {α : Type} {n : Nat} (v : Vector α n) (i : Fin n) (x : α) : (v.set i x)[i] = x := by
  simp

theorem vector_set_get_ne {α : Type} {n : Nat} (v : Vector α n) {i j : Fin n} (x : α) (h : i ≠ j) : (v.set i x)[j] = v[j] := by
  have : (i : Nat) ≠ j := fun e => h (Fin.ext e)
  simp [this]

theorem vector_set_get {α : Type} {n : Nat} (v : Vector α n) (i j : Fin n) (x : α) :
    (v.set i x)[j] = if i = j then x else v[j] := by
  by_cases h : i = j
  · subst h; simp
  · simp [vector_set_get_ne _ _ h, h]

/-- A table with one entry replaced by one of equal image has the same images. -/
theorem vector_map_set_same {α β : Type} {n : Nat} (v : Vector α n) (f : α → β) (i : Fin n) (x : α) (h : f x = f v[i]) :
    (v.set i x).map f = v.map f := by
  refine vector_ext_fin fun j => ?_
  rw [vector_map_get, vector_map_get, vector_set_get]
  split
  · next e => subst e; exact h
  · rfl

/-! ## Operations for many lines -/

/-- What each step of `eachLine` leaves alone, the whole leaves alone. -/
theorem eachLine_keeps {α : Type} (g : State → α) (f : LineNo → State → State) (hf : ∀ n s, g (f n s) = g s)
    (ls : List LineNo) (s : State) : g (eachLine ls f s) = g s := by
  induction ls generalizing s with
  | nil => rfl
  | cons n ls ih => exact (ih (f n s)).trans (hf n s)

/-- What each step leaves alone, `freeLines` leaves alone, the draws apart. -/
theorem freeLines_keeps {α : Type} (g : State → α) (f : LineNo → State → State) (hf : ∀ n s, g (f n s) = g s)
    (hd : ∀ (s : State) k, g { s with draws := k } = g s) (fuel : Nat) (ls : List LineNo) (s : State) :
    g (freeLines fuel ls f s) = g s := by
  induction fuel generalizing ls s with
  | zero => simp [freeLines]
  | succ fuel ih =>
    match ls with
    | [] => simp [freeLines]
    | [n] => simpa [freeLines] using hf n s
    | n :: m :: rest =>
      simp only [freeLines]
      split
      · rfl
      · rw [ih, hf, hd]

theorem inFreeOrder_keeps {α : Type} (g : State → α) (f : LineNo → State → State) (hf : ∀ n s, g (f n s) = g s)
    (hd : ∀ (s : State) k, g { s with draws := k } = g s) (ls : List LineNo) (s : State) :
    g (inFreeOrder ls f s) = g s := freeLines_keeps g f hf hd _ ls s

/-! ## `kept` -/

@[simp] theorem kept_free (s : State) (k : Nat) : State.kept { s with free := k } = s.kept := rfl

@[simp] theorem kept_draws (s : State) (k : Nat) : State.kept { s with draws := k } = s.kept := rfl

@[simp] theorem kept_reqs (s : State) (q : List (ReqId × Req)) : State.kept { s with reqs := q } = s.kept := rfl

@[simp] theorem kept_setReq (s : State) (i : ReqId) (r : Req) : (s.setReq i r).kept = s.kept := rfl

@[simp] theorem kept_dropReq (s : State) (i : ReqId) : (s.dropReq i).kept = s.kept := rfl

@[simp] theorem kept_coalesced (s : State) : (s.count .requestsCoalesced).kept = s.kept := rfl

@[simp] theorem kept_replaced (s : State) : (s.count .noticesReplaced).kept = s.kept := rfl

@[simp] theorem kept_raise (s : State) (i : ReqId) : (s.raise i).kept = s.kept := by
  unfold State.raise; split <;> simp

theorem kept_setPath (s : State) (n : LineNo) (x : Path) (h : x.inward = s.path[n].inward) :
    (s.setPath n x).kept = s.kept := by
  simp only [State.kept, State.setPath, vector_map_set_same _ _ _ _ h]

theorem kept_updPath (s : State) (n : LineNo) (f : Path → Path) (h : ∀ p, (f p).inward = p.inward) :
    (s.updPath n f).kept = s.kept := kept_setPath s n _ (h _)

theorem kept_setSess (s : State) (n : LineNo) (x : Option Session)
    (h : x.map Session.metered = s.sess[n].map Session.metered) : (s.setSess n x).kept = s.kept := by
  simp only [State.kept, State.setSess, vector_map_set_same _ _ _ _ h]

theorem kept_setAsks (s : State) (n : LineNo) (x : Asks) (h : x.others = s.asks[n].others) :
    (s.setAsks n x).kept = s.kept := by
  simp only [State.kept, State.setAsks, vector_map_set_same _ _ _ _ h]

@[simp] theorem kept_setOut (s : State) (n : LineNo) (q : Queue) : (s.setOut n q).kept = s.kept := by
  have : (s.setOut n q).kept = (s.setPath n { s.path[n] with outQ := q }).kept := rfl
  rw [this]; exact kept_setPath s n _ rfl

@[simp] theorem kept_sendOut (s : State) (n : LineNo) (cs : List Char7) : (s.sendOut n cs).kept = s.kept := kept_setOut s n _

@[simp] theorem kept_flush (s : State) (n : LineNo) : (s.flush n).kept = s.kept := kept_setOut s n _

@[simp] theorem kept_takeText (s : State) (n : LineNo) (t : Text) : (s.takeText n t).kept = s.kept := by
  unfold State.takeText
  split
  · rw [kept_replaced]; exact kept_updPath s n _ fun _ => rfl
  · split
    · simp
    · exact kept_updPath s n _ fun _ => rfl

@[simp] theorem kept_noticeText (s : State) (n : LineNo) (t : Text) : (s.noticeText n t).kept = s.kept := by
  unfold State.noticeText; split <;> simp

@[simp] theorem kept_signOnText (s : State) (n : LineNo) (t : Text) : (s.signOnText n t).kept = s.kept := by
  unfold State.signOnText; split <;> simp

@[simp] theorem kept_noticeMessages (ms : List (Fin 16)) (n : LineNo) (s : State) :
    (State.noticeMessages ms n s).kept = s.kept := by
  unfold State.noticeMessages
  induction ms generalizing s with
  | nil => rfl
  | cons m ms ih => simpa using ih (s.noticeText n (messageText [m]))

@[simp] theorem kept_closeCause (n : LineNo) (r : CloseReason) (s : State) : (s.closeCause n r).kept = s.kept := by
  unfold State.closeCause
  split
  · rfl
  · next x hx =>
    have h1 : ∀ y : Session, y.metered = x.metered → (s.setSess n (some y)).kept = s.kept := fun y hy =>
      kept_setSess s n _ (by simp [hx, hy])
    split
    · simp only []
      split
      · exact h1 _ rfl
      · rw [kept_setAsks _ n _ (by rfl)]; exact h1 _ rfl
    · rfl

theorem holdTest_metered (s : State) (x : Session) : (s.holdTest x).metered = x.metered := by
  unfold State.holdTest; repeat' split
  all_goals rfl

@[simp] theorem kept_testHold (s : State) : s.testHold.kept = s.kept := by
  unfold State.testHold
  rw [inFreeOrder_keeps State.kept _ (fun n s => kept_noticeMessages _ n s) (fun s k => kept_draws s k)]
  have : (mapTable s.sess fun _ x => x.map s.holdTest).map (fun x => x.map Session.metered) =
      s.sess.map fun x => x.map Session.metered := by
    refine vector_ext_fin fun i => ?_
    rw [vector_map_get, vector_map_get, mapTable_get]
    cases s.sess[i] <;> simp [holdTest_metered]
  simp only [State.kept, this]

theorem offerOldest_unoffer (now : Moment) (q : List Queued) :
    (offerOldest now q).map Queued.unoffer = q.map Queued.unoffer := by
  induction q with
  | nil => rfl
  | cons r rest ih =>
    unfold offerOldest; split
    · simp [ih]
    · simp [Queued.unoffer]

theorem kept_setQueue (s : State) (q : List Queued) (h : q.map Queued.unoffer = s.queue.map Queued.unoffer) :
    State.kept { s with queue := q } = s.kept := by
  simp only [State.kept, h]

@[simp] theorem kept_offerOne (s : State) : s.offerOne.kept = s.kept := by
  unfold State.offerOne
  split
  · split
    · rw [kept_raise]; exact kept_setQueue s _ (offerOldest_unoffer _ _)
    · rfl
  · rfl

@[simp] theorem kept_updateOffers (s : State) : s.updateOffers.kept = s.kept := by
  unfold State.updateOffers
  split
  · simp
  · exact kept_setQueue s _ (by simp [Queued.unoffer])

@[simp] theorem kept_serveText (s : State) (n : LineNo) : (s.serveText n).kept = s.kept := by
  unfold State.serveText
  split
  · rfl
  · simp only [kept_sendOut]; exact kept_updPath s n _ fun _ => rfl

@[simp] theorem kept_startTx (s : State) (n : LineNo) : (s.startTx n).kept = s.kept := by
  unfold State.startTx
  split
  · split
    · exact kept_updPath s n _ fun _ => rfl
    · split
      · rfl
      · rw [kept_updPath]
        · simp
        · intro; rfl
  · rfl

theorem kept_serveOnce {s s' : State} (h : s.serveOnce = some s') : s'.kept = s.kept := by
  unfold State.serveOnce at h
  split at h
  · split at h
    · cases h
    · cases h; exact eachLine_keeps State.kept _ (fun n s => kept_startTx s n) _ s
  · cases h; simp
  · split at h
    · cases h
    · cases h; simp

@[simp] theorem kept_serve (k : Nat) (s : State) : (State.serve k s).kept = s.kept := by
  induction k generalizing s with
  | zero => rfl
  | succ k ih =>
    unfold State.serve; split
    · rfl
    · next h => rw [ih, kept_serveOnce h]

@[simp] theorem kept_updateFlow (n : LineNo) (s : State) : (s.updateFlow n).kept = s.kept := by
  unfold State.updateFlow
  split
  · rfl
  · rw [kept_raise]; exact kept_updPath s n _ fun _ => rfl

@[simp] theorem kept_reportDrained (n : LineNo) (s : State) : (s.reportDrained n).kept = s.kept := by
  unfold State.reportDrained
  split
  · split
    · exact kept_setAsks s n _ rfl
    · split
      · split <;> simp
      · rfl
    · rfl
  · rfl

@[simp] theorem kept_raiseDataIn (before : State) (n : LineNo) (s : State) : (State.raiseDataIn before n s).kept = s.kept := by
  unfold State.raiseDataIn; split <;> simp

@[simp] theorem kept_raiseLineState (before : State) (every : Bool) (n : LineNo) (s : State) :
    (State.raiseLineState before every n s).kept = s.kept := by
  unfold State.raiseLineState
  split
  · split <;> simp
  · rfl

/-- The closing work of an event leaves alone everything that `State.kept` keeps. -/
theorem settle_kept (s before : State) (every : Bool) : (s.settle before every).kept = s.kept := by
  unfold State.settle
  split
  · simp only []
    rw [eachLine_keeps State.kept _ (fun n s => kept_raiseLineState before every n s),
      eachLine_keeps State.kept _ (fun n s => kept_raiseDataIn before n s),
      eachLine_keeps State.kept _ (fun n s => kept_reportDrained n s),
      eachLine_keeps State.kept _ (fun n s => kept_updateFlow n s)]
    simp
  · rfl

/-- One event agrees with its effect in everything that `State.kept` keeps. -/
theorem event_kept (s : State) (t : Moment) (effect : State → State) : (s.event t effect).kept = (effect (s.at t)).kept :=
  settle_kept _ _ _

theorem eventForAll_kept (s : State) (t : Moment) (effect : State → State) :
    (s.eventForAll t effect).kept = (effect (s.at t)).kept := settle_kept _ _ _

end Sys2Proof.Machine
end

