-- ==== Sys2Proof/Laws/Kept.lean ====
section
/-! SUPPORT. What two states of equal `State.kept` agree in, field by field; and so what one event leaves as its effect gave it. -/

namespace Sys2Proof.Machine

variable {u t : State}

theorem eq_of_kept_now (h : u.kept = t.kept) : u.now = t.now :=
  show u.kept.now = t.kept.now from h ▸ rfl
theorem eq_of_kept_loader (h : u.kept = t.kept) : u.loader = t.loader :=
  show u.kept.loader = t.kept.loader from h ▸ rfl
theorem eq_of_kept_restartPin (h : u.kept = t.kept) : u.restartPin = t.restartPin :=
  show u.kept.restartPin = t.kept.restartPin from h ▸ rfl
theorem eq_of_kept_station (h : u.kept = t.kept) : u.station = t.station :=
  show u.kept.station = t.kept.station from h ▸ rfl
theorem eq_of_kept_cfg (h : u.kept = t.kept) : u.cfg = t.cfg :=
  show u.kept.cfg = t.kept.cfg from h ▸ rfl
theorem eq_of_kept_configClamped (h : u.kept = t.kept) : u.configClamped = t.configClamped :=
  show u.kept.configClamped = t.kept.configClamped from h ▸ rfl
theorem eq_of_kept_sup (h : u.kept = t.kept) : u.sup = t.sup :=
  show u.kept.sup = t.kept.sup from h ▸ rfl
theorem eq_of_kept_sign (h : u.kept = t.kept) : u.sign = t.sign :=
  show u.kept.sign = t.kept.sign from h ▸ rfl
theorem eq_of_kept_claims (h : u.kept = t.kept) : u.claims = t.claims :=
  show u.kept.claims = t.kept.claims from h ▸ rfl
theorem eq_of_kept_run (h : u.kept = t.kept) : u.run = t.run :=
  show u.kept.run = t.kept.run from h ▸ rfl
theorem eq_of_kept_result (h : u.kept = t.kept) : u.result = t.result :=
  show u.kept.result = t.kept.result from h ▸ rfl
theorem eq_of_kept_requestSerial (h : u.kept = t.kept) : u.requestSerial = t.requestSerial :=
  show u.kept.requestSerial = t.kept.requestSerial from h ▸ rfl
theorem eq_of_kept_sessionSerial (h : u.kept = t.kept) : u.sessionSerial = t.sessionSerial :=
  show u.kept.sessionSerial = t.kept.sessionSerial from h ▸ rfl
theorem eq_of_kept_recordSerial (h : u.kept = t.kept) : u.recordSerial = t.recordSerial :=
  show u.kept.recordSerial = t.kept.recordSerial from h ▸ rfl
theorem eq_of_kept_presence (h : u.kept = t.kept) : u.presence = t.presence :=
  show u.kept.presence = t.kept.presence from h ▸ rfl
theorem eq_of_kept_roster (h : u.kept = t.kept) : u.roster = t.roster :=
  show u.kept.roster = t.kept.roster from h ▸ rfl
theorem eq_of_kept_refreshTimer (h : u.kept = t.kept) : u.refreshTimer = t.refreshTimer :=
  show u.kept.refreshTimer = t.kept.refreshTimer from h ▸ rfl
theorem eq_of_kept_beaconTimer (h : u.kept = t.kept) : u.beaconTimer = t.beaconTimer :=
  show u.kept.beaconTimer = t.kept.beaconTimer from h ▸ rfl
theorem eq_of_kept_timebase (h : u.kept = t.kept) : u.timebase = t.timebase :=
  show u.kept.timebase = t.kept.timebase from h ▸ rfl
theorem eq_of_kept_clock (h : u.kept = t.kept) : u.clock = t.clock :=
  show u.kept.clock = t.kept.clock from h ▸ rfl
theorem eq_of_kept_slots (h : u.kept = t.kept) : u.slots = t.slots :=
  show u.kept.slots = t.kept.slots from h ▸ rfl
theorem eq_of_kept_drain (h : u.kept = t.kept) : u.drain = t.drain :=
  show u.kept.drain = t.kept.drain from h ▸ rfl
theorem eq_of_kept_clashTimer (h : u.kept = t.kept) : u.clashTimer = t.clashTimer :=
  show u.kept.clashTimer = t.kept.clashTimer from h ▸ rfl
theorem eq_of_kept_bus (h : u.kept = t.kept) : u.bus = t.bus :=
  show u.kept.bus = t.kept.bus from h ▸ rfl
theorem eq_of_kept_freshAnnounced (h : u.kept = t.kept) : u.freshAnnounced = t.freshAnnounced :=
  show u.kept.freshAnnounced = t.kept.freshAnnounced from h ▸ rfl
theorem eq_of_kept_quietTimer (h : u.kept = t.kept) : u.quietTimer = t.quietTimer :=
  show u.kept.quietTimer = t.kept.quietTimer from h ▸ rfl
theorem eq_of_kept_streak (h : u.kept = t.kept) : u.streak = t.streak :=
  show u.kept.streak = t.kept.streak from h ▸ rfl
theorem eq_of_kept_wire (h : u.kept = t.kept) : u.wire = t.wire :=
  show u.kept.wire = t.kept.wire from h ▸ rfl
theorem eq_of_kept_rotation (h : u.kept = t.kept) : u.rotation = t.rotation :=
  show u.kept.rotation = t.kept.rotation from h ▸ rfl
theorem eq_of_kept_orderSlots (h : u.kept = t.kept) : u.orderSlots = t.orderSlots :=
  show u.kept.orderSlots = t.kept.orderSlots from h ▸ rfl
theorem eq_of_kept_echo (h : u.kept = t.kept) : u.echo = t.echo :=
  show u.kept.echo = t.kept.echo from h ▸ rfl
theorem eq_of_kept_pending (h : u.kept = t.kept) : u.pending = t.pending :=
  show u.kept.pending = t.kept.pending from h ▸ rfl

theorem eq_of_kept_asks (h : u.kept = t.kept) (n : LineNo) : u.asks[n].others = t.asks[n].others := by
  simpa [State.kept] using congrArg (fun s => s.asks[n]) h

theorem eq_of_kept_path (h : u.kept = t.kept) (n : LineNo) : u.path[n].inward = t.path[n].inward := by
  simpa [State.kept] using congrArg (fun s => s.path[n]) h

theorem eq_of_kept_sess (h : u.kept = t.kept) (n : LineNo) :
    u.sess[n].map Session.metered = t.sess[n].map Session.metered := by
  simpa [State.kept] using congrArg (fun s => s.sess[n]) h

/-- The records of the Charge Queue, in their order, their offer states apart. -/
theorem eq_of_kept_charges (h : u.kept = t.kept) : u.queue.map Queued.charge = t.queue.map Queued.charge := by
  simpa [State.kept, Function.comp_def, Queued.unoffer] using congrArg (fun s => s.queue.map Queued.charge) h

/-! ## One event -/

@[simp] theorem settle_now (s before : State) (every : Bool) : (s.settle before every).now = s.now :=
  eq_of_kept_now (settle_kept s before every)
@[simp] theorem settle_loader (s before : State) (every : Bool) : (s.settle before every).loader = s.loader :=
  eq_of_kept_loader (settle_kept s before every)
@[simp] theorem settle_restartPin (s before : State) (every : Bool) : (s.settle before every).restartPin = s.restartPin :=
  eq_of_kept_restartPin (settle_kept s before every)
@[simp] theorem settle_station (s before : State) (every : Bool) : (s.settle before every).station = s.station :=
  eq_of_kept_station (settle_kept s before every)
@[simp] theorem settle_cfg (s before : State) (every : Bool) : (s.settle before every).cfg = s.cfg :=
  eq_of_kept_cfg (settle_kept s before every)
@[simp] theorem settle_configClamped (s before : State) (every : Bool) : (s.settle before every).configClamped = s.configClamped :=
  eq_of_kept_configClamped (settle_kept s before every)
@[simp] theorem settle_sup (s before : State) (every : Bool) : (s.settle before every).sup = s.sup :=
  eq_of_kept_sup (settle_kept s before every)
@[simp] theorem settle_sign (s before : State) (every : Bool) : (s.settle before every).sign = s.sign :=
  eq_of_kept_sign (settle_kept s before every)
@[simp] theorem settle_claims (s before : State) (every : Bool) : (s.settle before every).claims = s.claims :=
  eq_of_kept_claims (settle_kept s before every)
@[simp] theorem settle_run (s before : State) (every : Bool) : (s.settle before every).run = s.run :=
  eq_of_kept_run (settle_kept s before every)
@[simp] theorem settle_result (s before : State) (every : Bool) : (s.settle before every).result = s.result :=
  eq_of_kept_result (settle_kept s before every)
@[simp] theorem settle_requestSerial (s before : State) (every : Bool) : (s.settle before every).requestSerial = s.requestSerial :=
  eq_of_kept_requestSerial (settle_kept s before every)
@[simp] theorem settle_sessionSerial (s before : State) (every : Bool) : (s.settle before every).sessionSerial = s.sessionSerial :=
  eq_of_kept_sessionSerial (settle_kept s before every)
@[simp] theorem settle_recordSerial (s before : State) (every : Bool) : (s.settle before every).recordSerial = s.recordSerial :=
  eq_of_kept_recordSerial (settle_kept s before every)
@[simp] theorem settle_presence (s before : State) (every : Bool) : (s.settle before every).presence = s.presence :=
  eq_of_kept_presence (settle_kept s before every)
@[simp] theorem settle_roster (s before : State) (every : Bool) : (s.settle before every).roster = s.roster :=
  eq_of_kept_roster (settle_kept s before every)
@[simp] theorem settle_refreshTimer (s before : State) (every : Bool) : (s.settle before every).refreshTimer = s.refreshTimer :=
  eq_of_kept_refreshTimer (settle_kept s before every)
@[simp] theorem settle_beaconTimer (s before : State) (every : Bool) : (s.settle before every).beaconTimer = s.beaconTimer :=
  eq_of_kept_beaconTimer (settle_kept s before every)
@[simp] theorem settle_timebase (s before : State) (every : Bool) : (s.settle before every).timebase = s.timebase :=
  eq_of_kept_timebase (settle_kept s before every)
@[simp] theorem settle_clock (s before : State) (every : Bool) : (s.settle before every).clock = s.clock :=
  eq_of_kept_clock (settle_kept s before every)
@[simp] theorem settle_slots (s before : State) (every : Bool) : (s.settle before every).slots = s.slots :=
  eq_of_kept_slots (settle_kept s before every)
@[simp] theorem settle_drain (s before : State) (every : Bool) : (s.settle before every).drain = s.drain :=
  eq_of_kept_drain (settle_kept s before every)
@[simp] theorem settle_clashTimer (s before : State) (every : Bool) : (s.settle before every).clashTimer = s.clashTimer :=
  eq_of_kept_clashTimer (settle_kept s before every)
@[simp] theorem settle_bus (s before : State) (every : Bool) : (s.settle before every).bus = s.bus :=
  eq_of_kept_bus (settle_kept s before every)
@[simp] theorem settle_freshAnnounced (s before : State) (every : Bool) : (s.settle before every).freshAnnounced = s.freshAnnounced :=
  eq_of_kept_freshAnnounced (settle_kept s before every)
@[simp] theorem settle_quietTimer (s before : State) (every : Bool) : (s.settle before every).quietTimer = s.quietTimer :=
  eq_of_kept_quietTimer (settle_kept s before every)
@[simp] theorem settle_streak (s before : State) (every : Bool) : (s.settle before every).streak = s.streak :=
  eq_of_kept_streak (settle_kept s before every)
@[simp] theorem settle_wire (s before : State) (every : Bool) : (s.settle before every).wire = s.wire :=
  eq_of_kept_wire (settle_kept s before every)
@[simp] theorem settle_rotation (s before : State) (every : Bool) : (s.settle before every).rotation = s.rotation :=
  eq_of_kept_rotation (settle_kept s before every)
@[simp] theorem settle_orderSlots (s before : State) (every : Bool) : (s.settle before every).orderSlots = s.orderSlots :=
  eq_of_kept_orderSlots (settle_kept s before every)
@[simp] theorem settle_echo (s before : State) (every : Bool) : (s.settle before every).echo = s.echo :=
  eq_of_kept_echo (settle_kept s before every)
@[simp] theorem settle_pending (s before : State) (every : Bool) : (s.settle before every).pending = s.pending :=
  eq_of_kept_pending (settle_kept s before every)

end Sys2Proof.Machine
end

