-- ==== Sys2Proof/Laws/Requests.lean ====
section
/-! SUPPORT. The transmit request set, and what the closing work of an event keeps true: an induction over the closing work, pending
requests stay pending, closing sessions and waiting requests of the Line Supervisor stay as they stand. -/

namespace Sys2Proof.Machine

/-! ## Reading and writing a request -/

theorem reqOf_filter (q : List (ReqId × Req)) (i j : ReqId) :
    reqOf (q.filter fun p => p.1 ≠ i) j = if j = i then Req.idle else reqOf q j := by
  induction q with
  | nil => simp [reqOf]
  | cons p q ih =>
    obtain ⟨k, r⟩ := p
    by_cases hk : k = i
    · subst hk
      simp only [ne_eq, not_true_eq_false, decide_false, Bool.false_eq_true, not_false_eq_true, List.filter_cons_of_neg, ih]
      split
      · rfl
      · next h => simp [reqOf, Ne.symm h]
    · rw [List.filter_cons_of_pos (by simpa using hk)]
      by_cases hj : k = j
      · subst hj; simp [reqOf, hk]
      · simp only [reqOf, hj, if_false, ih]

theorem reqOf_putReq (q : List (ReqId × Req)) (i j : ReqId) (r : Req) :
    reqOf (putReq q i r) j = if j = i then r else reqOf q j := by
  unfold putReq
  split
  · next h => rw [reqOf_filter]; simp [h]
  · by_cases hj : i = j
    · subst hj; simp [reqOf]
    · have hj' : ¬j = i := fun e => hj e.symm
      simp only [reqOf, hj, if_false, reqOf_filter, hj']

theorem req_setReq (s : State) (i j : ReqId) (r : Req) : (s.setReq i r).req j = if j = i then r else s.req j :=
  reqOf_putReq s.reqs i j r

@[simp] theorem req_setReq_self (s : State) (i : ReqId) (r : Req) : (s.setReq i r).req i = r := by simp [req_setReq]

@[simp] theorem req_count (s : State) (c : CounterId) (i : ReqId) : (s.count c).req i = s.req i := rfl

/-- A raised request is pending (R156). -/
@[simp] theorem raised_pending (s : State) (i : ReqId) : ((s.raise i).req i).pending = true := by
  unfold State.raise
  split
  · next h => simpa using h
  · simp

/-- Raising one request leaves the others as they stand, and keeps this one's strike count (R156). -/
theorem req_raise (s : State) (i j : ReqId) :
    (s.raise i).req j = if j = i then { s.req i with pending := true } else s.req j := by
  unfold State.raise
  split
  · next h =>
    by_cases hj : j = i
    · subst hj; simp [← h]
    · simp [hj]
  · rw [req_setReq]

theorem raise_keeps_pending (s : State) (i j : ReqId) (h : (s.req j).pending = true) : ((s.raise i).req j).pending = true := by
  rw [req_raise]; split
  · rfl
  · exact h

/-! ## An induction over the closing work -/

theorem eachLine_induction (P : State → Prop) (f : LineNo → State → State) (hf : ∀ n s, P s → P (f n s)) (ls : List LineNo)
    (s : State) (h : P s) : P (eachLine ls f s) := by
  induction ls generalizing s with
  | nil => exact h
  | cons n ls ih => exact ih _ (hf n s h)

theorem freeLines_induction (P : State → Prop) (f : LineNo → State → State) (hf : ∀ n s, P s → P (f n s))
    (hd : ∀ (s : State) k, P s → P { s with draws := k }) (fuel : Nat) (ls : List LineNo) (s : State) (h : P s) :
    P (freeLines fuel ls f s) := by
  induction fuel generalizing ls s with
  | zero => simpa [freeLines] using h
  | succ fuel ih =>
    match ls with
    | [] => simpa [freeLines] using h
    | [n] => simpa [freeLines] using hf n s h
    | n :: m :: rest =>
      simp only [freeLines]
      split
      · exact h
      · exact ih _ _ (hf _ _ (hd _ _ h))

/-- What the primitive moves of the closing work keep true. -/
structure ClosingMoves (P : State → Prop) : Prop where
  /-- Characters move, a text waits or is appended, the own FLOW state changes. -/
  path : ∀ (s : State) (n : LineNo) (p : Path) (k : Nat), p.inward = s.path[n].inward → P s → P { s.setPath n p with free := k }
  count : ∀ (s : State) (c : CounterId), c = .requestsCoalesced ∨ c = .noticesReplaced → P s → P (s.count c)
  raise : ∀ (s : State) (i : ReqId), P s → P (s.raise i)
  close : ∀ (s : State) (n : LineNo) (x : Session), s.sess[n] = some x → x.endMark = true → P s → P (s.closeCause n .ended)
  hold : ∀ s : State, P s → P { s with sess := mapTable s.sess fun _ x => x.map s.holdTest }
  queue : ∀ (s : State) (q : List Queued), q = offerOldest s.now s.queue ∨ q = s.queue.map Queued.unoffer → P s →
    P { s with queue := q }
  drained : ∀ (s : State) (n : LineNo), P s → P (s.setAsks n { s.asks[n] with drained := true })
  draws : ∀ (s : State) (k : Nat), P s → P { s with draws := k }

namespace ClosingMoves

variable {P : State → Prop} (m : ClosingMoves P)
include m

theorem updPath (s : State) (n : LineNo) (f : Path → Path) (hf : ∀ p, (f p).inward = p.inward) (h : P s) :
    P (s.updPath n f) := m.path s n _ s.free (hf _) h

theorem setOut (s : State) (n : LineNo) (q : Queue) (h : P s) : P (s.setOut n q) := m.path s n _ _ rfl h

theorem takeText (s : State) (n : LineNo) (t : Text) (h : P s) : P (s.takeText n t) := by
  unfold State.takeText
  split
  · exact m.count _ _ (.inr rfl) (m.updPath s n _ (fun _ => rfl) h)
  · split
    · exact m.setOut s n _ h
    · exact m.updPath s n _ (fun _ => rfl) h

theorem noticeMessages (ms : List (Fin 16)) (n : LineNo) (s : State) (h : P s) : P (State.noticeMessages ms n s) := by
  unfold State.noticeMessages
  induction ms generalizing s with
  | nil => exact h
  | cons i ms ih =>
    refine ih _ ?_
    show P (s.noticeText n (messageText [i]))
    unfold State.noticeText; split
    · exact m.takeText s n _ h
    · exact h

theorem testHold (s : State) (h : P s) : P s.testHold :=
  freeLines_induction P _ (fun n s h => m.noticeMessages _ n s h) m.draws _ _ _ (m.hold s h)

theorem offerOne (s : State) (h : P s) : P s.offerOne := by
  unfold State.offerOne
  split
  · split
    · exact m.raise _ _ (m.queue s _ (.inl rfl) h)
    · exact h
  · exact h

theorem updateOffers (s : State) (h : P s) : P s.updateOffers := by
  unfold State.updateOffers
  split
  · exact m.offerOne _ (m.offerOne _ (m.offerOne _ (m.offerOne _ h)))
  · exact m.queue s _ (.inr rfl) h

theorem serveText (s : State) (n : LineNo) (h : P s) : P (s.serveText n) := by
  unfold State.serveText
  split
  · exact h
  · exact m.setOut _ n _ (m.updPath s n _ (fun _ => rfl) h)

theorem startTx (s : State) (n : LineNo) (h : P s) : P (s.startTx n) := by
  unfold State.startTx
  split
  · split
    · exact m.updPath s n _ (fun _ => rfl) h
    · split
      · exact h
      · exact m.updPath _ n _ (fun _ => rfl) (m.setOut s n _ h)
  · exact h

theorem serve (k : Nat) (s : State) (h : P s) : P (State.serve k s) := by
  induction k generalizing s with
  | zero => exact h
  | succ k ih =>
    unfold State.serve; split
    · exact h
    · next s' hs =>
      refine ih s' ?_
      unfold State.serveOnce at hs
      split at hs
      · split at hs
        · cases hs
        · cases hs; exact eachLine_induction P _ (fun n s h => m.startTx s n h) _ _ h
      · cases hs; exact m.serveText s _ h
      · split at hs
        · cases hs
        · cases hs; exact m.serveText _ _ (m.draws s _ h)

theorem updateFlow (n : LineNo) (s : State) (h : P s) : P (s.updateFlow n) := by
  unfold State.updateFlow
  split
  · exact h
  · exact m.raise _ _ (m.updPath s n _ (fun _ => rfl) h)

theorem reportDrained (n : LineNo) (s : State) (h : P s) : P (s.reportDrained n) := by
  unfold State.reportDrained
  split
  · split
    · exact m.drained s n h
    · split
      · next x hx =>
        split
        · next he => exact m.close s n x hx he h
        · exact h
      · exact h
    · exact h
  · exact h

theorem raiseDataIn (before : State) (n : LineNo) (s : State) (h : P s) : P (State.raiseDataIn before n s) := by
  unfold State.raiseDataIn; split
  · exact m.raise s _ h
  · exact h

theorem raiseLineState (before : State) (every : Bool) (n : LineNo) (s : State) (h : P s) :
    P (State.raiseLineState before every n s) := by
  unfold State.raiseLineState
  split
  · split
    · exact m.raise s _ h
    · exact h
  · exact h

/-- What every primitive move keeps true, the closing work keeps true. -/
theorem settle (s before : State) (every : Bool) (h : P s) : P (s.settle before every) := by
  unfold State.settle
  split
  · exact eachLine_induction P _ (m.raiseLineState before every) _ _
      (eachLine_induction P _ (m.raiseDataIn before) _ _
        (eachLine_induction P _ m.reportDrained _ _
          (eachLine_induction P _ m.updateFlow _ _ (m.serve _ _ (m.updateOffers _ (m.testHold _ h))))))
  · exact h

end ClosingMoves

/-! ## What the closing work keeps -/

theorem closeCause_reqs (n : LineNo) (r : CloseReason) (s : State) : (s.closeCause n r).reqs = s.reqs := by
  unfold State.closeCause; repeat' split
  all_goals simp [State.setSess, State.setAsks]

/-- No move of the closing work takes a pending flag away. -/
theorem pending_closingMoves (i : ReqId) : ClosingMoves fun s => (s.req i).pending = true :=
    { path := fun _ _ _ _ _ h => h
      count := fun _ _ _ h => h
      raise := fun s j h => raise_keeps_pending s j i h
      close := fun s n _ _ _ h => by simpa only [State.req, closeCause_reqs] using h
      hold := fun _ h => h
      queue := fun _ _ _ h => h
      drained := fun _ _ h => h
      draws := fun _ _ h => h }

/-- A pending request is still pending after the closing work. -/
theorem settle_keeps_pending (s before : State) (every : Bool) (i : ReqId) (h : (s.req i).pending = true) :
    ((s.settle before every).req i).pending = true := (pending_closingMoves i).settle s before every h

/-- The strike counts are not touched by the closing work. -/
theorem settle_strikes (s before : State) (every : Bool) (i : ReqId) :
    ((s.settle before every).req i).strikes = (s.req i).strikes :=
  ClosingMoves.settle (P := fun u => (u.req i).strikes = (s.req i).strikes)
    { path := fun _ _ _ _ _ h => h
      count := fun _ _ _ h => h
      raise := fun u j h => by
        rw [req_raise]
        split
        · next e => subst e; exact h
        · exact h
      close := fun u n _ _ _ h => by simpa only [State.req, closeCause_reqs] using h
      hold := fun _ h => h
      queue := fun _ _ _ h => h
      drained := fun _ _ h => h
      draws := fun _ _ h => h } s before every rfl

theorem closeCause_closing (s : State) (n m : LineNo) (r : CloseReason) (x : Session) (hx : x.reason ≠ none)
    (h : s.sess[m] = some x) : (s.closeCause n r).sess[m] = some x := by
  unfold State.closeCause
  split
  · exact h
  · next y hy =>
    by_cases hn : n = m
    · subst hn
      rw [h] at hy; cases hy
      simp [hx, h]
    · split
      · simp only []
        split <;> simp only [State.setSess, State.setAsks, vector_set_get_ne _ _ hn, h]
      · exact h

/-- A session whose close reason is set stands unchanged through the closing work (R71). -/
theorem settle_closing (s before : State) (every : Bool) (n : LineNo) (x : Session) (hx : x.reason ≠ none)
    (h : s.sess[n] = some x) : (s.settle before every).sess[n] = some x :=
  ClosingMoves.settle (P := fun s => s.sess[n] = some x)
    { path := fun _ _ _ _ _ h => h
      count := fun _ _ _ h => h
      raise := fun s i h => by unfold State.raise; split <;> simpa [State.count, State.setReq] using h
      close := fun s m _ _ _ h => closeCause_closing s m n .ended x hx h
      hold := fun s h => by
        show (mapTable s.sess fun _ x => x.map s.holdTest)[n] = some x
        rw [mapTable_get, h]; simp [State.holdTest, hx]
      queue := fun _ _ _ h => h
      drained := fun _ _ h => h
      draws := fun _ _ h => h } s before every h

theorem asks_set_drained (s : State) (n m : LineNo) (h : s.asks[m].close = true) :
    (s.setAsks n { s.asks[n] with drained := true }).asks[m].close = true := by
  by_cases hn : n = m
  · subst hn; simpa [State.setAsks] using h
  · simp only [State.setAsks, vector_set_get_ne _ _ hn, h]

theorem closeCause_close (s : State) (n m : LineNo) (r : CloseReason) (h : s.asks[m].close = true) :
    (s.closeCause n r).asks[m].close = true := by
  unfold State.closeCause
  split
  · exact h
  · split
    · simp only []
      split
      · exact h
      · by_cases hn : n = m
        · subst hn; simp [State.setSess, State.setAsks]
        · simp only [State.setSess, State.setAsks, vector_set_get_ne _ _ hn, h]
    · exact h

/-- A close request that waits still waits after the closing work. -/
theorem settle_close (s before : State) (every : Bool) (n : LineNo) (h : s.asks[n].close = true) :
    (s.settle before every).asks[n].close = true :=
  ClosingMoves.settle (P := fun s => s.asks[n].close = true)
    { path := fun _ _ _ _ _ h => h
      count := fun _ _ _ h => h
      raise := fun s i h => by unfold State.raise; split <;> simpa [State.count, State.setReq] using h
      close := fun s m _ _ _ h => closeCause_close s m n .ended h
      hold := fun _ h => h
      queue := fun _ _ _ h => h
      drained := fun s m h => asks_set_drained s m n h
      draws := fun _ _ h => h } s before every h

/-! ## The refresh expiry (R83) -/

/-- What `refreshTables` can do: the Presence Table takes the expiry before the Group Status Unit or after it, and only the counter of free choices
moves besides. -/
theorem refreshTables_cases (s : State) :
    ∃ k, s.refreshTables = { s.refreshPresence.ageSlots with draws := k } ∨
      s.refreshTables = { s.ageSlots.refreshPresence with draws := k } := by
  generalize ha : s.refreshPresence.ageSlots = a
  generalize hb : s.ageSlots.refreshPresence = b
  unfold State.refreshTables
  rw [ha, hb]
  dsimp only
  split
  · exact ⟨a.draws, .inl rfl⟩
  · split
    · exact ⟨_, .inl rfl⟩
    · exact ⟨_, .inr rfl⟩

end Sys2Proof.Machine
end

