-- ==== Sys2Proof/Laws/Heard.lean ====
section
/-! SUPPORT. What hearing a station changes: its roster age, and beyond that only what the closing work and CONFIRM requests may write. -/

namespace Sys2Proof.Machine

theorem core_of_kept {u t : State} (h : u.kept = t.kept) : u.core = t.core := by
  have hc : u.claims = t.claims := eq_of_kept_claims h
  simp only [State.core, h, hc]

@[simp] theorem core_draws (s : State) (k : Nat) : State.core { s with draws := k } = s.core := rfl

@[simp] theorem core_raise (s : State) (i : ReqId) : (s.raise i).core = s.core := core_of_kept (kept_raise s i)

theorem core_setClaims (s : State) (n : LineNo) (b : Bool) :
    (s.setClaims n { s.claims[n] with admitConfirm := b }).core = s.core := by
  have : (s.claims.set n { s.claims[n] with admitConfirm := b }).map (fun c => { c with admitConfirm := false }) =
      s.claims.map fun c => { c with admitConfirm := false } := vector_map_set_same _ _ _ _ rfl
  simp only [State.core, State.kept, State.setClaims, this]

theorem core_updSess_confirm (s : State) (n : LineNo) (c : Option Confirm) :
    (s.updSess n fun x => { x with confirm := c }).core = s.core := by
  unfold State.updSess
  split
  · rfl
  · next x hx => exact core_of_kept (kept_setSess s n _ (by simp [hx, Session.metered]))

@[simp] theorem core_raiseConfirm (n : LineNo) (s : State) : (s.raiseConfirm n).core = s.core := by
  unfold State.raiseConfirm
  simp only [core_raise, core_setClaims]
  rw [core_updSess_confirm]
  rfl

@[simp] theorem core_raiseConfirms (s : State) : s.raiseConfirms.core = s.core :=
  inFreeOrder_keeps State.core _ (fun n s => core_raiseConfirm n s) core_draws _ s

theorem clearChannelHold_none (s : State) (p : LineNo → Bool) (h : ∀ n, p n = false) : s.clearChannelHold p = s := by
  have : (mapTable s.path fun n x => if p n then { x with channelHold := false } else x) = s.path :=
    vector_ext_fin fun i => by rw [mapTable_get, h i]; simp
  simp only [State.clearChannelHold, this]

/-- Hearing a station turns no channel station absent (R86, R88). -/
theorem channelTurnedAbsent_heard (s : State) (i : Station) (n : LineNo) :
    State.channelTurnedAbsent { s with roster := s.roster.set i { s.roster[i] with age := 0 } } s.roster n = false := by
  simp only [State.channelTurnedAbsent]
  split
  · next x hx =>
    rw [vector_set_get]
    split
    · next e =>
      subst e
      simp only [RosterEntry.channel, RosterEntry.present]
      cases s.roster[x.channel].roles.channel <;> simp
    · cases s.roster[x.channel].channel <;> rfl
  · rfl

/-- Hearing a station: its age becomes 0, and beyond what `State.core` leaves out nothing else changes (R86). -/
theorem hear_core (s : State) (i : Station) : (s.hear i).core = (s.heard i).core := by
  unfold State.hear State.changeRoster State.heard
  split
  · rfl
  · unfold State.reactRoster
    rw [clearChannelHold_none _ _ fun n => channelTurnedAbsent_heard s i n]
    simp only []
    split
    · rw [core_raiseConfirms]; exact core_of_kept (by simp)
    · exact core_of_kept (by simp)

/-- Hearing a station already present changes nothing but its age, beyond what the closing work may write. -/
theorem hear_kept (s : State) (i : Station) (hp : s.roster[i].present = true) : (s.hear i).kept = (s.heard i).kept := by
  unfold State.hear State.changeRoster State.heard
  split
  · rfl
  · unfold State.reactRoster
    rw [clearChannelHold_none _ _ fun n => channelTurnedAbsent_heard s i n]
    simp only []
    have hr : ∀ u : State, u.testHold.updateOffers.roster = u.roster := fun u => eq_of_kept_roster (by simp)
    rw [hr]
    have ht : accountantTurned s.roster (s.roster.set i { s.roster[i] with age := 0 }) none = false := by
      simp only [accountantTurned, List.any_eq_false]
      intro j _
      rw [vector_set_get]
      split
      · next e =>
        subst e
        have hp' : s.roster[(i : Nat)].present = true := hp
        simp [RosterEntry.accountant, hp']
      · simp
    simp only [ht, Bool.false_eq_true, if_false]
    simp

section
variable {u t : State}

theorem eq_of_core_roster (h : u.core = t.core) : u.roster = t.roster := show u.core.roster = t.core.roster from h ▸ rfl
theorem eq_of_core_sup (h : u.core = t.core) : u.sup = t.sup := show u.core.sup = t.core.sup from h ▸ rfl
theorem eq_of_core_sign (h : u.core = t.core) : u.sign = t.sign := show u.core.sign = t.core.sign from h ▸ rfl
theorem eq_of_core_presence (h : u.core = t.core) : u.presence = t.presence := show u.core.presence = t.core.presence from h ▸ rfl
theorem eq_of_core_clock (h : u.core = t.core) : u.clock = t.clock := show u.core.clock = t.core.clock from h ▸ rfl
theorem eq_of_core_slots (h : u.core = t.core) : u.slots = t.slots := show u.core.slots = t.core.slots from h ▸ rfl
theorem eq_of_core_drain (h : u.core = t.core) : u.drain = t.drain := show u.core.drain = t.core.drain from h ▸ rfl
theorem eq_of_core_cfg (h : u.core = t.core) : u.cfg = t.cfg := show u.core.cfg = t.core.cfg from h ▸ rfl
theorem eq_of_core_station (h : u.core = t.core) : u.station = t.station := show u.core.station = t.core.station from h ▸ rfl
theorem eq_of_core_loader (h : u.core = t.core) : u.loader = t.loader := show u.core.loader = t.core.loader from h ▸ rfl
theorem eq_of_core_now (h : u.core = t.core) : u.now = t.now := show u.core.now = t.core.now from h ▸ rfl
theorem eq_of_core_bus (h : u.core = t.core) : u.bus = t.bus := show u.core.bus = t.core.bus from h ▸ rfl
theorem eq_of_core_wire (h : u.core = t.core) : u.wire = t.wire := show u.core.wire = t.core.wire from h ▸ rfl
theorem eq_of_core_result (h : u.core = t.core) : u.result = t.result := show u.core.result = t.core.result from h ▸ rfl
theorem eq_of_core_run (h : u.core = t.core) : u.run = t.run := show u.core.run = t.core.run from h ▸ rfl
theorem eq_of_core_orderSlots (h : u.core = t.core) : u.orderSlots = t.orderSlots := show u.core.orderSlots = t.core.orderSlots from h ▸ rfl
theorem eq_of_core_echo (h : u.core = t.core) : u.echo = t.echo := show u.core.echo = t.core.echo from h ▸ rfl
end

end Sys2Proof.Machine
end

