-- ==== Sys2Proof/Laws/State.lean ====
section
/-! SUPPORT. One lemma for each field under each named update of the state, all true by `rfl`; and the same for `State.raise`, which
touches the request set and one counter alone. -/

namespace Sys2Proof.Machine

variable (s : State)

/-! ## setSup -/

@[simp] theorem setSup_now (n : LineNo) (x : LineRec) : (s.setSup n x).now = s.now := rfl
@[simp] theorem setSup_loader (n : LineNo) (x : LineRec) : (s.setSup n x).loader = s.loader := rfl
@[simp] theorem setSup_restartPin (n : LineNo) (x : LineRec) : (s.setSup n x).restartPin = s.restartPin := rfl
@[simp] theorem setSup_station (n : LineNo) (x : LineRec) : (s.setSup n x).station = s.station := rfl
@[simp] theorem setSup_cfg (n : LineNo) (x : LineRec) : (s.setSup n x).cfg = s.cfg := rfl
@[simp] theorem setSup_configClamped (n : LineNo) (x : LineRec) : (s.setSup n x).configClamped = s.configClamped := rfl
@[simp] theorem setSup_sup (n : LineNo) (x : LineRec) : (s.setSup n x).sup = s.sup.set n x := rfl
@[simp] theorem setSup_asks (n : LineNo) (x : LineRec) : (s.setSup n x).asks = s.asks := rfl
@[simp] theorem setSup_path (n : LineNo) (x : LineRec) : (s.setSup n x).path = s.path := rfl
@[simp] theorem setSup_free (n : LineNo) (x : LineRec) : (s.setSup n x).free = s.free := rfl
@[simp] theorem setSup_sign (n : LineNo) (x : LineRec) : (s.setSup n x).sign = s.sign := rfl
@[simp] theorem setSup_sess (n : LineNo) (x : LineRec) : (s.setSup n x).sess = s.sess := rfl
@[simp] theorem setSup_claims (n : LineNo) (x : LineRec) : (s.setSup n x).claims = s.claims := rfl
@[simp] theorem setSup_run (n : LineNo) (x : LineRec) : (s.setSup n x).run = s.run := rfl
@[simp] theorem setSup_result (n : LineNo) (x : LineRec) : (s.setSup n x).result = s.result := rfl
@[simp] theorem setSup_requestSerial (n : LineNo) (x : LineRec) : (s.setSup n x).requestSerial = s.requestSerial := rfl
@[simp] theorem setSup_sessionSerial (n : LineNo) (x : LineRec) : (s.setSup n x).sessionSerial = s.sessionSerial := rfl
@[simp] theorem setSup_recordSerial (n : LineNo) (x : LineRec) : (s.setSup n x).recordSerial = s.recordSerial := rfl
@[simp] theorem setSup_presence (n : LineNo) (x : LineRec) : (s.setSup n x).presence = s.presence := rfl
@[simp] theorem setSup_roster (n : LineNo) (x : LineRec) : (s.setSup n x).roster = s.roster := rfl
@[simp] theorem setSup_refreshTimer (n : LineNo) (x : LineRec) : (s.setSup n x).refreshTimer = s.refreshTimer := rfl
@[simp] theorem setSup_beaconTimer (n : LineNo) (x : LineRec) : (s.setSup n x).beaconTimer = s.beaconTimer := rfl
@[simp] theorem setSup_timebase (n : LineNo) (x : LineRec) : (s.setSup n x).timebase = s.timebase := rfl
@[simp] theorem setSup_clock (n : LineNo) (x : LineRec) : (s.setSup n x).clock = s.clock := rfl
@[simp] theorem setSup_queue (n : LineNo) (x : LineRec) : (s.setSup n x).queue = s.queue := rfl
@[simp] theorem setSup_slots (n : LineNo) (x : LineRec) : (s.setSup n x).slots = s.slots := rfl
@[simp] theorem setSup_drain (n : LineNo) (x : LineRec) : (s.setSup n x).drain = s.drain := rfl
@[simp] theorem setSup_clashTimer (n : LineNo) (x : LineRec) : (s.setSup n x).clashTimer = s.clashTimer := rfl
@[simp] theorem setSup_bus (n : LineNo) (x : LineRec) : (s.setSup n x).bus = s.bus := rfl
@[simp] theorem setSup_freshAnnounced (n : LineNo) (x : LineRec) : (s.setSup n x).freshAnnounced = s.freshAnnounced := rfl
@[simp] theorem setSup_quietTimer (n : LineNo) (x : LineRec) : (s.setSup n x).quietTimer = s.quietTimer := rfl
@[simp] theorem setSup_streak (n : LineNo) (x : LineRec) : (s.setSup n x).streak = s.streak := rfl
@[simp] theorem setSup_reqs (n : LineNo) (x : LineRec) : (s.setSup n x).reqs = s.reqs := rfl
@[simp] theorem setSup_wire (n : LineNo) (x : LineRec) : (s.setSup n x).wire = s.wire := rfl
@[simp] theorem setSup_rotation (n : LineNo) (x : LineRec) : (s.setSup n x).rotation = s.rotation := rfl
@[simp] theorem setSup_orderSlots (n : LineNo) (x : LineRec) : (s.setSup n x).orderSlots = s.orderSlots := rfl
@[simp] theorem setSup_echo (n : LineNo) (x : LineRec) : (s.setSup n x).echo = s.echo := rfl
@[simp] theorem setSup_counters (n : LineNo) (x : LineRec) : (s.setSup n x).counters = s.counters := rfl
@[simp] theorem setSup_draws (n : LineNo) (x : LineRec) : (s.setSup n x).draws = s.draws := rfl
@[simp] theorem setSup_pending (n : LineNo) (x : LineRec) : (s.setSup n x).pending = s.pending := rfl

/-! ## setAsks -/

@[simp] theorem setAsks_now (n : LineNo) (x : Asks) : (s.setAsks n x).now = s.now := rfl
@[simp] theorem setAsks_loader (n : LineNo) (x : Asks) : (s.setAsks n x).loader = s.loader := rfl
@[simp] theorem setAsks_restartPin (n : LineNo) (x : Asks) : (s.setAsks n x).restartPin = s.restartPin := rfl
@[simp] theorem setAsks_station (n : LineNo) (x : Asks) : (s.setAsks n x).station = s.station := rfl
@[simp] theorem setAsks_cfg (n : LineNo) (x : Asks) : (s.setAsks n x).cfg = s.cfg := rfl
@[simp] theorem setAsks_configClamped (n : LineNo) (x : Asks) : (s.setAsks n x).configClamped = s.configClamped := rfl
@[simp] theorem setAsks_sup (n : LineNo) (x : Asks) : (s.setAsks n x).sup = s.sup := rfl
@[simp] theorem setAsks_asks (n : LineNo) (x : Asks) : (s.setAsks n x).asks = s.asks.set n x := rfl
@[simp] theorem setAsks_path (n : LineNo) (x : Asks) : (s.setAsks n x).path = s.path := rfl
@[simp] theorem setAsks_free (n : LineNo) (x : Asks) : (s.setAsks n x).free = s.free := rfl
@[simp] theorem setAsks_sign (n : LineNo) (x : Asks) : (s.setAsks n x).sign = s.sign := rfl
@[simp] theorem setAsks_sess (n : LineNo) (x : Asks) : (s.setAsks n x).sess = s.sess := rfl
@[simp] theorem setAsks_claims (n : LineNo) (x : Asks) : (s.setAsks n x).claims = s.claims := rfl
@[simp] theorem setAsks_run (n : LineNo) (x : Asks) : (s.setAsks n x).run = s.run := rfl
@[simp] theorem setAsks_result (n : LineNo) (x : Asks) : (s.setAsks n x).result = s.result := rfl
@[simp] theorem setAsks_requestSerial (n : LineNo) (x : Asks) : (s.setAsks n x).requestSerial = s.requestSerial := rfl
@[simp] theorem setAsks_sessionSerial (n : LineNo) (x : Asks) : (s.setAsks n x).sessionSerial = s.sessionSerial := rfl
@[simp] theorem setAsks_recordSerial (n : LineNo) (x : Asks) : (s.setAsks n x).recordSerial = s.recordSerial := rfl
@[simp] theorem setAsks_presence (n : LineNo) (x : Asks) : (s.setAsks n x).presence = s.presence := rfl
@[simp] theorem setAsks_roster (n : LineNo) (x : Asks) : (s.setAsks n x).roster = s.roster := rfl
@[simp] theorem setAsks_refreshTimer (n : LineNo) (x : Asks) : (s.setAsks n x).refreshTimer = s.refreshTimer := rfl
@[simp] theorem setAsks_beaconTimer (n : LineNo) (x : Asks) : (s.setAsks n x).beaconTimer = s.beaconTimer := rfl
@[simp] theorem setAsks_timebase (n : LineNo) (x : Asks) : (s.setAsks n x).timebase = s.timebase := rfl
@[simp] theorem setAsks_clock (n : LineNo) (x : Asks) : (s.setAsks n x).clock = s.clock := rfl
@[simp] theorem setAsks_queue (n : LineNo) (x : Asks) : (s.setAsks n x).queue = s.queue := rfl
@[simp] theorem setAsks_slots (n : LineNo) (x : Asks) : (s.setAsks n x).slots = s.slots := rfl
@[simp] theorem setAsks_drain (n : LineNo) (x : Asks) : (s.setAsks n x).drain = s.drain := rfl
@[simp] theorem setAsks_clashTimer (n : LineNo) (x : Asks) : (s.setAsks n x).clashTimer = s.clashTimer := rfl
@[simp] theorem setAsks_bus (n : LineNo) (x : Asks) : (s.setAsks n x).bus = s.bus := rfl
@[simp] theorem setAsks_freshAnnounced (n : LineNo) (x : Asks) : (s.setAsks n x).freshAnnounced = s.freshAnnounced := rfl
@[simp] theorem setAsks_quietTimer (n : LineNo) (x : Asks) : (s.setAsks n x).quietTimer = s.quietTimer := rfl
@[simp] theorem setAsks_streak (n : LineNo) (x : Asks) : (s.setAsks n x).streak = s.streak := rfl
@[simp] theorem setAsks_reqs (n : LineNo) (x : Asks) : (s.setAsks n x).reqs = s.reqs := rfl
@[simp] theorem setAsks_wire (n : LineNo) (x : Asks) : (s.setAsks n x).wire = s.wire := rfl
@[simp] theorem setAsks_rotation (n : LineNo) (x : Asks) : (s.setAsks n x).rotation = s.rotation := rfl
@[simp] theorem setAsks_orderSlots (n : LineNo) (x : Asks) : (s.setAsks n x).orderSlots = s.orderSlots := rfl
@[simp] theorem setAsks_echo (n : LineNo) (x : Asks) : (s.setAsks n x).echo = s.echo := rfl
@[simp] theorem setAsks_counters (n : LineNo) (x : Asks) : (s.setAsks n x).counters = s.counters := rfl
@[simp] theorem setAsks_draws (n : LineNo) (x : Asks) : (s.setAsks n x).draws = s.draws := rfl
@[simp] theorem setAsks_pending (n : LineNo) (x : Asks) : (s.setAsks n x).pending = s.pending := rfl

/-! ## setPath -/

@[simp] theorem setPath_now (n : LineNo) (x : Path) : (s.setPath n x).now = s.now := rfl
@[simp] theorem setPath_loader (n : LineNo) (x : Path) : (s.setPath n x).loader = s.loader := rfl
@[simp] theorem setPath_restartPin (n : LineNo) (x : Path) : (s.setPath n x).restartPin = s.restartPin := rfl
@[simp] theorem setPath_station (n : LineNo) (x : Path) : (s.setPath n x).station = s.station := rfl
@[simp] theorem setPath_cfg (n : LineNo) (x : Path) : (s.setPath n x).cfg = s.cfg := rfl
@[simp] theorem setPath_configClamped (n : LineNo) (x : Path) : (s.setPath n x).configClamped = s.configClamped := rfl
@[simp] theorem setPath_sup (n : LineNo) (x : Path) : (s.setPath n x).sup = s.sup := rfl
@[simp] theorem setPath_asks (n : LineNo) (x : Path) : (s.setPath n x).asks = s.asks := rfl
@[simp] theorem setPath_path (n : LineNo) (x : Path) : (s.setPath n x).path = s.path.set n x := rfl
@[simp] theorem setPath_free (n : LineNo) (x : Path) : (s.setPath n x).free = s.free := rfl
@[simp] theorem setPath_sign (n : LineNo) (x : Path) : (s.setPath n x).sign = s.sign := rfl
@[simp] theorem setPath_sess (n : LineNo) (x : Path) : (s.setPath n x).sess = s.sess := rfl
@[simp] theorem setPath_claims (n : LineNo) (x : Path) : (s.setPath n x).claims = s.claims := rfl
@[simp] theorem setPath_run (n : LineNo) (x : Path) : (s.setPath n x).run = s.run := rfl
@[simp] theorem setPath_result (n : LineNo) (x : Path) : (s.setPath n x).result = s.result := rfl
@[simp] theorem setPath_requestSerial (n : LineNo) (x : Path) : (s.setPath n x).requestSerial = s.requestSerial := rfl
@[simp] theorem setPath_sessionSerial (n : LineNo) (x : Path) : (s.setPath n x).sessionSerial = s.sessionSerial := rfl
@[simp] theorem setPath_recordSerial (n : LineNo) (x : Path) : (s.setPath n x).recordSerial = s.recordSerial := rfl
@[simp] theorem setPath_presence (n : LineNo) (x : Path) : (s.setPath n x).presence = s.presence := rfl
@[simp] theorem setPath_roster (n : LineNo) (x : Path) : (s.setPath n x).roster = s.roster := rfl
@[simp] theorem setPath_refreshTimer (n : LineNo) (x : Path) : (s.setPath n x).refreshTimer = s.refreshTimer := rfl
@[simp] theorem setPath_beaconTimer (n : LineNo) (x : Path) : (s.setPath n x).beaconTimer = s.beaconTimer := rfl
@[simp] theorem setPath_timebase (n : LineNo) (x : Path) : (s.setPath n x).timebase = s.timebase := rfl
@[simp] theorem setPath_clock (n : LineNo) (x : Path) : (s.setPath n x).clock = s.clock := rfl
@[simp] theorem setPath_queue (n : LineNo) (x : Path) : (s.setPath n x).queue = s.queue := rfl
@[simp] theorem setPath_slots (n : LineNo) (x : Path) : (s.setPath n x).slots = s.slots := rfl
@[simp] theorem setPath_drain (n : LineNo) (x : Path) : (s.setPath n x).drain = s.drain := rfl
@[simp] theorem setPath_clashTimer (n : LineNo) (x : Path) : (s.setPath n x).clashTimer = s.clashTimer := rfl
@[simp] theorem setPath_bus (n : LineNo) (x : Path) : (s.setPath n x).bus = s.bus := rfl
@[simp] theorem setPath_freshAnnounced (n : LineNo) (x : Path) : (s.setPath n x).freshAnnounced = s.freshAnnounced := rfl
@[simp] theorem setPath_quietTimer (n : LineNo) (x : Path) : (s.setPath n x).quietTimer = s.quietTimer := rfl
@[simp] theorem setPath_streak (n : LineNo) (x : Path) : (s.setPath n x).streak = s.streak := rfl
@[simp] theorem setPath_reqs (n : LineNo) (x : Path) : (s.setPath n x).reqs = s.reqs := rfl
@[simp] theorem setPath_wire (n : LineNo) (x : Path) : (s.setPath n x).wire = s.wire := rfl
@[simp] theorem setPath_rotation (n : LineNo) (x : Path) : (s.setPath n x).rotation = s.rotation := rfl
@[simp] theorem setPath_orderSlots (n : LineNo) (x : Path) : (s.setPath n x).orderSlots = s.orderSlots := rfl
@[simp] theorem setPath_echo (n : LineNo) (x : Path) : (s.setPath n x).echo = s.echo := rfl
@[simp] theorem setPath_counters (n : LineNo) (x : Path) : (s.setPath n x).counters = s.counters := rfl
@[simp] theorem setPath_draws (n : LineNo) (x : Path) : (s.setPath n x).draws = s.draws := rfl
@[simp] theorem setPath_pending (n : LineNo) (x : Path) : (s.setPath n x).pending = s.pending := rfl

/-! ## setSign -/

@[simp] theorem setSign_now (n : LineNo) (x : Option Context) : (s.setSign n x).now = s.now := rfl
@[simp] theorem setSign_loader (n : LineNo) (x : Option Context) : (s.setSign n x).loader = s.loader := rfl
@[simp] theorem setSign_restartPin (n : LineNo) (x : Option Context) : (s.setSign n x).restartPin = s.restartPin := rfl
@[simp] theorem setSign_station (n : LineNo) (x : Option Context) : (s.setSign n x).station = s.station := rfl
@[simp] theorem setSign_cfg (n : LineNo) (x : Option Context) : (s.setSign n x).cfg = s.cfg := rfl
@[simp] theorem setSign_configClamped (n : LineNo) (x : Option Context) : (s.setSign n x).configClamped = s.configClamped := rfl
@[simp] theorem setSign_sup (n : LineNo) (x : Option Context) : (s.setSign n x).sup = s.sup := rfl
@[simp] theorem setSign_asks (n : LineNo) (x : Option Context) : (s.setSign n x).asks = s.asks := rfl
@[simp] theorem setSign_path (n : LineNo) (x : Option Context) : (s.setSign n x).path = s.path := rfl
@[simp] theorem setSign_free (n : LineNo) (x : Option Context) : (s.setSign n x).free = s.free := rfl
@[simp] theorem setSign_sign (n : LineNo) (x : Option Context) : (s.setSign n x).sign = s.sign.set n x := rfl
@[simp] theorem setSign_sess (n : LineNo) (x : Option Context) : (s.setSign n x).sess = s.sess := rfl
@[simp] theorem setSign_claims (n : LineNo) (x : Option Context) : (s.setSign n x).claims = s.claims := rfl
@[simp] theorem setSign_run (n : LineNo) (x : Option Context) : (s.setSign n x).run = s.run := rfl
@[simp] theorem setSign_result (n : LineNo) (x : Option Context) : (s.setSign n x).result = s.result := rfl
@[simp] theorem setSign_requestSerial (n : LineNo) (x : Option Context) : (s.setSign n x).requestSerial = s.requestSerial := rfl
@[simp] theorem setSign_sessionSerial (n : LineNo) (x : Option Context) : (s.setSign n x).sessionSerial = s.sessionSerial := rfl
@[simp] theorem setSign_recordSerial (n : LineNo) (x : Option Context) : (s.setSign n x).recordSerial = s.recordSerial := rfl
@[simp] theorem setSign_presence (n : LineNo) (x : Option Context) : (s.setSign n x).presence = s.presence := rfl
@[simp] theorem setSign_roster (n : LineNo) (x : Option Context) : (s.setSign n x).roster = s.roster := rfl
@[simp] theorem setSign_refreshTimer (n : LineNo) (x : Option Context) : (s.setSign n x).refreshTimer = s.refreshTimer := rfl
@[simp] theorem setSign_beaconTimer (n : LineNo) (x : Option Context) : (s.setSign n x).beaconTimer = s.beaconTimer := rfl
@[simp] theorem setSign_timebase (n : LineNo) (x : Option Context) : (s.setSign n x).timebase = s.timebase := rfl
@[simp] theorem setSign_clock (n : LineNo) (x : Option Context) : (s.setSign n x).clock = s.clock := rfl
@[simp] theorem setSign_queue (n : LineNo) (x : Option Context) : (s.setSign n x).queue = s.queue := rfl
@[simp] theorem setSign_slots (n : LineNo) (x : Option Context) : (s.setSign n x).slots = s.slots := rfl
@[simp] theorem setSign_drain (n : LineNo) (x : Option Context) : (s.setSign n x).drain = s.drain := rfl
@[simp] theorem setSign_clashTimer (n : LineNo) (x : Option Context) : (s.setSign n x).clashTimer = s.clashTimer := rfl
@[simp] theorem setSign_bus (n : LineNo) (x : Option Context) : (s.setSign n x).bus = s.bus := rfl
@[simp] theorem setSign_freshAnnounced (n : LineNo) (x : Option Context) : (s.setSign n x).freshAnnounced = s.freshAnnounced := rfl
@[simp] theorem setSign_quietTimer (n : LineNo) (x : Option Context) : (s.setSign n x).quietTimer = s.quietTimer := rfl
@[simp] theorem setSign_streak (n : LineNo) (x : Option Context) : (s.setSign n x).streak = s.streak := rfl
@[simp] theorem setSign_reqs (n : LineNo) (x : Option Context) : (s.setSign n x).reqs = s.reqs := rfl
@[simp] theorem setSign_wire (n : LineNo) (x : Option Context) : (s.setSign n x).wire = s.wire := rfl
@[simp] theorem setSign_rotation (n : LineNo) (x : Option Context) : (s.setSign n x).rotation = s.rotation := rfl
@[simp] theorem setSign_orderSlots (n : LineNo) (x : Option Context) : (s.setSign n x).orderSlots = s.orderSlots := rfl
@[simp] theorem setSign_echo (n : LineNo) (x : Option Context) : (s.setSign n x).echo = s.echo := rfl
@[simp] theorem setSign_counters (n : LineNo) (x : Option Context) : (s.setSign n x).counters = s.counters := rfl
@[simp] theorem setSign_draws (n : LineNo) (x : Option Context) : (s.setSign n x).draws = s.draws := rfl
@[simp] theorem setSign_pending (n : LineNo) (x : Option Context) : (s.setSign n x).pending = s.pending := rfl

/-! ## setSess -/

@[simp] theorem setSess_now (n : LineNo) (x : Option Session) : (s.setSess n x).now = s.now := rfl
@[simp] theorem setSess_loader (n : LineNo) (x : Option Session) : (s.setSess n x).loader = s.loader := rfl
@[simp] theorem setSess_restartPin (n : LineNo) (x : Option Session) : (s.setSess n x).restartPin = s.restartPin := rfl
@[simp] theorem setSess_station (n : LineNo) (x : Option Session) : (s.setSess n x).station = s.station := rfl
@[simp] theorem setSess_cfg (n : LineNo) (x : Option Session) : (s.setSess n x).cfg = s.cfg := rfl
@[simp] theorem setSess_configClamped (n : LineNo) (x : Option Session) : (s.setSess n x).configClamped = s.configClamped := rfl
@[simp] theorem setSess_sup (n : LineNo) (x : Option Session) : (s.setSess n x).sup = s.sup := rfl
@[simp] theorem setSess_asks (n : LineNo) (x : Option Session) : (s.setSess n x).asks = s.asks := rfl
@[simp] theorem setSess_path (n : LineNo) (x : Option Session) : (s.setSess n x).path = s.path := rfl
@[simp] theorem setSess_free (n : LineNo) (x : Option Session) : (s.setSess n x).free = s.free := rfl
@[simp] theorem setSess_sign (n : LineNo) (x : Option Session) : (s.setSess n x).sign = s.sign := rfl
@[simp] theorem setSess_sess (n : LineNo) (x : Option Session) : (s.setSess n x).sess = s.sess.set n x := rfl
@[simp] theorem setSess_claims (n : LineNo) (x : Option Session) : (s.setSess n x).claims = s.claims := rfl
@[simp] theorem setSess_run (n : LineNo) (x : Option Session) : (s.setSess n x).run = s.run := rfl
@[simp] theorem setSess_result (n : LineNo) (x : Option Session) : (s.setSess n x).result = s.result := rfl
@[simp] theorem setSess_requestSerial (n : LineNo) (x : Option Session) : (s.setSess n x).requestSerial = s.requestSerial := rfl
@[simp] theorem setSess_sessionSerial (n : LineNo) (x : Option Session) : (s.setSess n x).sessionSerial = s.sessionSerial := rfl
@[simp] theorem setSess_recordSerial (n : LineNo) (x : Option Session) : (s.setSess n x).recordSerial = s.recordSerial := rfl
@[simp] theorem setSess_presence (n : LineNo) (x : Option Session) : (s.setSess n x).presence = s.presence := rfl
@[simp] theorem setSess_roster (n : LineNo) (x : Option Session) : (s.setSess n x).roster = s.roster := rfl
@[simp] theorem setSess_refreshTimer (n : LineNo) (x : Option Session) : (s.setSess n x).refreshTimer = s.refreshTimer := rfl
@[simp] theorem setSess_beaconTimer (n : LineNo) (x : Option Session) : (s.setSess n x).beaconTimer = s.beaconTimer := rfl
@[simp] theorem setSess_timebase (n : LineNo) (x : Option Session) : (s.setSess n x).timebase = s.timebase := rfl
@[simp] theorem setSess_clock (n : LineNo) (x : Option Session) : (s.setSess n x).clock = s.clock := rfl
@[simp] theorem setSess_queue (n : LineNo) (x : Option Session) : (s.setSess n x).queue = s.queue := rfl
@[simp] theorem setSess_slots (n : LineNo) (x : Option Session) : (s.setSess n x).slots = s.slots := rfl
@[simp] theorem setSess_drain (n : LineNo) (x : Option Session) : (s.setSess n x).drain = s.drain := rfl
@[simp] theorem setSess_clashTimer (n : LineNo) (x : Option Session) : (s.setSess n x).clashTimer = s.clashTimer := rfl
@[simp] theorem setSess_bus (n : LineNo) (x : Option Session) : (s.setSess n x).bus = s.bus := rfl
@[simp] theorem setSess_freshAnnounced (n : LineNo) (x : Option Session) : (s.setSess n x).freshAnnounced = s.freshAnnounced := rfl
@[simp] theorem setSess_quietTimer (n : LineNo) (x : Option Session) : (s.setSess n x).quietTimer = s.quietTimer := rfl
@[simp] theorem setSess_streak (n : LineNo) (x : Option Session) : (s.setSess n x).streak = s.streak := rfl
@[simp] theorem setSess_reqs (n : LineNo) (x : Option Session) : (s.setSess n x).reqs = s.reqs := rfl
@[simp] theorem setSess_wire (n : LineNo) (x : Option Session) : (s.setSess n x).wire = s.wire := rfl
@[simp] theorem setSess_rotation (n : LineNo) (x : Option Session) : (s.setSess n x).rotation = s.rotation := rfl
@[simp] theorem setSess_orderSlots (n : LineNo) (x : Option Session) : (s.setSess n x).orderSlots = s.orderSlots := rfl
@[simp] theorem setSess_echo (n : LineNo) (x : Option Session) : (s.setSess n x).echo = s.echo := rfl
@[simp] theorem setSess_counters (n : LineNo) (x : Option Session) : (s.setSess n x).counters = s.counters := rfl
@[simp] theorem setSess_draws (n : LineNo) (x : Option Session) : (s.setSess n x).draws = s.draws := rfl
@[simp] theorem setSess_pending (n : LineNo) (x : Option Session) : (s.setSess n x).pending = s.pending := rfl

/-! ## setClaims -/

@[simp] theorem setClaims_now (n : LineNo) (x : Claims) : (s.setClaims n x).now = s.now := rfl
@[simp] theorem setClaims_loader (n : LineNo) (x : Claims) : (s.setClaims n x).loader = s.loader := rfl
@[simp] theorem setClaims_restartPin (n : LineNo) (x : Claims) : (s.setClaims n x).restartPin = s.restartPin := rfl
@[simp] theorem setClaims_station (n : LineNo) (x : Claims) : (s.setClaims n x).station = s.station := rfl
@[simp] theorem setClaims_cfg (n : LineNo) (x : Claims) : (s.setClaims n x).cfg = s.cfg := rfl
@[simp] theorem setClaims_configClamped (n : LineNo) (x : Claims) : (s.setClaims n x).configClamped = s.configClamped := rfl
@[simp] theorem setClaims_sup (n : LineNo) (x : Claims) : (s.setClaims n x).sup = s.sup := rfl
@[simp] theorem setClaims_asks (n : LineNo) (x : Claims) : (s.setClaims n x).asks = s.asks := rfl
@[simp] theorem setClaims_path (n : LineNo) (x : Claims) : (s.setClaims n x).path = s.path := rfl
@[simp] theorem setClaims_free (n : LineNo) (x : Claims) : (s.setClaims n x).free = s.free := rfl
@[simp] theorem setClaims_sign (n : LineNo) (x : Claims) : (s.setClaims n x).sign = s.sign := rfl
@[simp] theorem setClaims_sess (n : LineNo) (x : Claims) : (s.setClaims n x).sess = s.sess := rfl
@[simp] theorem setClaims_claims (n : LineNo) (x : Claims) : (s.setClaims n x).claims = s.claims.set n x := rfl
@[simp] theorem setClaims_run (n : LineNo) (x : Claims) : (s.setClaims n x).run = s.run := rfl
@[simp] theorem setClaims_result (n : LineNo) (x : Claims) : (s.setClaims n x).result = s.result := rfl
@[simp] theorem setClaims_requestSerial (n : LineNo) (x : Claims) : (s.setClaims n x).requestSerial = s.requestSerial := rfl
@[simp] theorem setClaims_sessionSerial (n : LineNo) (x : Claims) : (s.setClaims n x).sessionSerial = s.sessionSerial := rfl
@[simp] theorem setClaims_recordSerial (n : LineNo) (x : Claims) : (s.setClaims n x).recordSerial = s.recordSerial := rfl
@[simp] theorem setClaims_presence (n : LineNo) (x : Claims) : (s.setClaims n x).presence = s.presence := rfl
@[simp] theorem setClaims_roster (n : LineNo) (x : Claims) : (s.setClaims n x).roster = s.roster := rfl
@[simp] theorem setClaims_refreshTimer (n : LineNo) (x : Claims) : (s.setClaims n x).refreshTimer = s.refreshTimer := rfl
@[simp] theorem setClaims_beaconTimer (n : LineNo) (x : Claims) : (s.setClaims n x).beaconTimer = s.beaconTimer := rfl
@[simp] theorem setClaims_timebase (n : LineNo) (x : Claims) : (s.setClaims n x).timebase = s.timebase := rfl
@[simp] theorem setClaims_clock (n : LineNo) (x : Claims) : (s.setClaims n x).clock = s.clock := rfl
@[simp] theorem setClaims_queue (n : LineNo) (x : Claims) : (s.setClaims n x).queue = s.queue := rfl
@[simp] theorem setClaims_slots (n : LineNo) (x : Claims) : (s.setClaims n x).slots = s.slots := rfl
@[simp] theorem setClaims_drain (n : LineNo) (x : Claims) : (s.setClaims n x).drain = s.drain := rfl
@[simp] theorem setClaims_clashTimer (n : LineNo) (x : Claims) : (s.setClaims n x).clashTimer = s.clashTimer := rfl
@[simp] theorem setClaims_bus (n : LineNo) (x : Claims) : (s.setClaims n x).bus = s.bus := rfl
@[simp] theorem setClaims_freshAnnounced (n : LineNo) (x : Claims) : (s.setClaims n x).freshAnnounced = s.freshAnnounced := rfl
@[simp] theorem setClaims_quietTimer (n : LineNo) (x : Claims) : (s.setClaims n x).quietTimer = s.quietTimer := rfl
@[simp] theorem setClaims_streak (n : LineNo) (x : Claims) : (s.setClaims n x).streak = s.streak := rfl
@[simp] theorem setClaims_reqs (n : LineNo) (x : Claims) : (s.setClaims n x).reqs = s.reqs := rfl
@[simp] theorem setClaims_wire (n : LineNo) (x : Claims) : (s.setClaims n x).wire = s.wire := rfl
@[simp] theorem setClaims_rotation (n : LineNo) (x : Claims) : (s.setClaims n x).rotation = s.rotation := rfl
@[simp] theorem setClaims_orderSlots (n : LineNo) (x : Claims) : (s.setClaims n x).orderSlots = s.orderSlots := rfl
@[simp] theorem setClaims_echo (n : LineNo) (x : Claims) : (s.setClaims n x).echo = s.echo := rfl
@[simp] theorem setClaims_counters (n : LineNo) (x : Claims) : (s.setClaims n x).counters = s.counters := rfl
@[simp] theorem setClaims_draws (n : LineNo) (x : Claims) : (s.setClaims n x).draws = s.draws := rfl
@[simp] theorem setClaims_pending (n : LineNo) (x : Claims) : (s.setClaims n x).pending = s.pending := rfl

/-! ## setRun -/

@[simp] theorem setRun_now (n : LineNo) (x : Run) : (s.setRun n x).now = s.now := rfl
@[simp] theorem setRun_loader (n : LineNo) (x : Run) : (s.setRun n x).loader = s.loader := rfl
@[simp] theorem setRun_restartPin (n : LineNo) (x : Run) : (s.setRun n x).restartPin = s.restartPin := rfl
@[simp] theorem setRun_station (n : LineNo) (x : Run) : (s.setRun n x).station = s.station := rfl
@[simp] theorem setRun_cfg (n : LineNo) (x : Run) : (s.setRun n x).cfg = s.cfg := rfl
@[simp] theorem setRun_configClamped (n : LineNo) (x : Run) : (s.setRun n x).configClamped = s.configClamped := rfl
@[simp] theorem setRun_sup (n : LineNo) (x : Run) : (s.setRun n x).sup = s.sup := rfl
@[simp] theorem setRun_asks (n : LineNo) (x : Run) : (s.setRun n x).asks = s.asks := rfl
@[simp] theorem setRun_path (n : LineNo) (x : Run) : (s.setRun n x).path = s.path := rfl
@[simp] theorem setRun_free (n : LineNo) (x : Run) : (s.setRun n x).free = s.free := rfl
@[simp] theorem setRun_sign (n : LineNo) (x : Run) : (s.setRun n x).sign = s.sign := rfl
@[simp] theorem setRun_sess (n : LineNo) (x : Run) : (s.setRun n x).sess = s.sess := rfl
@[simp] theorem setRun_claims (n : LineNo) (x : Run) : (s.setRun n x).claims = s.claims := rfl
@[simp] theorem setRun_run (n : LineNo) (x : Run) : (s.setRun n x).run = s.run.set n x := rfl
@[simp] theorem setRun_result (n : LineNo) (x : Run) : (s.setRun n x).result = s.result := rfl
@[simp] theorem setRun_requestSerial (n : LineNo) (x : Run) : (s.setRun n x).requestSerial = s.requestSerial := rfl
@[simp] theorem setRun_sessionSerial (n : LineNo) (x : Run) : (s.setRun n x).sessionSerial = s.sessionSerial := rfl
@[simp] theorem setRun_recordSerial (n : LineNo) (x : Run) : (s.setRun n x).recordSerial = s.recordSerial := rfl
@[simp] theorem setRun_presence (n : LineNo) (x : Run) : (s.setRun n x).presence = s.presence := rfl
@[simp] theorem setRun_roster (n : LineNo) (x : Run) : (s.setRun n x).roster = s.roster := rfl
@[simp] theorem setRun_refreshTimer (n : LineNo) (x : Run) : (s.setRun n x).refreshTimer = s.refreshTimer := rfl
@[simp] theorem setRun_beaconTimer (n : LineNo) (x : Run) : (s.setRun n x).beaconTimer = s.beaconTimer := rfl
@[simp] theorem setRun_timebase (n : LineNo) (x : Run) : (s.setRun n x).timebase = s.timebase := rfl
@[simp] theorem setRun_clock (n : LineNo) (x : Run) : (s.setRun n x).clock = s.clock := rfl
@[simp] theorem setRun_queue (n : LineNo) (x : Run) : (s.setRun n x).queue = s.queue := rfl
@[simp] theorem setRun_slots (n : LineNo) (x : Run) : (s.setRun n x).slots = s.slots := rfl
@[simp] theorem setRun_drain (n : LineNo) (x : Run) : (s.setRun n x).drain = s.drain := rfl
@[simp] theorem setRun_clashTimer (n : LineNo) (x : Run) : (s.setRun n x).clashTimer = s.clashTimer := rfl
@[simp] theorem setRun_bus (n : LineNo) (x : Run) : (s.setRun n x).bus = s.bus := rfl
@[simp] theorem setRun_freshAnnounced (n : LineNo) (x : Run) : (s.setRun n x).freshAnnounced = s.freshAnnounced := rfl
@[simp] theorem setRun_quietTimer (n : LineNo) (x : Run) : (s.setRun n x).quietTimer = s.quietTimer := rfl
@[simp] theorem setRun_streak (n : LineNo) (x : Run) : (s.setRun n x).streak = s.streak := rfl
@[simp] theorem setRun_reqs (n : LineNo) (x : Run) : (s.setRun n x).reqs = s.reqs := rfl
@[simp] theorem setRun_wire (n : LineNo) (x : Run) : (s.setRun n x).wire = s.wire := rfl
@[simp] theorem setRun_rotation (n : LineNo) (x : Run) : (s.setRun n x).rotation = s.rotation := rfl
@[simp] theorem setRun_orderSlots (n : LineNo) (x : Run) : (s.setRun n x).orderSlots = s.orderSlots := rfl
@[simp] theorem setRun_echo (n : LineNo) (x : Run) : (s.setRun n x).echo = s.echo := rfl
@[simp] theorem setRun_counters (n : LineNo) (x : Run) : (s.setRun n x).counters = s.counters := rfl
@[simp] theorem setRun_draws (n : LineNo) (x : Run) : (s.setRun n x).draws = s.draws := rfl
@[simp] theorem setRun_pending (n : LineNo) (x : Run) : (s.setRun n x).pending = s.pending := rfl

/-! ## setResult -/

@[simp] theorem setResult_now (n : LineNo) (x : Option RunResult) : (s.setResult n x).now = s.now := rfl
@[simp] theorem setResult_loader (n : LineNo) (x : Option RunResult) : (s.setResult n x).loader = s.loader := rfl
@[simp] theorem setResult_restartPin (n : LineNo) (x : Option RunResult) : (s.setResult n x).restartPin = s.restartPin := rfl
@[simp] theorem setResult_station (n : LineNo) (x : Option RunResult) : (s.setResult n x).station = s.station := rfl
@[simp] theorem setResult_cfg (n : LineNo) (x : Option RunResult) : (s.setResult n x).cfg = s.cfg := rfl
@[simp] theorem setResult_configClamped (n : LineNo) (x : Option RunResult) : (s.setResult n x).configClamped = s.configClamped := rfl
@[simp] theorem setResult_sup (n : LineNo) (x : Option RunResult) : (s.setResult n x).sup = s.sup := rfl
@[simp] theorem setResult_asks (n : LineNo) (x : Option RunResult) : (s.setResult n x).asks = s.asks := rfl
@[simp] theorem setResult_path (n : LineNo) (x : Option RunResult) : (s.setResult n x).path = s.path := rfl
@[simp] theorem setResult_free (n : LineNo) (x : Option RunResult) : (s.setResult n x).free = s.free := rfl
@[simp] theorem setResult_sign (n : LineNo) (x : Option RunResult) : (s.setResult n x).sign = s.sign := rfl
@[simp] theorem setResult_sess (n : LineNo) (x : Option RunResult) : (s.setResult n x).sess = s.sess := rfl
@[simp] theorem setResult_claims (n : LineNo) (x : Option RunResult) : (s.setResult n x).claims = s.claims := rfl
@[simp] theorem setResult_run (n : LineNo) (x : Option RunResult) : (s.setResult n x).run = s.run := rfl
@[simp] theorem setResult_result (n : LineNo) (x : Option RunResult) : (s.setResult n x).result = s.result.set n x := rfl
@[simp] theorem setResult_requestSerial (n : LineNo) (x : Option RunResult) : (s.setResult n x).requestSerial = s.requestSerial := rfl
@[simp] theorem setResult_sessionSerial (n : LineNo) (x : Option RunResult) : (s.setResult n x).sessionSerial = s.sessionSerial := rfl
@[simp] theorem setResult_recordSerial (n : LineNo) (x : Option RunResult) : (s.setResult n x).recordSerial = s.recordSerial := rfl
@[simp] theorem setResult_presence (n : LineNo) (x : Option RunResult) : (s.setResult n x).presence = s.presence := rfl
@[simp] theorem setResult_roster (n : LineNo) (x : Option RunResult) : (s.setResult n x).roster = s.roster := rfl
@[simp] theorem setResult_refreshTimer (n : LineNo) (x : Option RunResult) : (s.setResult n x).refreshTimer = s.refreshTimer := rfl
@[simp] theorem setResult_beaconTimer (n : LineNo) (x : Option RunResult) : (s.setResult n x).beaconTimer = s.beaconTimer := rfl
@[simp] theorem setResult_timebase (n : LineNo) (x : Option RunResult) : (s.setResult n x).timebase = s.timebase := rfl
@[simp] theorem setResult_clock (n : LineNo) (x : Option RunResult) : (s.setResult n x).clock = s.clock := rfl
@[simp] theorem setResult_queue (n : LineNo) (x : Option RunResult) : (s.setResult n x).queue = s.queue := rfl
@[simp] theorem setResult_slots (n : LineNo) (x : Option RunResult) : (s.setResult n x).slots = s.slots := rfl
@[simp] theorem setResult_drain (n : LineNo) (x : Option RunResult) : (s.setResult n x).drain = s.drain := rfl
@[simp] theorem setResult_clashTimer (n : LineNo) (x : Option RunResult) : (s.setResult n x).clashTimer = s.clashTimer := rfl
@[simp] theorem setResult_bus (n : LineNo) (x : Option RunResult) : (s.setResult n x).bus = s.bus := rfl
@[simp] theorem setResult_freshAnnounced (n : LineNo) (x : Option RunResult) : (s.setResult n x).freshAnnounced = s.freshAnnounced := rfl
@[simp] theorem setResult_quietTimer (n : LineNo) (x : Option RunResult) : (s.setResult n x).quietTimer = s.quietTimer := rfl
@[simp] theorem setResult_streak (n : LineNo) (x : Option RunResult) : (s.setResult n x).streak = s.streak := rfl
@[simp] theorem setResult_reqs (n : LineNo) (x : Option RunResult) : (s.setResult n x).reqs = s.reqs := rfl
@[simp] theorem setResult_wire (n : LineNo) (x : Option RunResult) : (s.setResult n x).wire = s.wire := rfl
@[simp] theorem setResult_rotation (n : LineNo) (x : Option RunResult) : (s.setResult n x).rotation = s.rotation := rfl
@[simp] theorem setResult_orderSlots (n : LineNo) (x : Option RunResult) : (s.setResult n x).orderSlots = s.orderSlots := rfl
@[simp] theorem setResult_echo (n : LineNo) (x : Option RunResult) : (s.setResult n x).echo = s.echo := rfl
@[simp] theorem setResult_counters (n : LineNo) (x : Option RunResult) : (s.setResult n x).counters = s.counters := rfl
@[simp] theorem setResult_draws (n : LineNo) (x : Option RunResult) : (s.setResult n x).draws = s.draws := rfl
@[simp] theorem setResult_pending (n : LineNo) (x : Option RunResult) : (s.setResult n x).pending = s.pending := rfl

/-! ## updSup -/

@[simp] theorem updSup_now (n : LineNo) (f : LineRec → LineRec) : (s.updSup n f).now = s.now := rfl
@[simp] theorem updSup_loader (n : LineNo) (f : LineRec → LineRec) : (s.updSup n f).loader = s.loader := rfl
@[simp] theorem updSup_restartPin (n : LineNo) (f : LineRec → LineRec) : (s.updSup n f).restartPin = s.restartPin := rfl
@[simp] theorem updSup_station (n : LineNo) (f : LineRec → LineRec) : (s.updSup n f).station = s.station := rfl
@[simp] theorem updSup_cfg (n : LineNo) (f : LineRec → LineRec) : (s.updSup n f).cfg = s.cfg := rfl
@[simp] theorem updSup_configClamped (n : LineNo) (f : LineRec → LineRec) : (s.updSup n f).configClamped = s.configClamped := rfl
@[simp] theorem updSup_sup (n : LineNo) (f : LineRec → LineRec) : (s.updSup n f).sup = s.sup.set n (f s.sup[n]) := rfl
@[simp] theorem updSup_asks (n : LineNo) (f : LineRec → LineRec) : (s.updSup n f).asks = s.asks := rfl
@[simp] theorem updSup_path (n : LineNo) (f : LineRec → LineRec) : (s.updSup n f).path = s.path := rfl
@[simp] theorem updSup_free (n : LineNo) (f : LineRec → LineRec) : (s.updSup n f).free = s.free := rfl
@[simp] theorem updSup_sign (n : LineNo) (f : LineRec → LineRec) : (s.updSup n f).sign = s.sign := rfl
@[simp] theorem updSup_sess (n : LineNo) (f : LineRec → LineRec) : (s.updSup n f).sess = s.sess := rfl
@[simp] theorem updSup_claims (n : LineNo) (f : LineRec → LineRec) : (s.updSup n f).claims = s.claims := rfl
@[simp] theorem updSup_run (n : LineNo) (f : LineRec → LineRec) : (s.updSup n f).run = s.run := rfl
@[simp] theorem updSup_result (n : LineNo) (f : LineRec → LineRec) : (s.updSup n f).result = s.result := rfl
@[simp] theorem updSup_requestSerial (n : LineNo) (f : LineRec → LineRec) : (s.updSup n f).requestSerial = s.requestSerial := rfl
@[simp] theorem updSup_sessionSerial (n : LineNo) (f : LineRec → LineRec) : (s.updSup n f).sessionSerial = s.sessionSerial := rfl
@[simp] theorem updSup_recordSerial (n : LineNo) (f : LineRec → LineRec) : (s.updSup n f).recordSerial = s.recordSerial := rfl
@[simp] theorem updSup_presence (n : LineNo) (f : LineRec → LineRec) : (s.updSup n f).presence = s.presence := rfl
@[simp] theorem updSup_roster (n : LineNo) (f : LineRec → LineRec) : (s.updSup n f).roster = s.roster := rfl
@[simp] theorem updSup_refreshTimer (n : LineNo) (f : LineRec → LineRec) : (s.updSup n f).refreshTimer = s.refreshTimer := rfl
@[simp] theorem updSup_beaconTimer (n : LineNo) (f : LineRec → LineRec) : (s.updSup n f).beaconTimer = s.beaconTimer := rfl
@[simp] theorem updSup_timebase (n : LineNo) (f : LineRec → LineRec) : (s.updSup n f).timebase = s.timebase := rfl
@[simp] theorem updSup_clock (n : LineNo) (f : LineRec → LineRec) : (s.updSup n f).clock = s.clock := rfl
@[simp] theorem updSup_queue (n : LineNo) (f : LineRec → LineRec) : (s.updSup n f).queue = s.queue := rfl
@[simp] theorem updSup_slots (n : LineNo) (f : LineRec → LineRec) : (s.updSup n f).slots = s.slots := rfl
@[simp] theorem updSup_drain (n : LineNo) (f : LineRec → LineRec) : (s.updSup n f).drain = s.drain := rfl
@[simp] theorem updSup_clashTimer (n : LineNo) (f : LineRec → LineRec) : (s.updSup n f).clashTimer = s.clashTimer := rfl
@[simp] theorem updSup_bus (n : LineNo) (f : LineRec → LineRec) : (s.updSup n f).bus = s.bus := rfl
@[simp] theorem updSup_freshAnnounced (n : LineNo) (f : LineRec → LineRec) : (s.updSup n f).freshAnnounced = s.freshAnnounced := rfl
@[simp] theorem updSup_quietTimer (n : LineNo) (f : LineRec → LineRec) : (s.updSup n f).quietTimer = s.quietTimer := rfl
@[simp] theorem updSup_streak (n : LineNo) (f : LineRec → LineRec) : (s.updSup n f).streak = s.streak := rfl
@[simp] theorem updSup_reqs (n : LineNo) (f : LineRec → LineRec) : (s.updSup n f).reqs = s.reqs := rfl
@[simp] theorem updSup_wire (n : LineNo) (f : LineRec → LineRec) : (s.updSup n f).wire = s.wire := rfl
@[simp] theorem updSup_rotation (n : LineNo) (f : LineRec → LineRec) : (s.updSup n f).rotation = s.rotation := rfl
@[simp] theorem updSup_orderSlots (n : LineNo) (f : LineRec → LineRec) : (s.updSup n f).orderSlots = s.orderSlots := rfl
@[simp] theorem updSup_echo (n : LineNo) (f : LineRec → LineRec) : (s.updSup n f).echo = s.echo := rfl
@[simp] theorem updSup_counters (n : LineNo) (f : LineRec → LineRec) : (s.updSup n f).counters = s.counters := rfl
@[simp] theorem updSup_draws (n : LineNo) (f : LineRec → LineRec) : (s.updSup n f).draws = s.draws := rfl
@[simp] theorem updSup_pending (n : LineNo) (f : LineRec → LineRec) : (s.updSup n f).pending = s.pending := rfl

/-! ## updPath -/

@[simp] theorem updPath_now (n : LineNo) (f : Path → Path) : (s.updPath n f).now = s.now := rfl
@[simp] theorem updPath_loader (n : LineNo) (f : Path → Path) : (s.updPath n f).loader = s.loader := rfl
@[simp] theorem updPath_restartPin (n : LineNo) (f : Path → Path) : (s.updPath n f).restartPin = s.restartPin := rfl
@[simp] theorem updPath_station (n : LineNo) (f : Path → Path) : (s.updPath n f).station = s.station := rfl
@[simp] theorem updPath_cfg (n : LineNo) (f : Path → Path) : (s.updPath n f).cfg = s.cfg := rfl
@[simp] theorem updPath_configClamped (n : LineNo) (f : Path → Path) : (s.updPath n f).configClamped = s.configClamped := rfl
@[simp] theorem updPath_sup (n : LineNo) (f : Path → Path) : (s.updPath n f).sup = s.sup := rfl
@[simp] theorem updPath_asks (n : LineNo) (f : Path → Path) : (s.updPath n f).asks = s.asks := rfl
@[simp] theorem updPath_path (n : LineNo) (f : Path → Path) : (s.updPath n f).path = s.path.set n (f s.path[n]) := rfl
@[simp] theorem updPath_free (n : LineNo) (f : Path → Path) : (s.updPath n f).free = s.free := rfl
@[simp] theorem updPath_sign (n : LineNo) (f : Path → Path) : (s.updPath n f).sign = s.sign := rfl
@[simp] theorem updPath_sess (n : LineNo) (f : Path → Path) : (s.updPath n f).sess = s.sess := rfl
@[simp] theorem updPath_claims (n : LineNo) (f : Path → Path) : (s.updPath n f).claims = s.claims := rfl
@[simp] theorem updPath_run (n : LineNo) (f : Path → Path) : (s.updPath n f).run = s.run := rfl
@[simp] theorem updPath_result (n : LineNo) (f : Path → Path) : (s.updPath n f).result = s.result := rfl
@[simp] theorem updPath_requestSerial (n : LineNo) (f : Path → Path) : (s.updPath n f).requestSerial = s.requestSerial := rfl
@[simp] theorem updPath_sessionSerial (n : LineNo) (f : Path → Path) : (s.updPath n f).sessionSerial = s.sessionSerial := rfl
@[simp] theorem updPath_recordSerial (n : LineNo) (f : Path → Path) : (s.updPath n f).recordSerial = s.recordSerial := rfl
@[simp] theorem updPath_presence (n : LineNo) (f : Path → Path) : (s.updPath n f).presence = s.presence := rfl
@[simp] theorem updPath_roster (n : LineNo) (f : Path → Path) : (s.updPath n f).roster = s.roster := rfl
@[simp] theorem updPath_refreshTimer (n : LineNo) (f : Path → Path) : (s.updPath n f).refreshTimer = s.refreshTimer := rfl
@[simp] theorem updPath_beaconTimer (n : LineNo) (f : Path → Path) : (s.updPath n f).beaconTimer = s.beaconTimer := rfl
@[simp] theorem updPath_timebase (n : LineNo) (f : Path → Path) : (s.updPath n f).timebase = s.timebase := rfl
@[simp] theorem updPath_clock (n : LineNo) (f : Path → Path) : (s.updPath n f).clock = s.clock := rfl
@[simp] theorem updPath_queue (n : LineNo) (f : Path → Path) : (s.updPath n f).queue = s.queue := rfl
@[simp] theorem updPath_slots (n : LineNo) (f : Path → Path) : (s.updPath n f).slots = s.slots := rfl
@[simp] theorem updPath_drain (n : LineNo) (f : Path → Path) : (s.updPath n f).drain = s.drain := rfl
@[simp] theorem updPath_clashTimer (n : LineNo) (f : Path → Path) : (s.updPath n f).clashTimer = s.clashTimer := rfl
@[simp] theorem updPath_bus (n : LineNo) (f : Path → Path) : (s.updPath n f).bus = s.bus := rfl
@[simp] theorem updPath_freshAnnounced (n : LineNo) (f : Path → Path) : (s.updPath n f).freshAnnounced = s.freshAnnounced := rfl
@[simp] theorem updPath_quietTimer (n : LineNo) (f : Path → Path) : (s.updPath n f).quietTimer = s.quietTimer := rfl
@[simp] theorem updPath_streak (n : LineNo) (f : Path → Path) : (s.updPath n f).streak = s.streak := rfl
@[simp] theorem updPath_reqs (n : LineNo) (f : Path → Path) : (s.updPath n f).reqs = s.reqs := rfl
@[simp] theorem updPath_wire (n : LineNo) (f : Path → Path) : (s.updPath n f).wire = s.wire := rfl
@[simp] theorem updPath_rotation (n : LineNo) (f : Path → Path) : (s.updPath n f).rotation = s.rotation := rfl
@[simp] theorem updPath_orderSlots (n : LineNo) (f : Path → Path) : (s.updPath n f).orderSlots = s.orderSlots := rfl
@[simp] theorem updPath_echo (n : LineNo) (f : Path → Path) : (s.updPath n f).echo = s.echo := rfl
@[simp] theorem updPath_counters (n : LineNo) (f : Path → Path) : (s.updPath n f).counters = s.counters := rfl
@[simp] theorem updPath_draws (n : LineNo) (f : Path → Path) : (s.updPath n f).draws = s.draws := rfl
@[simp] theorem updPath_pending (n : LineNo) (f : Path → Path) : (s.updPath n f).pending = s.pending := rfl

/-! ## setIn -/

@[simp] theorem setIn_now (n : LineNo) (q : Queue) : (s.setIn n q).now = s.now := rfl
@[simp] theorem setIn_loader (n : LineNo) (q : Queue) : (s.setIn n q).loader = s.loader := rfl
@[simp] theorem setIn_restartPin (n : LineNo) (q : Queue) : (s.setIn n q).restartPin = s.restartPin := rfl
@[simp] theorem setIn_station (n : LineNo) (q : Queue) : (s.setIn n q).station = s.station := rfl
@[simp] theorem setIn_cfg (n : LineNo) (q : Queue) : (s.setIn n q).cfg = s.cfg := rfl
@[simp] theorem setIn_configClamped (n : LineNo) (q : Queue) : (s.setIn n q).configClamped = s.configClamped := rfl
@[simp] theorem setIn_sup (n : LineNo) (q : Queue) : (s.setIn n q).sup = s.sup := rfl
@[simp] theorem setIn_asks (n : LineNo) (q : Queue) : (s.setIn n q).asks = s.asks := rfl
@[simp] theorem setIn_path (n : LineNo) (q : Queue) : (s.setIn n q).path = s.path.set n { s.path[n] with inQ := q } := rfl
@[simp] theorem setIn_free (n : LineNo) (q : Queue) : (s.setIn n q).free = s.free + s.path[n].inQ.blocks - q.blocks := rfl
@[simp] theorem setIn_sign (n : LineNo) (q : Queue) : (s.setIn n q).sign = s.sign := rfl
@[simp] theorem setIn_sess (n : LineNo) (q : Queue) : (s.setIn n q).sess = s.sess := rfl
@[simp] theorem setIn_claims (n : LineNo) (q : Queue) : (s.setIn n q).claims = s.claims := rfl
@[simp] theorem setIn_run (n : LineNo) (q : Queue) : (s.setIn n q).run = s.run := rfl
@[simp] theorem setIn_result (n : LineNo) (q : Queue) : (s.setIn n q).result = s.result := rfl
@[simp] theorem setIn_requestSerial (n : LineNo) (q : Queue) : (s.setIn n q).requestSerial = s.requestSerial := rfl
@[simp] theorem setIn_sessionSerial (n : LineNo) (q : Queue) : (s.setIn n q).sessionSerial = s.sessionSerial := rfl
@[simp] theorem setIn_recordSerial (n : LineNo) (q : Queue) : (s.setIn n q).recordSerial = s.recordSerial := rfl
@[simp] theorem setIn_presence (n : LineNo) (q : Queue) : (s.setIn n q).presence = s.presence := rfl
@[simp] theorem setIn_roster (n : LineNo) (q : Queue) : (s.setIn n q).roster = s.roster := rfl
@[simp] theorem setIn_refreshTimer (n : LineNo) (q : Queue) : (s.setIn n q).refreshTimer = s.refreshTimer := rfl
@[simp] theorem setIn_beaconTimer (n : LineNo) (q : Queue) : (s.setIn n q).beaconTimer = s.beaconTimer := rfl
@[simp] theorem setIn_timebase (n : LineNo) (q : Queue) : (s.setIn n q).timebase = s.timebase := rfl
@[simp] theorem setIn_clock (n : LineNo) (q : Queue) : (s.setIn n q).clock = s.clock := rfl
@[simp] theorem setIn_queue (n : LineNo) (q : Queue) : (s.setIn n q).queue = s.queue := rfl
@[simp] theorem setIn_slots (n : LineNo) (q : Queue) : (s.setIn n q).slots = s.slots := rfl
@[simp] theorem setIn_drain (n : LineNo) (q : Queue) : (s.setIn n q).drain = s.drain := rfl
@[simp] theorem setIn_clashTimer (n : LineNo) (q : Queue) : (s.setIn n q).clashTimer = s.clashTimer := rfl
@[simp] theorem setIn_bus (n : LineNo) (q : Queue) : (s.setIn n q).bus = s.bus := rfl
@[simp] theorem setIn_freshAnnounced (n : LineNo) (q : Queue) : (s.setIn n q).freshAnnounced = s.freshAnnounced := rfl
@[simp] theorem setIn_quietTimer (n : LineNo) (q : Queue) : (s.setIn n q).quietTimer = s.quietTimer := rfl
@[simp] theorem setIn_streak (n : LineNo) (q : Queue) : (s.setIn n q).streak = s.streak := rfl
@[simp] theorem setIn_reqs (n : LineNo) (q : Queue) : (s.setIn n q).reqs = s.reqs := rfl
@[simp] theorem setIn_wire (n : LineNo) (q : Queue) : (s.setIn n q).wire = s.wire := rfl
@[simp] theorem setIn_rotation (n : LineNo) (q : Queue) : (s.setIn n q).rotation = s.rotation := rfl
@[simp] theorem setIn_orderSlots (n : LineNo) (q : Queue) : (s.setIn n q).orderSlots = s.orderSlots := rfl
@[simp] theorem setIn_echo (n : LineNo) (q : Queue) : (s.setIn n q).echo = s.echo := rfl
@[simp] theorem setIn_counters (n : LineNo) (q : Queue) : (s.setIn n q).counters = s.counters := rfl
@[simp] theorem setIn_draws (n : LineNo) (q : Queue) : (s.setIn n q).draws = s.draws := rfl
@[simp] theorem setIn_pending (n : LineNo) (q : Queue) : (s.setIn n q).pending = s.pending := rfl

/-! ## setOut -/

@[simp] theorem setOut_now (n : LineNo) (q : Queue) : (s.setOut n q).now = s.now := rfl
@[simp] theorem setOut_loader (n : LineNo) (q : Queue) : (s.setOut n q).loader = s.loader := rfl
@[simp] theorem setOut_restartPin (n : LineNo) (q : Queue) : (s.setOut n q).restartPin = s.restartPin := rfl
@[simp] theorem setOut_station (n : LineNo) (q : Queue) : (s.setOut n q).station = s.station := rfl
@[simp] theorem setOut_cfg (n : LineNo) (q : Queue) : (s.setOut n q).cfg = s.cfg := rfl
@[simp] theorem setOut_configClamped (n : LineNo) (q : Queue) : (s.setOut n q).configClamped = s.configClamped := rfl
@[simp] theorem setOut_sup (n : LineNo) (q : Queue) : (s.setOut n q).sup = s.sup := rfl
@[simp] theorem setOut_asks (n : LineNo) (q : Queue) : (s.setOut n q).asks = s.asks := rfl
@[simp] theorem setOut_path (n : LineNo) (q : Queue) : (s.setOut n q).path = s.path.set n { s.path[n] with outQ := q } := rfl
@[simp] theorem setOut_free (n : LineNo) (q : Queue) : (s.setOut n q).free = s.free + s.path[n].outQ.blocks - q.blocks := rfl
@[simp] theorem setOut_sign (n : LineNo) (q : Queue) : (s.setOut n q).sign = s.sign := rfl
@[simp] theorem setOut_sess (n : LineNo) (q : Queue) : (s.setOut n q).sess = s.sess := rfl
@[simp] theorem setOut_claims (n : LineNo) (q : Queue) : (s.setOut n q).claims = s.claims := rfl
@[simp] theorem setOut_run (n : LineNo) (q : Queue) : (s.setOut n q).run = s.run := rfl
@[simp] theorem setOut_result (n : LineNo) (q : Queue) : (s.setOut n q).result = s.result := rfl
@[simp] theorem setOut_requestSerial (n : LineNo) (q : Queue) : (s.setOut n q).requestSerial = s.requestSerial := rfl
@[simp] theorem setOut_sessionSerial (n : LineNo) (q : Queue) : (s.setOut n q).sessionSerial = s.sessionSerial := rfl
@[simp] theorem setOut_recordSerial (n : LineNo) (q : Queue) : (s.setOut n q).recordSerial = s.recordSerial := rfl
@[simp] theorem setOut_presence (n : LineNo) (q : Queue) : (s.setOut n q).presence = s.presence := rfl
@[simp] theorem setOut_roster (n : LineNo) (q : Queue) : (s.setOut n q).roster = s.roster := rfl
@[simp] theorem setOut_refreshTimer (n : LineNo) (q : Queue) : (s.setOut n q).refreshTimer = s.refreshTimer := rfl
@[simp] theorem setOut_beaconTimer (n : LineNo) (q : Queue) : (s.setOut n q).beaconTimer = s.beaconTimer := rfl
@[simp] theorem setOut_timebase (n : LineNo) (q : Queue) : (s.setOut n q).timebase = s.timebase := rfl
@[simp] theorem setOut_clock (n : LineNo) (q : Queue) : (s.setOut n q).clock = s.clock := rfl
@[simp] theorem setOut_queue (n : LineNo) (q : Queue) : (s.setOut n q).queue = s.queue := rfl
@[simp] theorem setOut_slots (n : LineNo) (q : Queue) : (s.setOut n q).slots = s.slots := rfl
@[simp] theorem setOut_drain (n : LineNo) (q : Queue) : (s.setOut n q).drain = s.drain := rfl
@[simp] theorem setOut_clashTimer (n : LineNo) (q : Queue) : (s.setOut n q).clashTimer = s.clashTimer := rfl
@[simp] theorem setOut_bus (n : LineNo) (q : Queue) : (s.setOut n q).bus = s.bus := rfl
@[simp] theorem setOut_freshAnnounced (n : LineNo) (q : Queue) : (s.setOut n q).freshAnnounced = s.freshAnnounced := rfl
@[simp] theorem setOut_quietTimer (n : LineNo) (q : Queue) : (s.setOut n q).quietTimer = s.quietTimer := rfl
@[simp] theorem setOut_streak (n : LineNo) (q : Queue) : (s.setOut n q).streak = s.streak := rfl
@[simp] theorem setOut_reqs (n : LineNo) (q : Queue) : (s.setOut n q).reqs = s.reqs := rfl
@[simp] theorem setOut_wire (n : LineNo) (q : Queue) : (s.setOut n q).wire = s.wire := rfl
@[simp] theorem setOut_rotation (n : LineNo) (q : Queue) : (s.setOut n q).rotation = s.rotation := rfl
@[simp] theorem setOut_orderSlots (n : LineNo) (q : Queue) : (s.setOut n q).orderSlots = s.orderSlots := rfl
@[simp] theorem setOut_echo (n : LineNo) (q : Queue) : (s.setOut n q).echo = s.echo := rfl
@[simp] theorem setOut_counters (n : LineNo) (q : Queue) : (s.setOut n q).counters = s.counters := rfl
@[simp] theorem setOut_draws (n : LineNo) (q : Queue) : (s.setOut n q).draws = s.draws := rfl
@[simp] theorem setOut_pending (n : LineNo) (q : Queue) : (s.setOut n q).pending = s.pending := rfl

/-! ## at -/

@[simp] theorem at_now (t : Moment) : (s.at t).now = max s.now t := rfl
@[simp] theorem at_loader (t : Moment) : (s.at t).loader = s.loader := rfl
@[simp] theorem at_restartPin (t : Moment) : (s.at t).restartPin = s.restartPin := rfl
@[simp] theorem at_station (t : Moment) : (s.at t).station = s.station := rfl
@[simp] theorem at_cfg (t : Moment) : (s.at t).cfg = s.cfg := rfl
@[simp] theorem at_configClamped (t : Moment) : (s.at t).configClamped = s.configClamped := rfl
@[simp] theorem at_sup (t : Moment) : (s.at t).sup = s.sup := rfl
@[simp] theorem at_asks (t : Moment) : (s.at t).asks = s.asks := rfl
@[simp] theorem at_path (t : Moment) : (s.at t).path = s.path := rfl
@[simp] theorem at_free (t : Moment) : (s.at t).free = s.free := rfl
@[simp] theorem at_sign (t : Moment) : (s.at t).sign = s.sign := rfl
@[simp] theorem at_sess (t : Moment) : (s.at t).sess = s.sess := rfl
@[simp] theorem at_claims (t : Moment) : (s.at t).claims = s.claims := rfl
@[simp] theorem at_run (t : Moment) : (s.at t).run = s.run := rfl
@[simp] theorem at_result (t : Moment) : (s.at t).result = s.result := rfl
@[simp] theorem at_requestSerial (t : Moment) : (s.at t).requestSerial = s.requestSerial := rfl
@[simp] theorem at_sessionSerial (t : Moment) : (s.at t).sessionSerial = s.sessionSerial := rfl
@[simp] theorem at_recordSerial (t : Moment) : (s.at t).recordSerial = s.recordSerial := rfl
@[simp] theorem at_presence (t : Moment) : (s.at t).presence = s.presence := rfl
@[simp] theorem at_roster (t : Moment) : (s.at t).roster = s.roster := rfl
@[simp] theorem at_refreshTimer (t : Moment) : (s.at t).refreshTimer = s.refreshTimer := rfl
@[simp] theorem at_beaconTimer (t : Moment) : (s.at t).beaconTimer = s.beaconTimer := rfl
@[simp] theorem at_timebase (t : Moment) : (s.at t).timebase = s.timebase := rfl
@[simp] theorem at_clock (t : Moment) : (s.at t).clock = s.clock := rfl
@[simp] theorem at_queue (t : Moment) : (s.at t).queue = s.queue := rfl
@[simp] theorem at_slots (t : Moment) : (s.at t).slots = s.slots := rfl
@[simp] theorem at_drain (t : Moment) : (s.at t).drain = s.drain := rfl
@[simp] theorem at_clashTimer (t : Moment) : (s.at t).clashTimer = s.clashTimer := rfl
@[simp] theorem at_bus (t : Moment) : (s.at t).bus = s.bus := rfl
@[simp] theorem at_freshAnnounced (t : Moment) : (s.at t).freshAnnounced = s.freshAnnounced := rfl
@[simp] theorem at_quietTimer (t : Moment) : (s.at t).quietTimer = s.quietTimer := rfl
@[simp] theorem at_streak (t : Moment) : (s.at t).streak = s.streak := rfl
@[simp] theorem at_reqs (t : Moment) : (s.at t).reqs = s.reqs := rfl
@[simp] theorem at_wire (t : Moment) : (s.at t).wire = s.wire := rfl
@[simp] theorem at_rotation (t : Moment) : (s.at t).rotation = s.rotation := rfl
@[simp] theorem at_orderSlots (t : Moment) : (s.at t).orderSlots = s.orderSlots := rfl
@[simp] theorem at_echo (t : Moment) : (s.at t).echo = s.echo := rfl
@[simp] theorem at_counters (t : Moment) : (s.at t).counters = s.counters := rfl
@[simp] theorem at_draws (t : Moment) : (s.at t).draws = s.draws := rfl
@[simp] theorem at_pending (t : Moment) : (s.at t).pending = s.pending := rfl

/-! ## count -/

@[simp] theorem count_now (c : CounterId) : (s.count c).now = s.now := rfl
@[simp] theorem count_loader (c : CounterId) : (s.count c).loader = s.loader := rfl
@[simp] theorem count_restartPin (c : CounterId) : (s.count c).restartPin = s.restartPin := rfl
@[simp] theorem count_station (c : CounterId) : (s.count c).station = s.station := rfl
@[simp] theorem count_cfg (c : CounterId) : (s.count c).cfg = s.cfg := rfl
@[simp] theorem count_configClamped (c : CounterId) : (s.count c).configClamped = s.configClamped := rfl
@[simp] theorem count_sup (c : CounterId) : (s.count c).sup = s.sup := rfl
@[simp] theorem count_asks (c : CounterId) : (s.count c).asks = s.asks := rfl
@[simp] theorem count_path (c : CounterId) : (s.count c).path = s.path := rfl
@[simp] theorem count_free (c : CounterId) : (s.count c).free = s.free := rfl
@[simp] theorem count_sign (c : CounterId) : (s.count c).sign = s.sign := rfl
@[simp] theorem count_sess (c : CounterId) : (s.count c).sess = s.sess := rfl
@[simp] theorem count_claims (c : CounterId) : (s.count c).claims = s.claims := rfl
@[simp] theorem count_run (c : CounterId) : (s.count c).run = s.run := rfl
@[simp] theorem count_result (c : CounterId) : (s.count c).result = s.result := rfl
@[simp] theorem count_requestSerial (c : CounterId) : (s.count c).requestSerial = s.requestSerial := rfl
@[simp] theorem count_sessionSerial (c : CounterId) : (s.count c).sessionSerial = s.sessionSerial := rfl
@[simp] theorem count_recordSerial (c : CounterId) : (s.count c).recordSerial = s.recordSerial := rfl
@[simp] theorem count_presence (c : CounterId) : (s.count c).presence = s.presence := rfl
@[simp] theorem count_roster (c : CounterId) : (s.count c).roster = s.roster := rfl
@[simp] theorem count_refreshTimer (c : CounterId) : (s.count c).refreshTimer = s.refreshTimer := rfl
@[simp] theorem count_beaconTimer (c : CounterId) : (s.count c).beaconTimer = s.beaconTimer := rfl
@[simp] theorem count_timebase (c : CounterId) : (s.count c).timebase = s.timebase := rfl
@[simp] theorem count_clock (c : CounterId) : (s.count c).clock = s.clock := rfl
@[simp] theorem count_queue (c : CounterId) : (s.count c).queue = s.queue := rfl
@[simp] theorem count_slots (c : CounterId) : (s.count c).slots = s.slots := rfl
@[simp] theorem count_drain (c : CounterId) : (s.count c).drain = s.drain := rfl
@[simp] theorem count_clashTimer (c : CounterId) : (s.count c).clashTimer = s.clashTimer := rfl
@[simp] theorem count_bus (c : CounterId) : (s.count c).bus = s.bus := rfl
@[simp] theorem count_freshAnnounced (c : CounterId) : (s.count c).freshAnnounced = s.freshAnnounced := rfl
@[simp] theorem count_quietTimer (c : CounterId) : (s.count c).quietTimer = s.quietTimer := rfl
@[simp] theorem count_streak (c : CounterId) : (s.count c).streak = s.streak := rfl
@[simp] theorem count_reqs (c : CounterId) : (s.count c).reqs = s.reqs := rfl
@[simp] theorem count_wire (c : CounterId) : (s.count c).wire = s.wire := rfl
@[simp] theorem count_rotation (c : CounterId) : (s.count c).rotation = s.rotation := rfl
@[simp] theorem count_orderSlots (c : CounterId) : (s.count c).orderSlots = s.orderSlots := rfl
@[simp] theorem count_echo (c : CounterId) : (s.count c).echo = s.echo := rfl
@[simp] theorem count_counters (c : CounterId) : (s.count c).counters = s.counters.rise c := rfl
@[simp] theorem count_draws (c : CounterId) : (s.count c).draws = s.draws := rfl
@[simp] theorem count_pending (c : CounterId) : (s.count c).pending = s.pending := rfl

/-! ## setReq -/

@[simp] theorem setReq_now (i : ReqId) (r : Req) : (s.setReq i r).now = s.now := rfl
@[simp] theorem setReq_loader (i : ReqId) (r : Req) : (s.setReq i r).loader = s.loader := rfl
@[simp] theorem setReq_restartPin (i : ReqId) (r : Req) : (s.setReq i r).restartPin = s.restartPin := rfl
@[simp] theorem setReq_station (i : ReqId) (r : Req) : (s.setReq i r).station = s.station := rfl
@[simp] theorem setReq_cfg (i : ReqId) (r : Req) : (s.setReq i r).cfg = s.cfg := rfl
@[simp] theorem setReq_configClamped (i : ReqId) (r : Req) : (s.setReq i r).configClamped = s.configClamped := rfl
@[simp] theorem setReq_sup (i : ReqId) (r : Req) : (s.setReq i r).sup = s.sup := rfl
@[simp] theorem setReq_asks (i : ReqId) (r : Req) : (s.setReq i r).asks = s.asks := rfl
@[simp] theorem setReq_path (i : ReqId) (r : Req) : (s.setReq i r).path = s.path := rfl
@[simp] theorem setReq_free (i : ReqId) (r : Req) : (s.setReq i r).free = s.free := rfl
@[simp] theorem setReq_sign (i : ReqId) (r : Req) : (s.setReq i r).sign = s.sign := rfl
@[simp] theorem setReq_sess (i : ReqId) (r : Req) : (s.setReq i r).sess = s.sess := rfl
@[simp] theorem setReq_claims (i : ReqId) (r : Req) : (s.setReq i r).claims = s.claims := rfl
@[simp] theorem setReq_run (i : ReqId) (r : Req) : (s.setReq i r).run = s.run := rfl
@[simp] theorem setReq_result (i : ReqId) (r : Req) : (s.setReq i r).result = s.result := rfl
@[simp] theorem setReq_requestSerial (i : ReqId) (r : Req) : (s.setReq i r).requestSerial = s.requestSerial := rfl
@[simp] theorem setReq_sessionSerial (i : ReqId) (r : Req) : (s.setReq i r).sessionSerial = s.sessionSerial := rfl
@[simp] theorem setReq_recordSerial (i : ReqId) (r : Req) : (s.setReq i r).recordSerial = s.recordSerial := rfl
@[simp] theorem setReq_presence (i : ReqId) (r : Req) : (s.setReq i r).presence = s.presence := rfl
@[simp] theorem setReq_roster (i : ReqId) (r : Req) : (s.setReq i r).roster = s.roster := rfl
@[simp] theorem setReq_refreshTimer (i : ReqId) (r : Req) : (s.setReq i r).refreshTimer = s.refreshTimer := rfl
@[simp] theorem setReq_beaconTimer (i : ReqId) (r : Req) : (s.setReq i r).beaconTimer = s.beaconTimer := rfl
@[simp] theorem setReq_timebase (i : ReqId) (r : Req) : (s.setReq i r).timebase = s.timebase := rfl
@[simp] theorem setReq_clock (i : ReqId) (r : Req) : (s.setReq i r).clock = s.clock := rfl
@[simp] theorem setReq_queue (i : ReqId) (r : Req) : (s.setReq i r).queue = s.queue := rfl
@[simp] theorem setReq_slots (i : ReqId) (r : Req) : (s.setReq i r).slots = s.slots := rfl
@[simp] theorem setReq_drain (i : ReqId) (r : Req) : (s.setReq i r).drain = s.drain := rfl
@[simp] theorem setReq_clashTimer (i : ReqId) (r : Req) : (s.setReq i r).clashTimer = s.clashTimer := rfl
@[simp] theorem setReq_bus (i : ReqId) (r : Req) : (s.setReq i r).bus = s.bus := rfl
@[simp] theorem setReq_freshAnnounced (i : ReqId) (r : Req) : (s.setReq i r).freshAnnounced = s.freshAnnounced := rfl
@[simp] theorem setReq_quietTimer (i : ReqId) (r : Req) : (s.setReq i r).quietTimer = s.quietTimer := rfl
@[simp] theorem setReq_streak (i : ReqId) (r : Req) : (s.setReq i r).streak = s.streak := rfl
@[simp] theorem setReq_reqs (i : ReqId) (r : Req) : (s.setReq i r).reqs = putReq s.reqs i r := rfl
@[simp] theorem setReq_wire (i : ReqId) (r : Req) : (s.setReq i r).wire = s.wire := rfl
@[simp] theorem setReq_rotation (i : ReqId) (r : Req) : (s.setReq i r).rotation = s.rotation := rfl
@[simp] theorem setReq_orderSlots (i : ReqId) (r : Req) : (s.setReq i r).orderSlots = s.orderSlots := rfl
@[simp] theorem setReq_echo (i : ReqId) (r : Req) : (s.setReq i r).echo = s.echo := rfl
@[simp] theorem setReq_counters (i : ReqId) (r : Req) : (s.setReq i r).counters = s.counters := rfl
@[simp] theorem setReq_draws (i : ReqId) (r : Req) : (s.setReq i r).draws = s.draws := rfl
@[simp] theorem setReq_pending (i : ReqId) (r : Req) : (s.setReq i r).pending = s.pending := rfl

/-! ## dropReq -/

@[simp] theorem dropReq_now (i : ReqId) : (s.dropReq i).now = s.now := rfl
@[simp] theorem dropReq_loader (i : ReqId) : (s.dropReq i).loader = s.loader := rfl
@[simp] theorem dropReq_restartPin (i : ReqId) : (s.dropReq i).restartPin = s.restartPin := rfl
@[simp] theorem dropReq_station (i : ReqId) : (s.dropReq i).station = s.station := rfl
@[simp] theorem dropReq_cfg (i : ReqId) : (s.dropReq i).cfg = s.cfg := rfl
@[simp] theorem dropReq_configClamped (i : ReqId) : (s.dropReq i).configClamped = s.configClamped := rfl
@[simp] theorem dropReq_sup (i : ReqId) : (s.dropReq i).sup = s.sup := rfl
@[simp] theorem dropReq_asks (i : ReqId) : (s.dropReq i).asks = s.asks := rfl
@[simp] theorem dropReq_path (i : ReqId) : (s.dropReq i).path = s.path := rfl
@[simp] theorem dropReq_free (i : ReqId) : (s.dropReq i).free = s.free := rfl
@[simp] theorem dropReq_sign (i : ReqId) : (s.dropReq i).sign = s.sign := rfl
@[simp] theorem dropReq_sess (i : ReqId) : (s.dropReq i).sess = s.sess := rfl
@[simp] theorem dropReq_claims (i : ReqId) : (s.dropReq i).claims = s.claims := rfl
@[simp] theorem dropReq_run (i : ReqId) : (s.dropReq i).run = s.run := rfl
@[simp] theorem dropReq_result (i : ReqId) : (s.dropReq i).result = s.result := rfl
@[simp] theorem dropReq_requestSerial (i : ReqId) : (s.dropReq i).requestSerial = s.requestSerial := rfl
@[simp] theorem dropReq_sessionSerial (i : ReqId) : (s.dropReq i).sessionSerial = s.sessionSerial := rfl
@[simp] theorem dropReq_recordSerial (i : ReqId) : (s.dropReq i).recordSerial = s.recordSerial := rfl
@[simp] theorem dropReq_presence (i : ReqId) : (s.dropReq i).presence = s.presence := rfl
@[simp] theorem dropReq_roster (i : ReqId) : (s.dropReq i).roster = s.roster := rfl
@[simp] theorem dropReq_refreshTimer (i : ReqId) : (s.dropReq i).refreshTimer = s.refreshTimer := rfl
@[simp] theorem dropReq_beaconTimer (i : ReqId) : (s.dropReq i).beaconTimer = s.beaconTimer := rfl
@[simp] theorem dropReq_timebase (i : ReqId) : (s.dropReq i).timebase = s.timebase := rfl
@[simp] theorem dropReq_clock (i : ReqId) : (s.dropReq i).clock = s.clock := rfl
@[simp] theorem dropReq_queue (i : ReqId) : (s.dropReq i).queue = s.queue := rfl
@[simp] theorem dropReq_slots (i : ReqId) : (s.dropReq i).slots = s.slots := rfl
@[simp] theorem dropReq_drain (i : ReqId) : (s.dropReq i).drain = s.drain := rfl
@[simp] theorem dropReq_clashTimer (i : ReqId) : (s.dropReq i).clashTimer = s.clashTimer := rfl
@[simp] theorem dropReq_bus (i : ReqId) : (s.dropReq i).bus = s.bus := rfl
@[simp] theorem dropReq_freshAnnounced (i : ReqId) : (s.dropReq i).freshAnnounced = s.freshAnnounced := rfl
@[simp] theorem dropReq_quietTimer (i : ReqId) : (s.dropReq i).quietTimer = s.quietTimer := rfl
@[simp] theorem dropReq_streak (i : ReqId) : (s.dropReq i).streak = s.streak := rfl
@[simp] theorem dropReq_reqs (i : ReqId) : (s.dropReq i).reqs = putReq s.reqs i Req.idle := rfl
@[simp] theorem dropReq_wire (i : ReqId) : (s.dropReq i).wire = s.wire := rfl
@[simp] theorem dropReq_rotation (i : ReqId) : (s.dropReq i).rotation = s.rotation := rfl
@[simp] theorem dropReq_orderSlots (i : ReqId) : (s.dropReq i).orderSlots = s.orderSlots := rfl
@[simp] theorem dropReq_echo (i : ReqId) : (s.dropReq i).echo = s.echo := rfl
@[simp] theorem dropReq_counters (i : ReqId) : (s.dropReq i).counters = s.counters := rfl
@[simp] theorem dropReq_draws (i : ReqId) : (s.dropReq i).draws = s.draws := rfl
@[simp] theorem dropReq_pending (i : ReqId) : (s.dropReq i).pending = s.pending := rfl

/-! ## raise -/

@[simp] theorem raise_now (i : ReqId) : (s.raise i).now = s.now := by unfold State.raise; split <;> rfl
@[simp] theorem raise_loader (i : ReqId) : (s.raise i).loader = s.loader := by unfold State.raise; split <;> rfl
@[simp] theorem raise_restartPin (i : ReqId) : (s.raise i).restartPin = s.restartPin := by unfold State.raise; split <;> rfl
@[simp] theorem raise_station (i : ReqId) : (s.raise i).station = s.station := by unfold State.raise; split <;> rfl
@[simp] theorem raise_cfg (i : ReqId) : (s.raise i).cfg = s.cfg := by unfold State.raise; split <;> rfl
@[simp] theorem raise_configClamped (i : ReqId) : (s.raise i).configClamped = s.configClamped := by unfold State.raise; split <;> rfl
@[simp] theorem raise_sup (i : ReqId) : (s.raise i).sup = s.sup := by unfold State.raise; split <;> rfl
@[simp] theorem raise_asks (i : ReqId) : (s.raise i).asks = s.asks := by unfold State.raise; split <;> rfl
@[simp] theorem raise_path (i : ReqId) : (s.raise i).path = s.path := by unfold State.raise; split <;> rfl
@[simp] theorem raise_free (i : ReqId) : (s.raise i).free = s.free := by unfold State.raise; split <;> rfl
@[simp] theorem raise_sign (i : ReqId) : (s.raise i).sign = s.sign := by unfold State.raise; split <;> rfl
@[simp] theorem raise_sess (i : ReqId) : (s.raise i).sess = s.sess := by unfold State.raise; split <;> rfl
@[simp] theorem raise_claims (i : ReqId) : (s.raise i).claims = s.claims := by unfold State.raise; split <;> rfl
@[simp] theorem raise_run (i : ReqId) : (s.raise i).run = s.run := by unfold State.raise; split <;> rfl
@[simp] theorem raise_result (i : ReqId) : (s.raise i).result = s.result := by unfold State.raise; split <;> rfl
@[simp] theorem raise_requestSerial (i : ReqId) : (s.raise i).requestSerial = s.requestSerial := by unfold State.raise; split <;> rfl
@[simp] theorem raise_sessionSerial (i : ReqId) : (s.raise i).sessionSerial = s.sessionSerial := by unfold State.raise; split <;> rfl
@[simp] theorem raise_recordSerial (i : ReqId) : (s.raise i).recordSerial = s.recordSerial := by unfold State.raise; split <;> rfl
@[simp] theorem raise_presence (i : ReqId) : (s.raise i).presence = s.presence := by unfold State.raise; split <;> rfl
@[simp] theorem raise_roster (i : ReqId) : (s.raise i).roster = s.roster := by unfold State.raise; split <;> rfl
@[simp] theorem raise_refreshTimer (i : ReqId) : (s.raise i).refreshTimer = s.refreshTimer := by unfold State.raise; split <;> rfl
@[simp] theorem raise_beaconTimer (i : ReqId) : (s.raise i).beaconTimer = s.beaconTimer := by unfold State.raise; split <;> rfl
@[simp] theorem raise_timebase (i : ReqId) : (s.raise i).timebase = s.timebase := by unfold State.raise; split <;> rfl
@[simp] theorem raise_clock (i : ReqId) : (s.raise i).clock = s.clock := by unfold State.raise; split <;> rfl
@[simp] theorem raise_queue (i : ReqId) : (s.raise i).queue = s.queue := by unfold State.raise; split <;> rfl
@[simp] theorem raise_slots (i : ReqId) : (s.raise i).slots = s.slots := by unfold State.raise; split <;> rfl
@[simp] theorem raise_drain (i : ReqId) : (s.raise i).drain = s.drain := by unfold State.raise; split <;> rfl
@[simp] theorem raise_clashTimer (i : ReqId) : (s.raise i).clashTimer = s.clashTimer := by unfold State.raise; split <;> rfl
@[simp] theorem raise_bus (i : ReqId) : (s.raise i).bus = s.bus := by unfold State.raise; split <;> rfl
@[simp] theorem raise_freshAnnounced (i : ReqId) : (s.raise i).freshAnnounced = s.freshAnnounced := by unfold State.raise; split <;> rfl
@[simp] theorem raise_quietTimer (i : ReqId) : (s.raise i).quietTimer = s.quietTimer := by unfold State.raise; split <;> rfl
@[simp] theorem raise_streak (i : ReqId) : (s.raise i).streak = s.streak := by unfold State.raise; split <;> rfl
@[simp] theorem raise_wire (i : ReqId) : (s.raise i).wire = s.wire := by unfold State.raise; split <;> rfl
@[simp] theorem raise_rotation (i : ReqId) : (s.raise i).rotation = s.rotation := by unfold State.raise; split <;> rfl
@[simp] theorem raise_orderSlots (i : ReqId) : (s.raise i).orderSlots = s.orderSlots := by unfold State.raise; split <;> rfl
@[simp] theorem raise_echo (i : ReqId) : (s.raise i).echo = s.echo := by unfold State.raise; split <;> rfl
@[simp] theorem raise_draws (i : ReqId) : (s.raise i).draws = s.draws := by unfold State.raise; split <;> rfl
@[simp] theorem raise_pending (i : ReqId) : (s.raise i).pending = s.pending := by unfold State.raise; split <;> rfl

/-! ## Line state and hunt group under each update -/

@[simp] theorem setSup_group (n : LineNo) (x : LineRec) (m : LineNo) : (s.setSup n x).group m = s.group m := rfl
@[simp] theorem setAsks_st (n : LineNo) (x : Asks) (m : LineNo) : (s.setAsks n x).st m = s.st m := rfl
@[simp] theorem setAsks_group (n : LineNo) (x : Asks) (m : LineNo) : (s.setAsks n x).group m = s.group m := rfl
@[simp] theorem setPath_st (n : LineNo) (x : Path) (m : LineNo) : (s.setPath n x).st m = s.st m := rfl
@[simp] theorem setPath_group (n : LineNo) (x : Path) (m : LineNo) : (s.setPath n x).group m = s.group m := rfl
@[simp] theorem setSign_st (n : LineNo) (x : Option Context) (m : LineNo) : (s.setSign n x).st m = s.st m := rfl
@[simp] theorem setSign_group (n : LineNo) (x : Option Context) (m : LineNo) : (s.setSign n x).group m = s.group m := rfl
@[simp] theorem setSess_st (n : LineNo) (x : Option Session) (m : LineNo) : (s.setSess n x).st m = s.st m := rfl
@[simp] theorem setSess_group (n : LineNo) (x : Option Session) (m : LineNo) : (s.setSess n x).group m = s.group m := rfl
@[simp] theorem setClaims_st (n : LineNo) (x : Claims) (m : LineNo) : (s.setClaims n x).st m = s.st m := rfl
@[simp] theorem setClaims_group (n : LineNo) (x : Claims) (m : LineNo) : (s.setClaims n x).group m = s.group m := rfl
@[simp] theorem setRun_st (n : LineNo) (x : Run) (m : LineNo) : (s.setRun n x).st m = s.st m := rfl
@[simp] theorem setRun_group (n : LineNo) (x : Run) (m : LineNo) : (s.setRun n x).group m = s.group m := rfl
@[simp] theorem setResult_st (n : LineNo) (x : Option RunResult) (m : LineNo) : (s.setResult n x).st m = s.st m := rfl
@[simp] theorem setResult_group (n : LineNo) (x : Option RunResult) (m : LineNo) : (s.setResult n x).group m = s.group m := rfl
@[simp] theorem updSup_group (n : LineNo) (f : LineRec → LineRec) (m : LineNo) : (s.updSup n f).group m = s.group m := rfl
@[simp] theorem updPath_st (n : LineNo) (f : Path → Path) (m : LineNo) : (s.updPath n f).st m = s.st m := rfl
@[simp] theorem updPath_group (n : LineNo) (f : Path → Path) (m : LineNo) : (s.updPath n f).group m = s.group m := rfl
@[simp] theorem setIn_st (n : LineNo) (q : Queue) (m : LineNo) : (s.setIn n q).st m = s.st m := rfl
@[simp] theorem setIn_group (n : LineNo) (q : Queue) (m : LineNo) : (s.setIn n q).group m = s.group m := rfl
@[simp] theorem setOut_st (n : LineNo) (q : Queue) (m : LineNo) : (s.setOut n q).st m = s.st m := rfl
@[simp] theorem setOut_group (n : LineNo) (q : Queue) (m : LineNo) : (s.setOut n q).group m = s.group m := rfl
@[simp] theorem at_st (t : Moment) (m : LineNo) : (s.at t).st m = s.st m := rfl
@[simp] theorem at_group (t : Moment) (m : LineNo) : (s.at t).group m = s.group m := rfl
@[simp] theorem count_st (c : CounterId) (m : LineNo) : (s.count c).st m = s.st m := rfl
@[simp] theorem count_group (c : CounterId) (m : LineNo) : (s.count c).group m = s.group m := rfl
@[simp] theorem setReq_st (i : ReqId) (r : Req) (m : LineNo) : (s.setReq i r).st m = s.st m := rfl
@[simp] theorem setReq_group (i : ReqId) (r : Req) (m : LineNo) : (s.setReq i r).group m = s.group m := rfl
@[simp] theorem dropReq_st (i : ReqId) (m : LineNo) : (s.dropReq i).st m = s.st m := rfl
@[simp] theorem dropReq_group (i : ReqId) (m : LineNo) : (s.dropReq i).group m = s.group m := rfl
@[simp] theorem raise_st (i : ReqId) (m : LineNo) : (s.raise i).st m = s.st m := by unfold State.raise; split <;> rfl
@[simp] theorem raise_group (i : ReqId) (m : LineNo) : (s.raise i).group m = s.group m := by unfold State.raise; split <;> rfl
@[simp] theorem setSup_st (n : LineNo) (x : LineRec) : (s.setSup n x).st n = x.st := by
  simp [State.st, State.setSup]
@[simp] theorem updSup_st (n : LineNo) (f : LineRec → LineRec) : (s.updSup n f).st n = (f s.sup[n]).st := by
  simp [State.st, State.updSup, State.setSup]

/-! ## One update after another -/

@[simp] theorem setSup_setSup (n : LineNo) (x y : LineRec) : (s.setSup n x).setSup n y = s.setSup n y := by
  simp [State.setSup, Vector.set_set]
@[simp] theorem setAsks_setAsks (n : LineNo) (x y : Asks) : (s.setAsks n x).setAsks n y = s.setAsks n y := by
  simp [State.setAsks, Vector.set_set]
@[simp] theorem setPath_setPath (n : LineNo) (x y : Path) : (s.setPath n x).setPath n y = s.setPath n y := by
  simp [State.setPath, Vector.set_set]
@[simp] theorem setSign_setSign (n : LineNo) (x y : Option Context) : (s.setSign n x).setSign n y = s.setSign n y := by
  simp [State.setSign, Vector.set_set]
@[simp] theorem setSess_setSess (n : LineNo) (x y : Option Session) : (s.setSess n x).setSess n y = s.setSess n y := by
  simp [State.setSess, Vector.set_set]
@[simp] theorem setClaims_setClaims (n : LineNo) (x y : Claims) : (s.setClaims n x).setClaims n y = s.setClaims n y := by
  simp [State.setClaims, Vector.set_set]
@[simp] theorem setRun_setRun (n : LineNo) (x y : Run) : (s.setRun n x).setRun n y = s.setRun n y := by
  simp [State.setRun, Vector.set_set]
@[simp] theorem setResult_setResult (n : LineNo) (x y : Option RunResult) : (s.setResult n x).setResult n y = s.setResult n y := by
  simp [State.setResult, Vector.set_set]

end Sys2Proof.Machine
end

