-- ==== Sys2Proof/Laws/Moves.lean ====
section
/-! SUPPORT. What the shared moves of a line change and what they leave alone: entry to HANGUP, a RELEASE raised, a charge record appended, the
end of a session, entry to REFUSING and to CLAIMING, and the end of a run. -/

namespace Sys2Proof.Machine

variable (s : State)

/-! ## hangup -/

@[simp] theorem hangup_now (n : LineNo) : (s.hangup n).now = s.now := rfl
@[simp] theorem hangup_loader (n : LineNo) : (s.hangup n).loader = s.loader := rfl
@[simp] theorem hangup_restartPin (n : LineNo) : (s.hangup n).restartPin = s.restartPin := rfl
@[simp] theorem hangup_station (n : LineNo) : (s.hangup n).station = s.station := rfl
@[simp] theorem hangup_cfg (n : LineNo) : (s.hangup n).cfg = s.cfg := rfl
@[simp] theorem hangup_configClamped (n : LineNo) : (s.hangup n).configClamped = s.configClamped := rfl
@[simp] theorem hangup_sign (n : LineNo) : (s.hangup n).sign = s.sign := rfl
@[simp] theorem hangup_sess (n : LineNo) : (s.hangup n).sess = s.sess := rfl
@[simp] theorem hangup_claims (n : LineNo) : (s.hangup n).claims = s.claims := rfl
@[simp] theorem hangup_run (n : LineNo) : (s.hangup n).run = s.run := rfl
@[simp] theorem hangup_result (n : LineNo) : (s.hangup n).result = s.result := rfl
@[simp] theorem hangup_requestSerial (n : LineNo) : (s.hangup n).requestSerial = s.requestSerial := rfl
@[simp] theorem hangup_sessionSerial (n : LineNo) : (s.hangup n).sessionSerial = s.sessionSerial := rfl
@[simp] theorem hangup_recordSerial (n : LineNo) : (s.hangup n).recordSerial = s.recordSerial := rfl
@[simp] theorem hangup_presence (n : LineNo) : (s.hangup n).presence = s.presence := rfl
@[simp] theorem hangup_roster (n : LineNo) : (s.hangup n).roster = s.roster := rfl
@[simp] theorem hangup_refreshTimer (n : LineNo) : (s.hangup n).refreshTimer = s.refreshTimer := rfl
@[simp] theorem hangup_beaconTimer (n : LineNo) : (s.hangup n).beaconTimer = s.beaconTimer := rfl
@[simp] theorem hangup_timebase (n : LineNo) : (s.hangup n).timebase = s.timebase := rfl
@[simp] theorem hangup_clock (n : LineNo) : (s.hangup n).clock = s.clock := rfl
@[simp] theorem hangup_queue (n : LineNo) : (s.hangup n).queue = s.queue := rfl
@[simp] theorem hangup_slots (n : LineNo) : (s.hangup n).slots = s.slots := rfl
@[simp] theorem hangup_drain (n : LineNo) : (s.hangup n).drain = s.drain := rfl
@[simp] theorem hangup_clashTimer (n : LineNo) : (s.hangup n).clashTimer = s.clashTimer := rfl
@[simp] theorem hangup_bus (n : LineNo) : (s.hangup n).bus = s.bus := rfl
@[simp] theorem hangup_freshAnnounced (n : LineNo) : (s.hangup n).freshAnnounced = s.freshAnnounced := rfl
@[simp] theorem hangup_quietTimer (n : LineNo) : (s.hangup n).quietTimer = s.quietTimer := rfl
@[simp] theorem hangup_streak (n : LineNo) : (s.hangup n).streak = s.streak := rfl
@[simp] theorem hangup_wire (n : LineNo) : (s.hangup n).wire = s.wire := rfl
@[simp] theorem hangup_rotation (n : LineNo) : (s.hangup n).rotation = s.rotation := rfl
@[simp] theorem hangup_orderSlots (n : LineNo) : (s.hangup n).orderSlots = s.orderSlots := rfl
@[simp] theorem hangup_echo (n : LineNo) : (s.hangup n).echo = s.echo := rfl
@[simp] theorem hangup_pending (n : LineNo) : (s.hangup n).pending = s.pending := rfl

@[simp] theorem hangup_reqs (n : LineNo) : (s.hangup n).reqs = s.reqs := rfl
@[simp] theorem hangup_counters (n : LineNo) : (s.hangup n).counters = s.counters := rfl
@[simp] theorem hangup_st (n : LineNo) : (s.hangup n).st n = .hangup := by
  simp [State.hangup, State.clearPath, State.updSup, State.st, LineRec.enterHangup, LineRec.fresh]
@[simp] theorem hangup_path_self (n : LineNo) : (s.hangup n).path[n] = Path.fresh := by
  simp [State.hangup, State.clearPath, State.updSup]
theorem hangup_sup_ne {n m : LineNo} (h : m ≠ n) : (s.hangup n).sup[m] = s.sup[m] := by
  simp only [State.hangup, State.clearPath, State.updSup]
  exact vector_set_get_ne _ _ (Ne.symm h)

/-! ## raiseRelease -/

@[simp] theorem raiseRelease_now (n : LineNo) (r : ReleaseSlot) : (s.raiseRelease n r).now = s.now := by unfold State.raiseRelease; simp
@[simp] theorem raiseRelease_loader (n : LineNo) (r : ReleaseSlot) : (s.raiseRelease n r).loader = s.loader := by unfold State.raiseRelease; simp
@[simp] theorem raiseRelease_restartPin (n : LineNo) (r : ReleaseSlot) : (s.raiseRelease n r).restartPin = s.restartPin := by unfold State.raiseRelease; simp
@[simp] theorem raiseRelease_station (n : LineNo) (r : ReleaseSlot) : (s.raiseRelease n r).station = s.station := by unfold State.raiseRelease; simp
@[simp] theorem raiseRelease_cfg (n : LineNo) (r : ReleaseSlot) : (s.raiseRelease n r).cfg = s.cfg := by unfold State.raiseRelease; simp
@[simp] theorem raiseRelease_configClamped (n : LineNo) (r : ReleaseSlot) : (s.raiseRelease n r).configClamped = s.configClamped := by unfold State.raiseRelease; simp
@[simp] theorem raiseRelease_sup (n : LineNo) (r : ReleaseSlot) : (s.raiseRelease n r).sup = s.sup := by unfold State.raiseRelease; simp
@[simp] theorem raiseRelease_asks (n : LineNo) (r : ReleaseSlot) : (s.raiseRelease n r).asks = s.asks := by unfold State.raiseRelease; simp
@[simp] theorem raiseRelease_path (n : LineNo) (r : ReleaseSlot) : (s.raiseRelease n r).path = s.path := by unfold State.raiseRelease; simp
@[simp] theorem raiseRelease_free (n : LineNo) (r : ReleaseSlot) : (s.raiseRelease n r).free = s.free := by unfold State.raiseRelease; simp
@[simp] theorem raiseRelease_sign (n : LineNo) (r : ReleaseSlot) : (s.raiseRelease n r).sign = s.sign := by unfold State.raiseRelease; simp
@[simp] theorem raiseRelease_sess (n : LineNo) (r : ReleaseSlot) : (s.raiseRelease n r).sess = s.sess := by unfold State.raiseRelease; simp
@[simp] theorem raiseRelease_run (n : LineNo) (r : ReleaseSlot) : (s.raiseRelease n r).run = s.run := by unfold State.raiseRelease; simp
@[simp] theorem raiseRelease_result (n : LineNo) (r : ReleaseSlot) : (s.raiseRelease n r).result = s.result := by unfold State.raiseRelease; simp
@[simp] theorem raiseRelease_requestSerial (n : LineNo) (r : ReleaseSlot) : (s.raiseRelease n r).requestSerial = s.requestSerial := by unfold State.raiseRelease; simp
@[simp] theorem raiseRelease_sessionSerial (n : LineNo) (r : ReleaseSlot) : (s.raiseRelease n r).sessionSerial = s.sessionSerial := by unfold State.raiseRelease; simp
@[simp] theorem raiseRelease_recordSerial (n : LineNo) (r : ReleaseSlot) : (s.raiseRelease n r).recordSerial = s.recordSerial := by unfold State.raiseRelease; simp
@[simp] theorem raiseRelease_presence (n : LineNo) (r : ReleaseSlot) : (s.raiseRelease n r).presence = s.presence := by unfold State.raiseRelease; simp
@[simp] theorem raiseRelease_roster (n : LineNo) (r : ReleaseSlot) : (s.raiseRelease n r).roster = s.roster := by unfold State.raiseRelease; simp
@[simp] theorem raiseRelease_refreshTimer (n : LineNo) (r : ReleaseSlot) : (s.raiseRelease n r).refreshTimer = s.refreshTimer := by unfold State.raiseRelease; simp
@[simp] theorem raiseRelease_beaconTimer (n : LineNo) (r : ReleaseSlot) : (s.raiseRelease n r).beaconTimer = s.beaconTimer := by unfold State.raiseRelease; simp
@[simp] theorem raiseRelease_timebase (n : LineNo) (r : ReleaseSlot) : (s.raiseRelease n r).timebase = s.timebase := by unfold State.raiseRelease; simp
@[simp] theorem raiseRelease_clock (n : LineNo) (r : ReleaseSlot) : (s.raiseRelease n r).clock = s.clock := by unfold State.raiseRelease; simp
@[simp] theorem raiseRelease_queue (n : LineNo) (r : ReleaseSlot) : (s.raiseRelease n r).queue = s.queue := by unfold State.raiseRelease; simp
@[simp] theorem raiseRelease_slots (n : LineNo) (r : ReleaseSlot) : (s.raiseRelease n r).slots = s.slots := by unfold State.raiseRelease; simp
@[simp] theorem raiseRelease_drain (n : LineNo) (r : ReleaseSlot) : (s.raiseRelease n r).drain = s.drain := by unfold State.raiseRelease; simp
@[simp] theorem raiseRelease_clashTimer (n : LineNo) (r : ReleaseSlot) : (s.raiseRelease n r).clashTimer = s.clashTimer := by unfold State.raiseRelease; simp
@[simp] theorem raiseRelease_bus (n : LineNo) (r : ReleaseSlot) : (s.raiseRelease n r).bus = s.bus := by unfold State.raiseRelease; simp
@[simp] theorem raiseRelease_freshAnnounced (n : LineNo) (r : ReleaseSlot) : (s.raiseRelease n r).freshAnnounced = s.freshAnnounced := by unfold State.raiseRelease; simp
@[simp] theorem raiseRelease_quietTimer (n : LineNo) (r : ReleaseSlot) : (s.raiseRelease n r).quietTimer = s.quietTimer := by unfold State.raiseRelease; simp
@[simp] theorem raiseRelease_streak (n : LineNo) (r : ReleaseSlot) : (s.raiseRelease n r).streak = s.streak := by unfold State.raiseRelease; simp
@[simp] theorem raiseRelease_wire (n : LineNo) (r : ReleaseSlot) : (s.raiseRelease n r).wire = s.wire := by unfold State.raiseRelease; simp
@[simp] theorem raiseRelease_rotation (n : LineNo) (r : ReleaseSlot) : (s.raiseRelease n r).rotation = s.rotation := by unfold State.raiseRelease; simp
@[simp] theorem raiseRelease_orderSlots (n : LineNo) (r : ReleaseSlot) : (s.raiseRelease n r).orderSlots = s.orderSlots := by unfold State.raiseRelease; simp
@[simp] theorem raiseRelease_echo (n : LineNo) (r : ReleaseSlot) : (s.raiseRelease n r).echo = s.echo := by unfold State.raiseRelease; simp
@[simp] theorem raiseRelease_pending (n : LineNo) (r : ReleaseSlot) : (s.raiseRelease n r).pending = s.pending := by unfold State.raiseRelease; simp

@[simp] theorem raiseRelease_claims (n : LineNo) (r : ReleaseSlot) :
    (s.raiseRelease n r).claims = s.claims.set n { s.claims[n] with release := some r } := by unfold State.raiseRelease; simp
@[simp] theorem raiseRelease_pending_req (n : LineNo) (r : ReleaseSlot) : ((s.raiseRelease n r).req (.release n)).pending = true :=
  raised_pending _ _
theorem raiseRelease_kept (n : LineNo) (r : ReleaseSlot) :
    (s.raiseRelease n r).kept = (s.setClaims n { s.claims[n] with release := some r }).kept := kept_raise _ _

/-! ## appendCharge -/

@[simp] theorem appendCharge_now (n : LineNo) (x : Session) (r : CloseReason) : (s.appendCharge n x r).now = s.now := rfl
@[simp] theorem appendCharge_loader (n : LineNo) (x : Session) (r : CloseReason) : (s.appendCharge n x r).loader = s.loader := rfl
@[simp] theorem appendCharge_restartPin (n : LineNo) (x : Session) (r : CloseReason) : (s.appendCharge n x r).restartPin = s.restartPin := rfl
@[simp] theorem appendCharge_station (n : LineNo) (x : Session) (r : CloseReason) : (s.appendCharge n x r).station = s.station := rfl
@[simp] theorem appendCharge_cfg (n : LineNo) (x : Session) (r : CloseReason) : (s.appendCharge n x r).cfg = s.cfg := rfl
@[simp] theorem appendCharge_configClamped (n : LineNo) (x : Session) (r : CloseReason) : (s.appendCharge n x r).configClamped = s.configClamped := rfl
@[simp] theorem appendCharge_sup (n : LineNo) (x : Session) (r : CloseReason) : (s.appendCharge n x r).sup = s.sup := rfl
@[simp] theorem appendCharge_asks (n : LineNo) (x : Session) (r : CloseReason) : (s.appendCharge n x r).asks = s.asks := rfl
@[simp] theorem appendCharge_path (n : LineNo) (x : Session) (r : CloseReason) : (s.appendCharge n x r).path = s.path := rfl
@[simp] theorem appendCharge_free (n : LineNo) (x : Session) (r : CloseReason) : (s.appendCharge n x r).free = s.free := rfl
@[simp] theorem appendCharge_sign (n : LineNo) (x : Session) (r : CloseReason) : (s.appendCharge n x r).sign = s.sign := rfl
@[simp] theorem appendCharge_sess (n : LineNo) (x : Session) (r : CloseReason) : (s.appendCharge n x r).sess = s.sess := rfl
@[simp] theorem appendCharge_claims (n : LineNo) (x : Session) (r : CloseReason) : (s.appendCharge n x r).claims = s.claims := rfl
@[simp] theorem appendCharge_run (n : LineNo) (x : Session) (r : CloseReason) : (s.appendCharge n x r).run = s.run := rfl
@[simp] theorem appendCharge_result (n : LineNo) (x : Session) (r : CloseReason) : (s.appendCharge n x r).result = s.result := rfl
@[simp] theorem appendCharge_requestSerial (n : LineNo) (x : Session) (r : CloseReason) : (s.appendCharge n x r).requestSerial = s.requestSerial := rfl
@[simp] theorem appendCharge_sessionSerial (n : LineNo) (x : Session) (r : CloseReason) : (s.appendCharge n x r).sessionSerial = s.sessionSerial := rfl
@[simp] theorem appendCharge_presence (n : LineNo) (x : Session) (r : CloseReason) : (s.appendCharge n x r).presence = s.presence := rfl
@[simp] theorem appendCharge_roster (n : LineNo) (x : Session) (r : CloseReason) : (s.appendCharge n x r).roster = s.roster := rfl
@[simp] theorem appendCharge_refreshTimer (n : LineNo) (x : Session) (r : CloseReason) : (s.appendCharge n x r).refreshTimer = s.refreshTimer := rfl
@[simp] theorem appendCharge_beaconTimer (n : LineNo) (x : Session) (r : CloseReason) : (s.appendCharge n x r).beaconTimer = s.beaconTimer := rfl
@[simp] theorem appendCharge_timebase (n : LineNo) (x : Session) (r : CloseReason) : (s.appendCharge n x r).timebase = s.timebase := rfl
@[simp] theorem appendCharge_clock (n : LineNo) (x : Session) (r : CloseReason) : (s.appendCharge n x r).clock = s.clock := rfl
@[simp] theorem appendCharge_slots (n : LineNo) (x : Session) (r : CloseReason) : (s.appendCharge n x r).slots = s.slots := rfl
@[simp] theorem appendCharge_drain (n : LineNo) (x : Session) (r : CloseReason) : (s.appendCharge n x r).drain = s.drain := rfl
@[simp] theorem appendCharge_clashTimer (n : LineNo) (x : Session) (r : CloseReason) : (s.appendCharge n x r).clashTimer = s.clashTimer := rfl
@[simp] theorem appendCharge_bus (n : LineNo) (x : Session) (r : CloseReason) : (s.appendCharge n x r).bus = s.bus := rfl
@[simp] theorem appendCharge_freshAnnounced (n : LineNo) (x : Session) (r : CloseReason) : (s.appendCharge n x r).freshAnnounced = s.freshAnnounced := rfl
@[simp] theorem appendCharge_quietTimer (n : LineNo) (x : Session) (r : CloseReason) : (s.appendCharge n x r).quietTimer = s.quietTimer := rfl
@[simp] theorem appendCharge_streak (n : LineNo) (x : Session) (r : CloseReason) : (s.appendCharge n x r).streak = s.streak := rfl
@[simp] theorem appendCharge_wire (n : LineNo) (x : Session) (r : CloseReason) : (s.appendCharge n x r).wire = s.wire := rfl
@[simp] theorem appendCharge_rotation (n : LineNo) (x : Session) (r : CloseReason) : (s.appendCharge n x r).rotation = s.rotation := rfl
@[simp] theorem appendCharge_orderSlots (n : LineNo) (x : Session) (r : CloseReason) : (s.appendCharge n x r).orderSlots = s.orderSlots := rfl
@[simp] theorem appendCharge_echo (n : LineNo) (x : Session) (r : CloseReason) : (s.appendCharge n x r).echo = s.echo := rfl
@[simp] theorem appendCharge_pending (n : LineNo) (x : Session) (r : CloseReason) : (s.appendCharge n x r).pending = s.pending := rfl

/-- A charge record joins the back of the queue (R116). -/
theorem appendCharge_queue (n : LineNo) (x : Session) (r : CloseReason) :
    (s.appendCharge n x r).queue = s.queue ++ [⟨chargeOf (freeSerial s.queue 33 s.recordSerial) n x r, false, none⟩] := rfl
@[simp] theorem appendCharge_counters (n : LineNo) (x : Session) (r : CloseReason) : (s.appendCharge n x r).counters = s.counters := rfl

/-! ## endSession -/

@[simp] theorem endSession_now (n : LineNo) (x : Session) (r : CloseReason) : (State.endSession n x r s).now = s.now := by unfold State.endSession State.endPath; simp
@[simp] theorem endSession_loader (n : LineNo) (x : Session) (r : CloseReason) : (State.endSession n x r s).loader = s.loader := by unfold State.endSession State.endPath; simp
@[simp] theorem endSession_restartPin (n : LineNo) (x : Session) (r : CloseReason) : (State.endSession n x r s).restartPin = s.restartPin := by unfold State.endSession State.endPath; simp
@[simp] theorem endSession_station (n : LineNo) (x : Session) (r : CloseReason) : (State.endSession n x r s).station = s.station := by unfold State.endSession State.endPath; simp
@[simp] theorem endSession_cfg (n : LineNo) (x : Session) (r : CloseReason) : (State.endSession n x r s).cfg = s.cfg := by unfold State.endSession State.endPath; simp
@[simp] theorem endSession_configClamped (n : LineNo) (x : Session) (r : CloseReason) : (State.endSession n x r s).configClamped = s.configClamped := by unfold State.endSession State.endPath; simp
@[simp] theorem endSession_sup (n : LineNo) (x : Session) (r : CloseReason) : (State.endSession n x r s).sup = s.sup := by unfold State.endSession State.endPath; simp
@[simp] theorem endSession_asks (n : LineNo) (x : Session) (r : CloseReason) : (State.endSession n x r s).asks = s.asks := by unfold State.endSession State.endPath; simp
@[simp] theorem endSession_sign (n : LineNo) (x : Session) (r : CloseReason) : (State.endSession n x r s).sign = s.sign := by unfold State.endSession State.endPath; simp
@[simp] theorem endSession_run (n : LineNo) (x : Session) (r : CloseReason) : (State.endSession n x r s).run = s.run := by unfold State.endSession State.endPath; simp
@[simp] theorem endSession_result (n : LineNo) (x : Session) (r : CloseReason) : (State.endSession n x r s).result = s.result := by unfold State.endSession State.endPath; simp
@[simp] theorem endSession_requestSerial (n : LineNo) (x : Session) (r : CloseReason) : (State.endSession n x r s).requestSerial = s.requestSerial := by unfold State.endSession State.endPath; simp
@[simp] theorem endSession_sessionSerial (n : LineNo) (x : Session) (r : CloseReason) : (State.endSession n x r s).sessionSerial = s.sessionSerial := by unfold State.endSession State.endPath; simp
@[simp] theorem endSession_presence (n : LineNo) (x : Session) (r : CloseReason) : (State.endSession n x r s).presence = s.presence := by unfold State.endSession State.endPath; simp
@[simp] theorem endSession_roster (n : LineNo) (x : Session) (r : CloseReason) : (State.endSession n x r s).roster = s.roster := by unfold State.endSession State.endPath; simp
@[simp] theorem endSession_refreshTimer (n : LineNo) (x : Session) (r : CloseReason) : (State.endSession n x r s).refreshTimer = s.refreshTimer := by unfold State.endSession State.endPath; simp
@[simp] theorem endSession_beaconTimer (n : LineNo) (x : Session) (r : CloseReason) : (State.endSession n x r s).beaconTimer = s.beaconTimer := by unfold State.endSession State.endPath; simp
@[simp] theorem endSession_timebase (n : LineNo) (x : Session) (r : CloseReason) : (State.endSession n x r s).timebase = s.timebase := by unfold State.endSession State.endPath; simp
@[simp] theorem endSession_clock (n : LineNo) (x : Session) (r : CloseReason) : (State.endSession n x r s).clock = s.clock := by unfold State.endSession State.endPath; simp
@[simp] theorem endSession_slots (n : LineNo) (x : Session) (r : CloseReason) : (State.endSession n x r s).slots = s.slots := by unfold State.endSession State.endPath; simp
@[simp] theorem endSession_drain (n : LineNo) (x : Session) (r : CloseReason) : (State.endSession n x r s).drain = s.drain := by unfold State.endSession State.endPath; simp
@[simp] theorem endSession_clashTimer (n : LineNo) (x : Session) (r : CloseReason) : (State.endSession n x r s).clashTimer = s.clashTimer := by unfold State.endSession State.endPath; simp
@[simp] theorem endSession_bus (n : LineNo) (x : Session) (r : CloseReason) : (State.endSession n x r s).bus = s.bus := by unfold State.endSession State.endPath; simp
@[simp] theorem endSession_freshAnnounced (n : LineNo) (x : Session) (r : CloseReason) : (State.endSession n x r s).freshAnnounced = s.freshAnnounced := by unfold State.endSession State.endPath; simp
@[simp] theorem endSession_quietTimer (n : LineNo) (x : Session) (r : CloseReason) : (State.endSession n x r s).quietTimer = s.quietTimer := by unfold State.endSession State.endPath; simp
@[simp] theorem endSession_streak (n : LineNo) (x : Session) (r : CloseReason) : (State.endSession n x r s).streak = s.streak := by unfold State.endSession State.endPath; simp
@[simp] theorem endSession_wire (n : LineNo) (x : Session) (r : CloseReason) : (State.endSession n x r s).wire = s.wire := by unfold State.endSession State.endPath; simp
@[simp] theorem endSession_rotation (n : LineNo) (x : Session) (r : CloseReason) : (State.endSession n x r s).rotation = s.rotation := by unfold State.endSession State.endPath; simp
@[simp] theorem endSession_orderSlots (n : LineNo) (x : Session) (r : CloseReason) : (State.endSession n x r s).orderSlots = s.orderSlots := by unfold State.endSession State.endPath; simp
@[simp] theorem endSession_echo (n : LineNo) (x : Session) (r : CloseReason) : (State.endSession n x r s).echo = s.echo := by unfold State.endSession State.endPath; simp
@[simp] theorem endSession_pending (n : LineNo) (x : Session) (r : CloseReason) : (State.endSession n x r s).pending = s.pending := by unfold State.endSession State.endPath; simp

@[simp] theorem endSession_sess (n : LineNo) (x : Session) (r : CloseReason) :
    (State.endSession n x r s).sess = s.sess.set n none := by unfold State.endSession State.endPath; simp
/-- What the end of a session leaves in the line's claims: the RELEASE waits in its slot, and the survey-owed mark is clear (R72, R80, R81). -/
@[simp] theorem endSession_claims (n : LineNo) (x : Session) (r : CloseReason) :
    (State.endSession n x r s).claims =
      s.claims.set n { s.claims[n] with release := some ⟨x.user, x.serial, .closed r⟩, surveyOwed := false } := by
  unfold State.endSession State.endPath; simp [Vector.set_set]
@[simp] theorem endSession_queue (n : LineNo) (x : Session) (r : CloseReason) :
    (State.endSession n x r s).queue = (s.appendCharge n (x.finish s.cfg) r).queue := by
  unfold State.endSession State.endPath; simp
@[simp] theorem endSession_pending_req (n : LineNo) (x : Session) (r : CloseReason) :
    ((State.endSession n x r s).req (.release n)).pending = true := by
  have h := raiseRelease_pending_req (s.appendCharge n (x.finish s.cfg) r) n ⟨x.user, x.serial, .closed r⟩
  simpa only [State.endSession, State.endPath, State.req, setClaims_reqs, setSess_reqs, setIn_reqs, updPath_reqs] using h
theorem endSession_inQ (n : LineNo) (x : Session) (r : CloseReason) :
    (State.endSession n x r s).path[n].inQ = Queue.empty := by
  unfold State.endSession State.endPath; simp [-Fin.getElem_fin]

/-! ## enterRefusing -/

@[simp] theorem enterRefusing_now (n : LineNo) (t : Text) : (s.enterRefusing n t).now = s.now := by
  unfold State.enterRefusing; repeat' split
  all_goals simp
@[simp] theorem enterRefusing_loader (n : LineNo) (t : Text) : (s.enterRefusing n t).loader = s.loader := by
  unfold State.enterRefusing; repeat' split
  all_goals simp
@[simp] theorem enterRefusing_restartPin (n : LineNo) (t : Text) : (s.enterRefusing n t).restartPin = s.restartPin := by
  unfold State.enterRefusing; repeat' split
  all_goals simp
@[simp] theorem enterRefusing_station (n : LineNo) (t : Text) : (s.enterRefusing n t).station = s.station := by
  unfold State.enterRefusing; repeat' split
  all_goals simp
@[simp] theorem enterRefusing_cfg (n : LineNo) (t : Text) : (s.enterRefusing n t).cfg = s.cfg := by
  unfold State.enterRefusing; repeat' split
  all_goals simp
@[simp] theorem enterRefusing_configClamped (n : LineNo) (t : Text) : (s.enterRefusing n t).configClamped = s.configClamped := by
  unfold State.enterRefusing; repeat' split
  all_goals simp
@[simp] theorem enterRefusing_sup (n : LineNo) (t : Text) : (s.enterRefusing n t).sup = s.sup := by
  unfold State.enterRefusing; repeat' split
  all_goals simp
@[simp] theorem enterRefusing_path (n : LineNo) (t : Text) : (s.enterRefusing n t).path = s.path := by
  unfold State.enterRefusing; repeat' split
  all_goals simp
@[simp] theorem enterRefusing_free (n : LineNo) (t : Text) : (s.enterRefusing n t).free = s.free := by
  unfold State.enterRefusing; repeat' split
  all_goals simp
@[simp] theorem enterRefusing_sess (n : LineNo) (t : Text) : (s.enterRefusing n t).sess = s.sess := by
  unfold State.enterRefusing; repeat' split
  all_goals simp
@[simp] theorem enterRefusing_run (n : LineNo) (t : Text) : (s.enterRefusing n t).run = s.run := by
  unfold State.enterRefusing; repeat' split
  all_goals simp
@[simp] theorem enterRefusing_result (n : LineNo) (t : Text) : (s.enterRefusing n t).result = s.result := by
  unfold State.enterRefusing; repeat' split
  all_goals simp
@[simp] theorem enterRefusing_requestSerial (n : LineNo) (t : Text) : (s.enterRefusing n t).requestSerial = s.requestSerial := by
  unfold State.enterRefusing; repeat' split
  all_goals simp
@[simp] theorem enterRefusing_sessionSerial (n : LineNo) (t : Text) : (s.enterRefusing n t).sessionSerial = s.sessionSerial := by
  unfold State.enterRefusing; repeat' split
  all_goals simp
@[simp] theorem enterRefusing_recordSerial (n : LineNo) (t : Text) : (s.enterRefusing n t).recordSerial = s.recordSerial := by
  unfold State.enterRefusing; repeat' split
  all_goals simp
@[simp] theorem enterRefusing_presence (n : LineNo) (t : Text) : (s.enterRefusing n t).presence = s.presence := by
  unfold State.enterRefusing; repeat' split
  all_goals simp
@[simp] theorem enterRefusing_roster (n : LineNo) (t : Text) : (s.enterRefusing n t).roster = s.roster := by
  unfold State.enterRefusing; repeat' split
  all_goals simp
@[simp] theorem enterRefusing_refreshTimer (n : LineNo) (t : Text) : (s.enterRefusing n t).refreshTimer = s.refreshTimer := by
  unfold State.enterRefusing; repeat' split
  all_goals simp
@[simp] theorem enterRefusing_beaconTimer (n : LineNo) (t : Text) : (s.enterRefusing n t).beaconTimer = s.beaconTimer := by
  unfold State.enterRefusing; repeat' split
  all_goals simp
@[simp] theorem enterRefusing_timebase (n : LineNo) (t : Text) : (s.enterRefusing n t).timebase = s.timebase := by
  unfold State.enterRefusing; repeat' split
  all_goals simp
@[simp] theorem enterRefusing_clock (n : LineNo) (t : Text) : (s.enterRefusing n t).clock = s.clock := by
  unfold State.enterRefusing; repeat' split
  all_goals simp
@[simp] theorem enterRefusing_queue (n : LineNo) (t : Text) : (s.enterRefusing n t).queue = s.queue := by
  unfold State.enterRefusing; repeat' split
  all_goals simp
@[simp] theorem enterRefusing_slots (n : LineNo) (t : Text) : (s.enterRefusing n t).slots = s.slots := by
  unfold State.enterRefusing; repeat' split
  all_goals simp
@[simp] theorem enterRefusing_drain (n : LineNo) (t : Text) : (s.enterRefusing n t).drain = s.drain := by
  unfold State.enterRefusing; repeat' split
  all_goals simp
@[simp] theorem enterRefusing_clashTimer (n : LineNo) (t : Text) : (s.enterRefusing n t).clashTimer = s.clashTimer := by
  unfold State.enterRefusing; repeat' split
  all_goals simp
@[simp] theorem enterRefusing_bus (n : LineNo) (t : Text) : (s.enterRefusing n t).bus = s.bus := by
  unfold State.enterRefusing; repeat' split
  all_goals simp
@[simp] theorem enterRefusing_freshAnnounced (n : LineNo) (t : Text) : (s.enterRefusing n t).freshAnnounced = s.freshAnnounced := by
  unfold State.enterRefusing; repeat' split
  all_goals simp
@[simp] theorem enterRefusing_quietTimer (n : LineNo) (t : Text) : (s.enterRefusing n t).quietTimer = s.quietTimer := by
  unfold State.enterRefusing; repeat' split
  all_goals simp
@[simp] theorem enterRefusing_streak (n : LineNo) (t : Text) : (s.enterRefusing n t).streak = s.streak := by
  unfold State.enterRefusing; repeat' split
  all_goals simp
@[simp] theorem enterRefusing_wire (n : LineNo) (t : Text) : (s.enterRefusing n t).wire = s.wire := by
  unfold State.enterRefusing; repeat' split
  all_goals simp
@[simp] theorem enterRefusing_rotation (n : LineNo) (t : Text) : (s.enterRefusing n t).rotation = s.rotation := by
  unfold State.enterRefusing; repeat' split
  all_goals simp
@[simp] theorem enterRefusing_orderSlots (n : LineNo) (t : Text) : (s.enterRefusing n t).orderSlots = s.orderSlots := by
  unfold State.enterRefusing; repeat' split
  all_goals simp
@[simp] theorem enterRefusing_echo (n : LineNo) (t : Text) : (s.enterRefusing n t).echo = s.echo := by
  unfold State.enterRefusing; repeat' split
  all_goals simp
@[simp] theorem enterRefusing_pending (n : LineNo) (t : Text) : (s.enterRefusing n t).pending = s.pending := by
  unfold State.enterRefusing; repeat' split
  all_goals simp

/-- Entry to REFUSING from another phase: the context's timers stop and the refuse request is made (R52). -/
theorem enterRefusing_sign (n : LineNo) (t : Text) (c : Context) (h : s.sign[n] = some c) (hp : c.phase ≠ .refusing) :
    (s.enterRefusing n t).sign = s.sign.set n (some { c with phase := .refusing, signOnTimer := none, replyWait := none }) := by
  unfold State.enterRefusing
  rw [h]; simp only [if_neg hp]
  split <;> simp
theorem enterRefusing_asks (n : LineNo) (t : Text) (c : Context) (h : s.sign[n] = some c) (hp : c.phase ≠ .refusing) :
    (s.enterRefusing n t).asks = s.asks.set n { s.asks[n] with refuse := some t } := by
  unfold State.enterRefusing
  rw [h]; simp only [if_neg hp]
  split <;> simp
theorem enterRefusing_claims (n : LineNo) (t : Text) (c : Context) (h : s.sign[n] = some c) (hp : c.phase ≠ .refusing) :
    (s.enterRefusing n t).claims =
      if c.claimRaised = true then
        s.claims.set n { s.claims[n] with release := some ⟨c.user, c.sessionSerial.getD 0, .withdrawn⟩ }
      else s.claims := by
  unfold State.enterRefusing
  rw [h]; simp only [if_neg hp]
  split <;> simp [Context.user]
theorem enterRefusing_pending_req (n : LineNo) (t : Text) (c : Context) (h : s.sign[n] = some c) (hp : c.phase ≠ .refusing)
    (hr : c.claimRaised = true) : ((s.enterRefusing n t).req (.release n)).pending = true := by
  unfold State.enterRefusing
  rw [h]; simp only [if_neg hp, if_pos hr]
  exact raised_pending _ _
/-- Beyond the Sign-On Controller, the request and the release slot, entry to REFUSING leaves everything but the coalesced counter. -/
theorem enterRefusing_counters (n : LineNo) (t : Text) : (s.enterRefusing n t).kept.counters = s.kept.counters := by
  unfold State.enterRefusing; repeat' split
  · rfl
  · rfl
  · show (State.raiseRelease _ _ _).kept.counters = _
    rw [raiseRelease_kept]; rfl
  · rfl

/-! ## enterClaiming -/

@[simp] theorem enterClaiming_now (n : LineNo) (c : Context) : (s.enterClaiming n c).now = s.now := by unfold State.enterClaiming; simp
@[simp] theorem enterClaiming_loader (n : LineNo) (c : Context) : (s.enterClaiming n c).loader = s.loader := by unfold State.enterClaiming; simp
@[simp] theorem enterClaiming_restartPin (n : LineNo) (c : Context) : (s.enterClaiming n c).restartPin = s.restartPin := by unfold State.enterClaiming; simp
@[simp] theorem enterClaiming_station (n : LineNo) (c : Context) : (s.enterClaiming n c).station = s.station := by unfold State.enterClaiming; simp
@[simp] theorem enterClaiming_cfg (n : LineNo) (c : Context) : (s.enterClaiming n c).cfg = s.cfg := by unfold State.enterClaiming; simp
@[simp] theorem enterClaiming_configClamped (n : LineNo) (c : Context) : (s.enterClaiming n c).configClamped = s.configClamped := by unfold State.enterClaiming; simp
@[simp] theorem enterClaiming_sup (n : LineNo) (c : Context) : (s.enterClaiming n c).sup = s.sup := by unfold State.enterClaiming; simp
@[simp] theorem enterClaiming_asks (n : LineNo) (c : Context) : (s.enterClaiming n c).asks = s.asks := by unfold State.enterClaiming; simp
@[simp] theorem enterClaiming_path (n : LineNo) (c : Context) : (s.enterClaiming n c).path = s.path := by unfold State.enterClaiming; simp
@[simp] theorem enterClaiming_free (n : LineNo) (c : Context) : (s.enterClaiming n c).free = s.free := by unfold State.enterClaiming; simp
@[simp] theorem enterClaiming_sess (n : LineNo) (c : Context) : (s.enterClaiming n c).sess = s.sess := by unfold State.enterClaiming; simp
@[simp] theorem enterClaiming_claims (n : LineNo) (c : Context) : (s.enterClaiming n c).claims = s.claims := by unfold State.enterClaiming; simp
@[simp] theorem enterClaiming_run (n : LineNo) (c : Context) : (s.enterClaiming n c).run = s.run := by unfold State.enterClaiming; simp
@[simp] theorem enterClaiming_result (n : LineNo) (c : Context) : (s.enterClaiming n c).result = s.result := by unfold State.enterClaiming; simp
@[simp] theorem enterClaiming_requestSerial (n : LineNo) (c : Context) : (s.enterClaiming n c).requestSerial = s.requestSerial := by unfold State.enterClaiming; simp
@[simp] theorem enterClaiming_recordSerial (n : LineNo) (c : Context) : (s.enterClaiming n c).recordSerial = s.recordSerial := by unfold State.enterClaiming; simp
@[simp] theorem enterClaiming_presence (n : LineNo) (c : Context) : (s.enterClaiming n c).presence = s.presence := by unfold State.enterClaiming; simp
@[simp] theorem enterClaiming_roster (n : LineNo) (c : Context) : (s.enterClaiming n c).roster = s.roster := by unfold State.enterClaiming; simp
@[simp] theorem enterClaiming_refreshTimer (n : LineNo) (c : Context) : (s.enterClaiming n c).refreshTimer = s.refreshTimer := by unfold State.enterClaiming; simp
@[simp] theorem enterClaiming_beaconTimer (n : LineNo) (c : Context) : (s.enterClaiming n c).beaconTimer = s.beaconTimer := by unfold State.enterClaiming; simp
@[simp] theorem enterClaiming_timebase (n : LineNo) (c : Context) : (s.enterClaiming n c).timebase = s.timebase := by unfold State.enterClaiming; simp
@[simp] theorem enterClaiming_clock (n : LineNo) (c : Context) : (s.enterClaiming n c).clock = s.clock := by unfold State.enterClaiming; simp
@[simp] theorem enterClaiming_queue (n : LineNo) (c : Context) : (s.enterClaiming n c).queue = s.queue := by unfold State.enterClaiming; simp
@[simp] theorem enterClaiming_slots (n : LineNo) (c : Context) : (s.enterClaiming n c).slots = s.slots := by unfold State.enterClaiming; simp
@[simp] theorem enterClaiming_drain (n : LineNo) (c : Context) : (s.enterClaiming n c).drain = s.drain := by unfold State.enterClaiming; simp
@[simp] theorem enterClaiming_clashTimer (n : LineNo) (c : Context) : (s.enterClaiming n c).clashTimer = s.clashTimer := by unfold State.enterClaiming; simp
@[simp] theorem enterClaiming_bus (n : LineNo) (c : Context) : (s.enterClaiming n c).bus = s.bus := by unfold State.enterClaiming; simp
@[simp] theorem enterClaiming_freshAnnounced (n : LineNo) (c : Context) : (s.enterClaiming n c).freshAnnounced = s.freshAnnounced := by unfold State.enterClaiming; simp
@[simp] theorem enterClaiming_quietTimer (n : LineNo) (c : Context) : (s.enterClaiming n c).quietTimer = s.quietTimer := by unfold State.enterClaiming; simp
@[simp] theorem enterClaiming_streak (n : LineNo) (c : Context) : (s.enterClaiming n c).streak = s.streak := by unfold State.enterClaiming; simp
@[simp] theorem enterClaiming_wire (n : LineNo) (c : Context) : (s.enterClaiming n c).wire = s.wire := by unfold State.enterClaiming; simp
@[simp] theorem enterClaiming_rotation (n : LineNo) (c : Context) : (s.enterClaiming n c).rotation = s.rotation := by unfold State.enterClaiming; simp
@[simp] theorem enterClaiming_orderSlots (n : LineNo) (c : Context) : (s.enterClaiming n c).orderSlots = s.orderSlots := by unfold State.enterClaiming; simp
@[simp] theorem enterClaiming_echo (n : LineNo) (c : Context) : (s.enterClaiming n c).echo = s.echo := by unfold State.enterClaiming; simp
@[simp] theorem enterClaiming_pending (n : LineNo) (c : Context) : (s.enterClaiming n c).pending = s.pending := by unfold State.enterClaiming; simp

@[simp] theorem enterClaiming_sessionSerial (n : LineNo) (c : Context) : (s.enterClaiming n c).sessionSerial = s.sessionSerial + 1 := by
  unfold State.enterClaiming; simp
@[simp] theorem enterClaiming_sign (n : LineNo) (c : Context) :
    (s.enterClaiming n c).sign = s.sign.set n (some { c with
      phase := .claiming, sessionSerial := some s.sessionSerial, claimRaised := true, replyWait := none }) := by
  unfold State.enterClaiming; simp
@[simp] theorem enterClaiming_pending_req (n : LineNo) (c : Context) : ((s.enterClaiming n c).req (.claim n)).pending = true :=
  raised_pending _ _

/-! ## endRun -/

@[simp] theorem endRun_now (n : LineNo) (v : ProvingVerdict) : (State.endRun s n v).now = s.now := by unfold State.endRun State.fillResult; simp
@[simp] theorem endRun_loader (n : LineNo) (v : ProvingVerdict) : (State.endRun s n v).loader = s.loader := by unfold State.endRun State.fillResult; simp
@[simp] theorem endRun_restartPin (n : LineNo) (v : ProvingVerdict) : (State.endRun s n v).restartPin = s.restartPin := by unfold State.endRun State.fillResult; simp
@[simp] theorem endRun_station (n : LineNo) (v : ProvingVerdict) : (State.endRun s n v).station = s.station := by unfold State.endRun State.fillResult; simp
@[simp] theorem endRun_cfg (n : LineNo) (v : ProvingVerdict) : (State.endRun s n v).cfg = s.cfg := by unfold State.endRun State.fillResult; simp
@[simp] theorem endRun_configClamped (n : LineNo) (v : ProvingVerdict) : (State.endRun s n v).configClamped = s.configClamped := by unfold State.endRun State.fillResult; simp
@[simp] theorem endRun_sup (n : LineNo) (v : ProvingVerdict) : (State.endRun s n v).sup = s.sup := by unfold State.endRun State.fillResult; simp
@[simp] theorem endRun_asks (n : LineNo) (v : ProvingVerdict) : (State.endRun s n v).asks = s.asks := by unfold State.endRun State.fillResult; simp
@[simp] theorem endRun_free (n : LineNo) (v : ProvingVerdict) : (State.endRun s n v).free = s.free := by unfold State.endRun State.fillResult; simp
@[simp] theorem endRun_sign (n : LineNo) (v : ProvingVerdict) : (State.endRun s n v).sign = s.sign := by unfold State.endRun State.fillResult; simp
@[simp] theorem endRun_sess (n : LineNo) (v : ProvingVerdict) : (State.endRun s n v).sess = s.sess := by unfold State.endRun State.fillResult; simp
@[simp] theorem endRun_claims (n : LineNo) (v : ProvingVerdict) : (State.endRun s n v).claims = s.claims := by unfold State.endRun State.fillResult; simp
@[simp] theorem endRun_requestSerial (n : LineNo) (v : ProvingVerdict) : (State.endRun s n v).requestSerial = s.requestSerial := by unfold State.endRun State.fillResult; simp
@[simp] theorem endRun_sessionSerial (n : LineNo) (v : ProvingVerdict) : (State.endRun s n v).sessionSerial = s.sessionSerial := by unfold State.endRun State.fillResult; simp
@[simp] theorem endRun_recordSerial (n : LineNo) (v : ProvingVerdict) : (State.endRun s n v).recordSerial = s.recordSerial := by unfold State.endRun State.fillResult; simp
@[simp] theorem endRun_presence (n : LineNo) (v : ProvingVerdict) : (State.endRun s n v).presence = s.presence := by unfold State.endRun State.fillResult; simp
@[simp] theorem endRun_roster (n : LineNo) (v : ProvingVerdict) : (State.endRun s n v).roster = s.roster := by unfold State.endRun State.fillResult; simp
@[simp] theorem endRun_refreshTimer (n : LineNo) (v : ProvingVerdict) : (State.endRun s n v).refreshTimer = s.refreshTimer := by unfold State.endRun State.fillResult; simp
@[simp] theorem endRun_beaconTimer (n : LineNo) (v : ProvingVerdict) : (State.endRun s n v).beaconTimer = s.beaconTimer := by unfold State.endRun State.fillResult; simp
@[simp] theorem endRun_timebase (n : LineNo) (v : ProvingVerdict) : (State.endRun s n v).timebase = s.timebase := by unfold State.endRun State.fillResult; simp
@[simp] theorem endRun_clock (n : LineNo) (v : ProvingVerdict) : (State.endRun s n v).clock = s.clock := by unfold State.endRun State.fillResult; simp
@[simp] theorem endRun_queue (n : LineNo) (v : ProvingVerdict) : (State.endRun s n v).queue = s.queue := by unfold State.endRun State.fillResult; simp
@[simp] theorem endRun_slots (n : LineNo) (v : ProvingVerdict) : (State.endRun s n v).slots = s.slots := by unfold State.endRun State.fillResult; simp
@[simp] theorem endRun_drain (n : LineNo) (v : ProvingVerdict) : (State.endRun s n v).drain = s.drain := by unfold State.endRun State.fillResult; simp
@[simp] theorem endRun_clashTimer (n : LineNo) (v : ProvingVerdict) : (State.endRun s n v).clashTimer = s.clashTimer := by unfold State.endRun State.fillResult; simp
@[simp] theorem endRun_bus (n : LineNo) (v : ProvingVerdict) : (State.endRun s n v).bus = s.bus := by unfold State.endRun State.fillResult; simp
@[simp] theorem endRun_freshAnnounced (n : LineNo) (v : ProvingVerdict) : (State.endRun s n v).freshAnnounced = s.freshAnnounced := by unfold State.endRun State.fillResult; simp
@[simp] theorem endRun_quietTimer (n : LineNo) (v : ProvingVerdict) : (State.endRun s n v).quietTimer = s.quietTimer := by unfold State.endRun State.fillResult; simp
@[simp] theorem endRun_streak (n : LineNo) (v : ProvingVerdict) : (State.endRun s n v).streak = s.streak := by unfold State.endRun State.fillResult; simp
@[simp] theorem endRun_wire (n : LineNo) (v : ProvingVerdict) : (State.endRun s n v).wire = s.wire := by unfold State.endRun State.fillResult; simp
@[simp] theorem endRun_rotation (n : LineNo) (v : ProvingVerdict) : (State.endRun s n v).rotation = s.rotation := by unfold State.endRun State.fillResult; simp
@[simp] theorem endRun_orderSlots (n : LineNo) (v : ProvingVerdict) : (State.endRun s n v).orderSlots = s.orderSlots := by unfold State.endRun State.fillResult; simp
@[simp] theorem endRun_echo (n : LineNo) (v : ProvingVerdict) : (State.endRun s n v).echo = s.echo := by unfold State.endRun State.fillResult; simp
@[simp] theorem endRun_pending (n : LineNo) (v : ProvingVerdict) : (State.endRun s n v).pending = s.pending := by unfold State.endRun State.fillResult; simp

@[simp] theorem endRun_run (n : LineNo) (v : ProvingVerdict) : (s.endRun n v).run = s.run.set n s.run[n].ended := by
  unfold State.endRun State.fillResult; simp
@[simp] theorem endRun_result (n : LineNo) (v : ProvingVerdict) :
    (s.endRun n v).result = s.result.set n (some
      ⟨s.run[n].station, v, s.run[n].speed, s.run[n].checked, s.run[n].errored, s.run[n].lockLosses, s.run[n].lockReached⟩) := by
  unfold State.endRun State.fillResult; simp
@[simp] theorem endRun_pending_req (n : LineNo) (v : ProvingVerdict) : ((s.endRun n v).req (.runResult n)).pending = true :=
  raised_pending _ _

/-! ## closeCause -/

@[simp] theorem closeCause_now (n : LineNo) (r : CloseReason) : (State.closeCause n r s).now = s.now := by
  unfold State.closeCause; repeat' split
  all_goals rfl
@[simp] theorem closeCause_loader (n : LineNo) (r : CloseReason) : (State.closeCause n r s).loader = s.loader := by
  unfold State.closeCause; repeat' split
  all_goals rfl
@[simp] theorem closeCause_restartPin (n : LineNo) (r : CloseReason) : (State.closeCause n r s).restartPin = s.restartPin := by
  unfold State.closeCause; repeat' split
  all_goals rfl
@[simp] theorem closeCause_station (n : LineNo) (r : CloseReason) : (State.closeCause n r s).station = s.station := by
  unfold State.closeCause; repeat' split
  all_goals rfl
@[simp] theorem closeCause_cfg (n : LineNo) (r : CloseReason) : (State.closeCause n r s).cfg = s.cfg := by
  unfold State.closeCause; repeat' split
  all_goals rfl
@[simp] theorem closeCause_configClamped (n : LineNo) (r : CloseReason) : (State.closeCause n r s).configClamped = s.configClamped := by
  unfold State.closeCause; repeat' split
  all_goals rfl
@[simp] theorem closeCause_sup (n : LineNo) (r : CloseReason) : (State.closeCause n r s).sup = s.sup := by
  unfold State.closeCause; repeat' split
  all_goals rfl
@[simp] theorem closeCause_path (n : LineNo) (r : CloseReason) : (State.closeCause n r s).path = s.path := by
  unfold State.closeCause; repeat' split
  all_goals rfl
@[simp] theorem closeCause_free (n : LineNo) (r : CloseReason) : (State.closeCause n r s).free = s.free := by
  unfold State.closeCause; repeat' split
  all_goals rfl
@[simp] theorem closeCause_sign (n : LineNo) (r : CloseReason) : (State.closeCause n r s).sign = s.sign := by
  unfold State.closeCause; repeat' split
  all_goals rfl
@[simp] theorem closeCause_claims (n : LineNo) (r : CloseReason) : (State.closeCause n r s).claims = s.claims := by
  unfold State.closeCause; repeat' split
  all_goals rfl
@[simp] theorem closeCause_run (n : LineNo) (r : CloseReason) : (State.closeCause n r s).run = s.run := by
  unfold State.closeCause; repeat' split
  all_goals rfl
@[simp] theorem closeCause_result (n : LineNo) (r : CloseReason) : (State.closeCause n r s).result = s.result := by
  unfold State.closeCause; repeat' split
  all_goals rfl
@[simp] theorem closeCause_requestSerial (n : LineNo) (r : CloseReason) : (State.closeCause n r s).requestSerial = s.requestSerial := by
  unfold State.closeCause; repeat' split
  all_goals rfl
@[simp] theorem closeCause_sessionSerial (n : LineNo) (r : CloseReason) : (State.closeCause n r s).sessionSerial = s.sessionSerial := by
  unfold State.closeCause; repeat' split
  all_goals rfl
@[simp] theorem closeCause_recordSerial (n : LineNo) (r : CloseReason) : (State.closeCause n r s).recordSerial = s.recordSerial := by
  unfold State.closeCause; repeat' split
  all_goals rfl
@[simp] theorem closeCause_presence (n : LineNo) (r : CloseReason) : (State.closeCause n r s).presence = s.presence := by
  unfold State.closeCause; repeat' split
  all_goals rfl
@[simp] theorem closeCause_roster (n : LineNo) (r : CloseReason) : (State.closeCause n r s).roster = s.roster := by
  unfold State.closeCause; repeat' split
  all_goals rfl
@[simp] theorem closeCause_refreshTimer (n : LineNo) (r : CloseReason) : (State.closeCause n r s).refreshTimer = s.refreshTimer := by
  unfold State.closeCause; repeat' split
  all_goals rfl
@[simp] theorem closeCause_beaconTimer (n : LineNo) (r : CloseReason) : (State.closeCause n r s).beaconTimer = s.beaconTimer := by
  unfold State.closeCause; repeat' split
  all_goals rfl
@[simp] theorem closeCause_timebase (n : LineNo) (r : CloseReason) : (State.closeCause n r s).timebase = s.timebase := by
  unfold State.closeCause; repeat' split
  all_goals rfl
@[simp] theorem closeCause_clock (n : LineNo) (r : CloseReason) : (State.closeCause n r s).clock = s.clock := by
  unfold State.closeCause; repeat' split
  all_goals rfl
@[simp] theorem closeCause_queue (n : LineNo) (r : CloseReason) : (State.closeCause n r s).queue = s.queue := by
  unfold State.closeCause; repeat' split
  all_goals rfl
@[simp] theorem closeCause_slots (n : LineNo) (r : CloseReason) : (State.closeCause n r s).slots = s.slots := by
  unfold State.closeCause; repeat' split
  all_goals rfl
@[simp] theorem closeCause_drain (n : LineNo) (r : CloseReason) : (State.closeCause n r s).drain = s.drain := by
  unfold State.closeCause; repeat' split
  all_goals rfl
@[simp] theorem closeCause_clashTimer (n : LineNo) (r : CloseReason) : (State.closeCause n r s).clashTimer = s.clashTimer := by
  unfold State.closeCause; repeat' split
  all_goals rfl
@[simp] theorem closeCause_bus (n : LineNo) (r : CloseReason) : (State.closeCause n r s).bus = s.bus := by
  unfold State.closeCause; repeat' split
  all_goals rfl
@[simp] theorem closeCause_freshAnnounced (n : LineNo) (r : CloseReason) : (State.closeCause n r s).freshAnnounced = s.freshAnnounced := by
  unfold State.closeCause; repeat' split
  all_goals rfl
@[simp] theorem closeCause_quietTimer (n : LineNo) (r : CloseReason) : (State.closeCause n r s).quietTimer = s.quietTimer := by
  unfold State.closeCause; repeat' split
  all_goals rfl
@[simp] theorem closeCause_streak (n : LineNo) (r : CloseReason) : (State.closeCause n r s).streak = s.streak := by
  unfold State.closeCause; repeat' split
  all_goals rfl
@[simp] theorem closeCause_wire (n : LineNo) (r : CloseReason) : (State.closeCause n r s).wire = s.wire := by
  unfold State.closeCause; repeat' split
  all_goals rfl
@[simp] theorem closeCause_rotation (n : LineNo) (r : CloseReason) : (State.closeCause n r s).rotation = s.rotation := by
  unfold State.closeCause; repeat' split
  all_goals rfl
@[simp] theorem closeCause_orderSlots (n : LineNo) (r : CloseReason) : (State.closeCause n r s).orderSlots = s.orderSlots := by
  unfold State.closeCause; repeat' split
  all_goals rfl
@[simp] theorem closeCause_echo (n : LineNo) (r : CloseReason) : (State.closeCause n r s).echo = s.echo := by
  unfold State.closeCause; repeat' split
  all_goals rfl
@[simp] theorem closeCause_pending (n : LineNo) (r : CloseReason) : (State.closeCause n r s).pending = s.pending := by
  unfold State.closeCause; repeat' split
  all_goals rfl

end Sys2Proof.Machine
end

