-- ==== Sys2Proof/Laws/Output.lean ====
section
/-! SUPPORT. What the closing work of an event does to a line's output: `settle_path` says it once for a line with no text waiting that
does not enter hold, from the same for each operation it is made of. -/

namespace Sys2Proof.Machine

/-! ## The transmitter and the owed flow character -/

/-- What `Path.owe` can do (R36): a first one is owed, the same one stays, the opposite one cancels. -/
theorem owe_cases (p : Path) (c : FlowChar) :
    (p.owed = none ∧ p.owe c = { p with owed := some c }) ∨ (p.owed = some c ∧ p.owe c = p) ∨
      (p.owed ≠ none ∧ p.owed ≠ some c ∧ p.owe c = { p with owed := none }) := by
  unfold Path.owe
  cases h : p.owed with
  | none => exact .inl ⟨rfl, by simp⟩
  | some d => by_cases hd : d = c <;> simp [hd]

/-- A line that is not on a call takes no character. -/
theorem txReady_onCall {s : State} {n : LineNo} (h : s.txReady n = true) : (s.st n).onCall = true := by
  unfold State.txReady at h
  simp only [Bool.and_eq_true] at h
  exact h.1.1

/-- What starting a transmitter does to the lines' paths (R44). -/
theorem startTx_path (s : State) (n m : LineNo) :
    (s.startTx n).path[m] = if n = m ∧ (s.st n).onCall = true then Path.started s.path[m] else s.path[m] := by
  by_cases hm : n = m
  · subst hm
    by_cases hc : (s.st n).onCall = true
    · unfold State.startTx State.txReady Path.started State.updPath State.setOut State.setPath
      rcases ht : s.path[n].tx with _ | b <;> rcases ho : s.path[n].owed with _ | (_ | _) <;>
        rcases hp : s.path[n].paused with _ | _ <;> rcases hq : s.path[n].outQ.chars with _ | ⟨c, cs⟩ <;>
          simp only [Fin.getElem_fin] at ht ho hp hq ⊢ <;> simp [hc, ht, ho, hp, hq, FlowChar.code]
    · have : s.txReady n = false := by
        cases h : s.txReady n with
        | false => rfl
        | true => exact absurd (txReady_onCall h) hc
      simp [State.startTx, this, hc]
  · simp only [hm, false_and, if_false]
    unfold State.startTx State.updPath State.setOut State.setPath
    split
    · split
      · exact vector_set_get_ne _ _ hm
      · split
        · rfl
        · simp only [vector_set_get_ne _ _ hm]
    · rfl

@[simp] theorem startTx_sup (s : State) (n : LineNo) : (s.startTx n).sup = s.sup := by
  unfold State.startTx
  repeat' split
  all_goals rfl

@[simp] theorem serveText_sup (s : State) (n : LineNo) : (s.serveText n).sup = s.sup := by
  unfold State.serveText
  split <;> rfl

/-- Serving the text of one line leaves the others' paths. -/
theorem serveText_path_ne (s : State) {n m : LineNo} (h : n ≠ m) : (s.serveText n).path[m] = s.path[m] := by
  unfold State.serveText State.updPath State.sendOut State.setOut State.setPath
  split
  · rfl
  · simp only [vector_set_get_ne _ _ h]

/-- Serving the text of a line empties its slot and leaves its transmitter. -/
theorem serveText_path (s : State) (n : LineNo) :
    (s.serveText n).path[n].slot = none ∧ (s.serveText n).path[n].tx = s.path[n].tx := by
  unfold State.serveText State.updPath State.sendOut State.setOut State.setPath
  split
  · next h => exact ⟨h, rfl⟩
  · simp

/-- Only a line with a text waiting has one that can be appended. -/
theorem textReady_slot {s : State} {n : LineNo} (h : s.textReady n = true) : s.path[n].slot.isSome = true := by
  unfold State.textReady at h
  split at h
  · cases h
  · next t ht => rw [ht]; rfl

theorem started_slot (p : Path) : (Path.started p).slot = p.slot := by
  unfold Path.started
  split <;> rfl

theorem started_tx (p : Path) (h : p.tx ≠ none) : Path.started p = p := by
  unfold Path.started
  split <;> simp_all

theorem started_idem (p : Path) : Path.started (Path.started p) = Path.started p := by
  by_cases h : (Path.started p).tx = none
  · have : Path.started p = p := by
      unfold Path.started at h ⊢
      split <;> simp_all
    rw [this, this]
  · exact started_tx _ h

/-- A line on a call whose transmitter can take nothing stands as if it had been started. -/
theorem started_of_not_ready {s : State} {n : LineNo} (hc : (s.st n).onCall = true) (h : s.txReady n = false) :
    Path.started s.path[n] = s.path[n] := by
  have := startTx_path s n n
  simp only [State.startTx, h, hc, and_self, if_true] at this
  simpa using this.symm

/-! ## Rounds of service end -/

/-- How many slots and idle transmitters a line still has to serve: 0 to 2. -/
def Path.toServe (p : Path) : Nat := (if p.slot.isSome then 1 else 0) + (if p.tx.isSome then 0 else 1)

/-- The same of all lines together: at most 32. -/
@[irreducible] def State.toServe (s : State) : Nat := (allLines.map fun n => s.path[n].toServe).sum

theorem toServe_le (s : State) : s.toServe ≤ 32 := by
  have h : ∀ n : LineNo, s.path[n].toServe ≤ 2 := by
    intro n
    unfold Path.toServe
    split <;> split <;> omega
  unfold State.toServe
  refine le_trans (List.sum_le_card_nsmul _ 2 ?_) (by simp [allLines])
  simp only [List.mem_map]
  rintro k ⟨n, -, rfl⟩
  exact h n

theorem toServe_lt {s u : State} (h : ∀ m : LineNo, u.path[m].toServe ≤ s.path[m].toServe) (n : LineNo)
    (hn : u.path[n].toServe < s.path[n].toServe) : u.toServe < s.toServe := by
  unfold State.toServe
  exact List.sum_lt_sum _ _ (fun m _ => h m) ⟨n, List.mem_finRange n, hn⟩

theorem started_toServe_le (p : Path) : (Path.started p).toServe ≤ p.toServe := by
  unfold Path.toServe
  rw [started_slot]
  by_cases h : p.tx = none
  · simp only [h]
    split <;> split <;> simp
  · rw [started_tx p h]

/-- A path with something to send and an idle transmitter is sending once it has been started. -/
theorem started_sends (p : Path) (ht : p.tx = none) (h : p.owed.isSome = true ∨ p.paused = false ∧ p.outQ.chars ≠ []) :
    (Path.started p).tx.isSome = true := by
  unfold Path.started
  rcases ho : p.owed with _ | (_ | _)
  · obtain ⟨hp, hq⟩ : p.paused = false ∧ p.outQ.chars ≠ [] := by simpa [ho] using h
    rcases hc : p.outQ.chars with _ | ⟨c, cs⟩
    · exact absurd hc hq
    · simp [ht, hp]
  · simp [ht]
  · simp [ht]

/-- Starting a transmitter that is ready sends something. -/
theorem started_ready {s : State} {n : LineNo} (h : s.txReady n = true) :
    s.path[n].tx = none ∧ (Path.started s.path[n]).tx.isSome = true := by
  unfold State.txReady at h
  simp only [Bool.and_eq_true, decide_eq_true_eq, Bool.or_eq_true, Bool.not_eq_true', ne_eq] at h
  exact ⟨h.1.2, started_sends _ h.1.2 h.2⟩

/-- Starting the given lines, each once: each of them on a call stands started, the others as they were. -/
theorem startLines_path (ls : List LineNo) (s : State) (m : LineNo) :
    (eachLine ls (fun n s => s.startTx n) s).path[m] =
      if m ∈ ls ∧ (s.st m).onCall = true then Path.started s.path[m] else s.path[m] := by
  induction ls generalizing s with
  | nil => simp [eachLine]
  | cons n ls ih =>
    have e : eachLine (n :: ls) (fun n s => s.startTx n) s = eachLine ls (fun n s => s.startTx n) (s.startTx n) := rfl
    have hst : (s.startTx n).st m = s.st m := by simp only [State.st, startTx_sup]
    rw [e, ih, hst, startTx_path]
    by_cases hc : (s.st m).onCall = true
    · by_cases hn : n = m
      · subst hn
        simp [hc, started_idem]
      · have : ¬m = n := fun x => hn x.symm
        simp [hc, hn, this]
    · by_cases hn : n = m
      · subst hn; simp [hc]
      · simp [hc, hn]

/-- What one round of service does: it keeps every line record, and some line has less left to serve. A line with no text waiting stands as it
was or, on a call, started. -/
theorem serveOnce_spec {s u : State} (h : s.serveOnce = some u) :
    u.sup = s.sup ∧ u.toServe < s.toServe ∧
      ∀ n : LineNo, s.path[n].slot = none →
        u.path[n] = s.path[n] ∨ (s.st n).onCall = true ∧ u.path[n] = Path.started s.path[n] := by
  have text : ∀ (v : State) (n : LineNo), v.sup = s.sup → v.path = s.path → s.textReady n = true →
      (v.serveText n).sup = s.sup ∧ (v.serveText n).toServe < s.toServe ∧
        ∀ m : LineNo, s.path[m].slot = none →
          (v.serveText n).path[m] = s.path[m] ∨ (s.st m).onCall = true ∧ (v.serveText n).path[m] = Path.started s.path[m] := by
    intro v n hv hp hr
    have hslot := textReady_slot hr
    obtain ⟨h1, h2⟩ := serveText_path v n
    have hn : (v.serveText n).path[n].toServe < s.path[n].toServe := by
      unfold Path.toServe
      rw [h1, h2, hp, if_pos hslot]
      simp only [Option.isSome_none, Bool.false_eq_true, if_false]
      omega
    refine ⟨by rw [serveText_sup, hv], toServe_lt (fun m => ?_) n hn, fun m hm => .inl ?_⟩
    · by_cases e : n = m
      · subst e; exact hn.le
      · rw [serveText_path_ne v e, hp]
    · have e : n ≠ m := by
        rintro rfl
        rw [hm] at hslot; cases hslot
      rw [serveText_path_ne v e, hp]
  unfold State.serveOnce at h
  split at h
  · split at h
    · cases h
    · next hls =>
      cases h
      have hsup : ∀ (l : List LineNo) (v : State), (eachLine l (fun n s => s.startTx n) v).sup = v.sup :=
        fun l v => eachLine_keeps State.sup _ (fun n s => startTx_sup s n) l v
      refine ⟨hsup _ _, ?_, fun n _ => ?_⟩
      · obtain ⟨n, rest, hcons⟩ := List.exists_cons_of_ne_nil hls
        have hmem : n ∈ allLines.filter s.txReady := by rw [hcons]; simp
        have hr : s.txReady n = true := (List.mem_filter.1 hmem).2
        refine toServe_lt (fun m => ?_) n ?_
        · rw [startLines_path]
          split
          · exact started_toServe_le _
          · exact le_refl _
        · obtain ⟨ht, hs⟩ := started_ready hr
          rw [startLines_path, if_pos ⟨hmem, txReady_onCall hr⟩]
          unfold Path.toServe
          rw [started_slot, hs, ht]
          simp
      · rw [startLines_path]
        split
        · next e => exact .inr ⟨e.2, rfl⟩
        · exact .inl rfl
  · next n hne =>
    cases h
    refine text s n rfl rfl ?_
    have : n ∈ allLines.filter s.textReady := by rw [hne]; simp
    exact (List.mem_filter.1 this).2
  · next ns h1 h2 =>
    split at h
    · cases h
    · next n rest hp =>
      cases h
      refine text _ n rfl rfl ?_
      have hmem : n ∈ pickFirst s.draws (allLines.filter s.textReady) := by rw [hp]; simp
      have : n ∈ allLines.filter s.textReady := by
        unfold pickFirst at hmem
        rcases List.mem_append.1 hmem with h | h
        · exact List.mem_of_mem_drop h
        · exact List.mem_of_mem_take h
      exact (List.mem_filter.1 this).2

/-- With nothing left to serve, no transmitter can take a character. -/
theorem serveOnce_none {s : State} (h : s.serveOnce = none) (n : LineNo) : s.txReady n = false := by
  unfold State.serveOnce at h
  split at h
  · split at h
    · next he =>
      cases hr : s.txReady n with
      | false => rfl
      | true =>
        have : n ∈ allLines.filter s.txReady := List.mem_filter.2 ⟨List.mem_finRange n, hr⟩
        rw [he] at this; cases this
    · cases h
  · cases h
  · next h1 _ =>
    split at h
    · next hp =>
      exfalso
      unfold pickFirst at hp
      rw [List.append_eq_nil_iff, List.drop_eq_nil_iff, List.take_eq_nil_iff] at hp
      rcases hp with ⟨h2, h3 | h3⟩
      · rw [h3] at h2
        exact h1 (List.eq_nil_of_length_eq_zero (Nat.le_zero.1 h2))
      · exact h1 h3
    · cases h

/-- Rounds enough for all that is left: a line with no text waiting stands, on a call, started, and elsewhere as it was. -/
theorem serve_path (k : Nat) (s : State) (hk : s.toServe ≤ k) (n : LineNo) (hs : s.path[n].slot = none) :
    (State.serve k s).sup = s.sup ∧
      (State.serve k s).path[n] = if (s.st n).onCall = true then Path.started s.path[n] else s.path[n] := by
  have rest : ∀ u : State, u.serveOnce = none →
      u.path[n] = if (u.st n).onCall = true then Path.started u.path[n] else u.path[n] := by
    intro u hu
    split
    · next hc => exact (started_of_not_ready hc (serveOnce_none hu n)).symm
    · rfl
  induction k generalizing s with
  | zero =>
    unfold State.serve
    refine ⟨rfl, rest s ?_⟩
    cases hu : s.serveOnce with
    | none => rfl
    | some u => have := (serveOnce_spec hu).2.1; omega
  | succ k ih =>
    cases hu : s.serveOnce with
    | none =>
      rw [show State.serve (k + 1) s = s by simp only [State.serve, hu]]
      exact ⟨rfl, rest s hu⟩
    | some u =>
      rw [show State.serve (k + 1) s = State.serve k u by simp only [State.serve, hu]]
      obtain ⟨hsup, hlt, hp⟩ := serveOnce_spec hu
      have hst : u.st n = s.st n := by simp only [State.st, hsup]
      have hslot : u.path[n].slot = none := by
        rcases hp n hs with h | ⟨-, h⟩
        · rw [h, hs]
        · rw [h, started_slot, hs]
      obtain ⟨h1, h2⟩ := ih u (by omega) hslot rest
      refine ⟨h1.trans hsup, ?_⟩
      rw [h2, hst]
      rcases hp n hs with h | ⟨hc, h⟩
      · rw [h]
      · rw [if_pos hc, if_pos hc, h, started_idem]

/-! ## The closing work -/

/-- Taking a text for one line leaves the others' paths. -/
theorem takeText_path_ne (s : State) {n m : LineNo} (h : n ≠ m) (t : Text) : (s.takeText n t).path[m] = s.path[m] := by
  unfold State.takeText State.updPath State.sendOut State.setOut State.setPath State.count
  repeat' split
  all_goals simp only [vector_set_get_ne _ _ h]

theorem noticeMessages_path_ne (ms : List (Fin 16)) {n m : LineNo} (h : n ≠ m) (s : State) :
    (State.noticeMessages ms n s).path[m] = s.path[m] := by
  unfold State.noticeMessages
  induction ms generalizing s with
  | nil => rfl
  | cons i ms ih =>
    refine (ih _).trans ?_
    show (s.noticeText n (messageText [i])).path[m] = s.path[m]
    unfold State.noticeText
    split
    · exact takeText_path_ne s h _
    · rfl

/-- What each step for one of the given lines leaves alone, `inFreeOrder` leaves alone, the draws apart. -/
theorem inFreeOrder_keeps_mem {α : Type} (g : State → α) (f : LineNo → State → State) (ls : List LineNo)
    (hf : ∀ n ∈ ls, ∀ s, g (f n s) = g s) (hd : ∀ (s : State) k, g { s with draws := k } = g s) (s : State) :
    g (inFreeOrder ls f s) = g s := by
  have free : ∀ (k : Nat) (ls : List LineNo) (s : State), (∀ n ∈ ls, ∀ s, g (f n s) = g s) → g (freeLines k ls f s) = g s := by
    intro k
    induction k with
    | zero => intro ls s _; simp [freeLines]
    | succ k ih =>
      intro ls s hf
      match ls, hf with
      | [], _ => simp [freeLines]
      | [a], hf => simpa [freeLines] using hf a (by simp) s
      | a :: b :: r, hf =>
        simp only [freeLines]
        split
        · rfl
        · next p others hp =>
          have hmem : ∀ x ∈ p :: others, x ∈ a :: b :: r := by
            intro x hx
            rw [← hp] at hx
            unfold pickFirst at hx
            rcases List.mem_append.1 hx with h | h
            · exact List.mem_of_mem_drop h
            · exact List.mem_of_mem_take h
          rw [ih others _ fun x hx => hf x (hmem x (by simp [hx])), hf p (hmem p (by simp)), hd]
  exact free _ ls s hf

/-- The hold test leaves the path of a line that does not enter hold (R109). -/
theorem testHold_path (s : State) (n : LineNo) (h : s.entersHold n = false) : s.testHold.path[n] = s.path[n] := by
  unfold State.testHold
  refine inFreeOrder_keeps_mem (fun u => u.path[n]) _ _ (fun m hm u => noticeMessages_path_ne _ ?_ u) (fun _ _ => rfl) _
  rintro rfl
  have := (List.mem_filter.1 hm).2
  rw [h] at this; cases this

@[simp] theorem updateOffers_path (s : State) : s.updateOffers.path = s.path := by
  have one : ∀ u : State, u.offerOne.path = u.path := by
    intro u
    unfold State.offerOne
    split
    · split
      · rw [raise_path]
      · rfl
    · rfl
  unfold State.updateOffers
  split
  · simp only [one]
  · rfl

@[simp] theorem reportDrained_path (n : LineNo) (s : State) : (s.reportDrained n).path = s.path := by
  unfold State.reportDrained
  repeat' split
  all_goals first
    | rfl
    | exact closeCause_path _ _ _

/-- The FLOW states follow the room; nothing else of a path changes (R42). -/
theorem updateFlow_path (n m : LineNo) (s : State) :
    ∃ f, (State.updateFlow n s).path[m] = { s.path[m] with flow := f } := by
  have e : (State.updateFlow n s).path = s.path ∨
      (State.updateFlow n s).path = s.path.set n { s.path[n] with flow := s.flowWanted n } := by
    unfold State.updateFlow
    split
    · exact .inl rfl
    · exact .inr (raise_path _ _)
  rcases e with e | e
  · exact ⟨s.path[m].flow, by rw [e]⟩
  · rw [e]
    by_cases h : n = m
    · subst h; exact ⟨s.flowWanted n, by rw [vector_set_get_self]⟩
    · exact ⟨s.path[m].flow, by rw [vector_set_get_ne _ _ h]⟩

/-- No move of the closing work touches a line record. -/
theorem sup_closingMoves (v : Vector LineRec 16) : ClosingMoves fun s => s.sup = v :=
  { path := fun _ _ _ _ _ h => h
    count := fun _ _ _ h => h
    raise := fun s i h => by unfold State.raise; split <;> exact h
    close := fun s n _ _ _ h => by unfold State.closeCause; repeat' split
                                   all_goals exact h
    hold := fun _ h => h
    queue := fun _ _ _ h => h
    drained := fun _ _ h => h
    draws := fun _ _ h => h }

/-- The closing work of an event, seen from the path of a line with no text waiting that does not enter hold: on a call its transmitter, if
it is idle, takes its next character, and its FLOW state follows its room; nothing else changes (R36, R42, R44). -/
theorem settle_path (s before : State) (every : Bool) (n : LineNo) (hl : s.started = true) (hs : s.path[n].slot = none)
    (hh : s.entersHold n = false) :
    ∃ f, (s.settle before every).path[n] =
      { if (s.st n).onCall = true then Path.started s.path[n] else s.path[n] with flow := f } := by
  unfold State.settle
  rw [if_pos hl]
  simp only []
  have flows : ∀ (ls : List LineNo) (u : State), ∃ f, (eachLine ls State.updateFlow u).path[n] = { u.path[n] with flow := f } := by
    intro ls
    induction ls with
    | nil => exact fun u => ⟨_, rfl⟩
    | cons a ls ih =>
      intro u
      obtain ⟨f, hf⟩ := ih (State.updateFlow a u)
      obtain ⟨g, hg⟩ := updateFlow_path a n u
      exact ⟨f, by rw [show eachLine (a :: ls) State.updateFlow u = eachLine ls State.updateFlow (State.updateFlow a u) from rfl, hf, hg]⟩
  have data : ∀ (a : LineNo) (u : State), (State.raiseDataIn before a u).path = u.path := by
    intro a u
    unfold State.raiseDataIn
    split
    · rw [raise_path]
    · rfl
  have line : ∀ (a : LineNo) (u : State), (State.raiseLineState before every a u).path = u.path := by
    intro a u
    unfold State.raiseLineState
    repeat' split
    · rw [raise_path]
    · rfl
    · rfl
  rw [eachLine_keeps State.path _ line, eachLine_keeps State.path _ data, eachLine_keeps State.path _ reportDrained_path]
  obtain ⟨f, hf⟩ := flows allLines (State.serve serveRounds s.testHold.updateOffers)
  have hp : s.testHold.updateOffers.path[n] = s.path[n] := by rw [updateOffers_path, testHold_path s n hh]
  have hst : s.testHold.updateOffers.st n = s.st n := by
    have : s.testHold.updateOffers.sup = s.sup :=
      ClosingMoves.updateOffers (P := fun u => u.sup = s.sup) (sup_closingMoves s.sup) _
        (ClosingMoves.testHold (sup_closingMoves s.sup) s rfl)
    simp only [State.st, this]
  obtain ⟨-, h2⟩ := serve_path serveRounds s.testHold.updateOffers (le_trans (toServe_le _) (by decide)) n (by rw [hp, hs])
  exact ⟨f, by rw [hf, h2, hp, hst]⟩

end Sys2Proof.Machine
end

