-- ==== Sys2Proof/WellFormed.lean ====
section
/-! DEFINITION. Which commands can be given: the limits that the frame formats put on the operands whose type does not
already bound them. -/

namespace Sys2Proof

/-- A frame as received fits its own length field, which is five bits wide (Table 11-1). -/
def RawFrame.fits (f : RawFrame) : Bool := f.payload.length ≤ 31

/-- The well-formed commands. A DATA frame carries 0 to 14 characters (R172, Table 11-3); a frame as received fits its length
field; a pulse is measured for at most 10,456 µs (R29). -/
def Instr.wellFormed : Instr → Bool
  | .dataOut _ _ _ _ chars => chars.length ≤ 14
  | .receiveFault _ f _ _ => f.fits
  | .speedTry _ _ _ width _ _ => width ≤ 10456
  | _ => true

end Sys2Proof
end

