-- ==== Sys2Proof/Tests/Slice0.lean ====
section
/-! SUPPORT. Tests of the model: ill-formed commands refused, worked examples and tables of the manual reproduced, and for every statement with
hypotheses a theorem that shows states and operands meeting them, clause by clause. -/

namespace Sys2Proof.Tests

open Sys2Proof Sys2Proof.Machine

set_option maxRecDepth 100000

/-! ## Helpers -/

/-- What a function sees of the next state a command leads to. -/
def seen {α : Type} (c : Instr) (s : State) (f : State → α) : Option α :=
  match exec c s with
  | .next u => some (f u)
  | .fault _ => none
  | .refused _ => none

/-- A running station 3 on an active bus; station 15 is a present accountant and clock, station 14 a present channel station. -/
def up : State :=
  { State.reset with
    loader := .running
    station := 3
    bus := .active
    roster := ((State.reset.roster.set 15 ⟨⟨false, true, false, true⟩, 0, false, 4095, 0⟩).set 14
      ⟨⟨false, false, true, false⟩, 0, false, 0, 0⟩) }

/-- `up` with line 0 in a state, its carrier present. -/
def line0 (x : LineState) : State := up.setSup 0 (LineRec.fresh x false true)

/-- A context of user 40,117 in a phase. -/
def ctx (p : Phase) : Context :=
  { Context.create 120000 with phase := p, digits := [4, 0, 1, 1, 7], requestSerial := some 7, replyWait := some 10000 }

/-- A session of user 40,117 with an allowance of 500 and channel station 14. -/
def call : Session := up.newSession (ctx .claiming) ⟨1, 2, 1, 14, 500⟩

/-- Line 0 in SIGNON with a context; its terminal runs at 300 baud. -/
def signing (c : Context) : State := ((line0 .signon).setSign 0 (some c)).setPath 0 { Path.fresh with speed := some .b300 }

/-- Line 0 in SESSION with a session record; its terminal runs at 300 baud. -/
def talking (x : Session) : State :=
  ((line0 .session).setSess 0 (some x)).setPath 0 { Path.fresh with speed := some .b300, flow := some .go }

/-- `up` with a frame on the wire. -/
def sending (i : ReqId) (d : Dest) (b : FrameBody) (s : State) : State := { s with wire := some ⟨i, d, b⟩ }

/-- A record of the Charge Queue. -/
def record (serial : BitVec 8) (offered : Bool) : Queued :=
  ⟨chargeOf serial 0 call .ended, offered, if offered then some 5000 else none⟩

/-- Line 0 in PROVING with a run record. -/
def proving (r : Run) : State := (line0 .proving).setRun 0 r

/-! ## Ill-formed commands -/

/-- R172: a DATA frame carries at most 14 characters. -/
theorem test_wellFormed_dataOut :
    (Instr.dataOut 0 14 0 0 (List.replicate 14 0)).wellFormed = true ∧
      (Instr.dataOut 0 14 0 0 (List.replicate 15 0)).wellFormed = false := by decide

/-- Table 11-1: the length field has five bits. -/
theorem test_wellFormed_receiveFault :
    (Instr.receiveFault 0 ⟨0, 0, 0, 0, 0, List.replicate 31 0, 0⟩ false false).wellFormed = true ∧
      (Instr.receiveFault 0 ⟨0, 0, 0, 0, 0, List.replicate 32 0, 0⟩ false false).wellFormed = false := by decide

/-- R29: a pulse that lasts longer than 10,455 µs is measured no further. -/
theorem test_wellFormed_speedTry :
    (Instr.speedTry 0 0 200 10456 0 true).wellFormed = true ∧ (Instr.speedTry 0 0 200 10457 0 true).wellFormed = false := by decide

/-- The table gives no row any bits, so no word spells a command. -/
theorem test_decode_none : decodeTableWord 16 0xFFFF = none := by decide

/-! ## Worked examples and tables of the manual -/

/-- R73: "A session of duration 705 s and 13 units has the summary line CONNECT 0:11:45 UNITS 13, of 24 characters." -/
theorem test_summary_line :
    summaryLine 705 13 = "CONNECT 0:11:45 UNITS 13".toList.map (fun c => BitVec.ofNat 7 c.toNat) ∧
      (summaryLine 705 13).length = 24 := by decide

/-- R146: the first character of the pattern is FFh and the second C1h. -/
theorem test_pattern_first_characters :
    (charOfBits (patternBits 8 (BitVec.allOnes 9)).1, charOfBits (patternBits 8 (patternBits 8 (BitVec.allOnes 9)).2).1) = (0xFF, 0xC1) := by
  decide

/-- Table 5-5, its last tick: residue 2,475 and 12 units finish as 13 units. -/
theorem test_finish_rounds_up :
    (Session.finish Configuration.builtIn { call with units := 12, residue := 2475, duration := 705 }).units = 13 := by decide

/-- Section 5.4.1: a tick at rate 9,999 that finds the residue at 3,599 leaves 2,798 and produces three units. -/
theorem test_greatest_rate :
    (({ call with residue := 3599 }).advance 9999).residue = 2798 ∧ (({ call with residue := 3599 }).advance 9999).units = 3 := by decide

/-- Table 2-2: 1,650 µs matches nothing where 600 is not allowed; 2,900 is 300 and 850 is 1200; 1,100 matches no window. Table 2-1: the ends of the
2400 and the 110 window and the widths beside them; the lowest allowed speed. -/
theorem test_speed_windows :
    [1650, 2900, 850, 1100].map (matchedSpeed { Group.builtIn with speeds := 0b110100 }) = [none, some .b300, some .b1200, none] ∧
      [353, 354, 480, 481, 7726, 7727, 10455, 10456].map (matchedSpeed Group.builtIn) =
        [none, some .b2400, some .b2400, none, none, some .b110, some .b110, none] ∧
      lowestSpeed { Group.builtIn with speeds := 0b110100 } = .b300 := by decide

/-- Table 1-8: RI falls after 2,000 ms on an IDLE line: RINGING with count 1 and ring-silence due 8 s later. -/
theorem test_first_burst :
    seen (.riFallingEdge 3000 4) (up.setSup 4 { LineRec.fresh .idle true false with burst := some 1000 })
        (fun u => (u.st 4, u.sup[4].burstCount, u.sup[4].ringSilence)) = some (.ringing, 1, some 11000) := by decide

/-- Table 1-8: the count reaches 2 with no make-busy condition: ANSWERING with the carrier wait due 30 s later. -/
theorem test_second_burst_answers :
    seen (.riFallingEdge 17000 4)
        (up.setSup 4 { LineRec.fresh .ringing true false with burst := some 15000, burstCount := 1, ringSilence := some 19000 })
        (fun u => (u.st 4, u.sup[4].carrierWait, u.dtr 4)) = some (.answering, some 47000, true) := by decide

/-- Table 5-2: the watch timer expires 1.5 s after the last tick, and the tick is taken at once. -/
theorem test_watch_timer :
    seen (.watchTimerExpiry 3500) { up with timebase := ⟨.following, some 2000, some 3500, none, none⟩ } (fun u => u.timebase) =
      some ⟨.fault, some 3500, none, some 4500, none⟩ := by decide

/-- Table 5-2: an edge 1,000 ms after the candidate ends the fault, and is no tick 400 ms after the last one. -/
theorem test_reference_returns :
    seen (.tbRisingEdge 6900) { up with timebase := ⟨.fault, some 6500, none, some 7500, some 5900⟩ } (fun u => u.timebase) =
      some ⟨.following, some 6500, some 8400, none, none⟩ := by decide

/-- Table 5-7, tick 36: the allowance runs out, and the grace counter is set to its 120 s. -/
theorem test_exhaustion_sets_grace :
    (({ call with remaining := some 0, warned := true }).testAllowance Configuration.builtIn) =
      ⟨{ call with remaining := some 0, warned := true, grace := some 120 }, [11], none⟩ := by decide

/-- Table 6-4: CHARGE-ACK 37 removes record 37, and record 40 is offered. -/
theorem test_ack_offers_the_next :
    seen (.chargeAck 0 15 37)
        { up with queue := [record 36 true, record 37 true, record 38 true, record 39 true, record 40 false, record 41 false] }
        (fun u => u.queue.map fun q => (q.charge.serial, q.offered)) =
      some [(36, true), (38, true), (39, true), (40, true), (41, false)] := by decide

/-- Table 4-4: a claim of station 5 line 9 for user 40,117 stands beside that of station 3 line 2. -/
theorem test_claim_enters :
    seen (.claim 0 5 ⟨9, 0, 0x040117, 2044, 14⟩) { up with station := 8, presence := [⟨3, 2, 40117, 517, 0⟩] } (fun u => u.presence) =
      some [⟨5, 9, 40117, 2044, 0⟩, ⟨3, 2, 40117, 517, 0⟩] := by decide

/-- Section 4.9: station 5 counts its own claim and that of station 3 against a limit of 1, and refuses with M5. -/
theorem test_two_claims_for_one_user :
    seen (.claimEchoed 0)
        { sending (.claim 9) .all (.claim 9 .new false 40117 2044 14)
            ((up.setSup 9 (LineRec.fresh .signon false true)).setSign 9
              (some { ctx .claiming with sessionSerial := some 2044, granted := some ⟨1, 1, 1, 14, 500⟩, claimRaised := true })) with
          station := 5, presence := [⟨3, 2, 40117, 517, 0⟩] }
        (fun u => (u.asks[9].refuse, u.claims[9].release)) =
      some (some ⟨[.message 5], none⟩, some ⟨40117, 2044, .withdrawn⟩) := by decide

/-- Table 2-3, start: 6 unwritten places and 2 free blocks give room for 38 characters; with no free block, 8 places remain. -/
theorem test_outbound_room :
    (((talking call).setPath 0 { (talking call).path[(0 : LineNo)] with
        inQ := ⟨List.replicate 5 0x41, 0⟩, outQ := ⟨List.replicate 6 0x41, 4⟩ })).outRoom 0 = 6 + 64 ∧
      { ((talking call).setPath 0 { (talking call).path[(0 : LineNo)] with
        inQ := ⟨List.replicate 5 0x41, 0⟩, outQ := ⟨List.replicate 6 0x41, 4⟩ }) with free := 2 }.outRoom 0 = 38 := by decide

/-- R172: with the register at all ones, no bits leave it as it is; the CRC of a SURVEY of station 3 passes its own test. -/
theorem test_survey_is_well_formed :
    crcOf [] = 0xFFFF ∧ frameWellFormed (WireFrame.raw ⟨.survey, .all, .survey⟩ 3) = true ∧
      frameWellFormed { WireFrame.raw ⟨.survey, .all, .survey⟩ 3 with crc := 0 } = false := by decide

/-- Table 11-3: the bytes of a CHARGE record's user number, duration and flags. -/
theorem test_user_number_is_bcd : bcd3 40117 = [0x04, 0x01, 0x17] ∧ userOf 0x040117 = some 40117 ∧ userOf 0x0A0000 = none := by decide

/-- R172, R173, Tables 11-1 to 11-4: frames written out bit by bit, the start first, with their CRCs computed by hand: SURVEY, CHARGE-ACK 37,
TIME 10,079:59, ORDER OUT and an unknown order for line 255, DATA with END, ADMIT-REPLY. -/
theorem test_frames_are_read :
    readBits 3 0 false (msbFirst (0x117fe0a23d : BitVec 39)) = .survey 0 15 ∧
      readBits 3 0 false (msbFirst (0x22bc61253c54 : BitVec 47)) = .chargeAck 0 15 37 ∧
      readBits 3 0 false (msbFirst (0x3fe3275f3bef4a : BitVec 63)) = .time 0 15 10079 59 ∧
      readBits 3 0 false (msbFirst (0x1a3c6402ff0000e6e8 : BitVec 71)) = .orderOut 0 15 255 0 ∧
      readBits 3 0 false (msbFirst (0x1a3c640aff0000632b : BitVec 71)) = .frameOnBus 0 15 3 ∧
      readBits 3 0 false (msbFirst (0x3378640004414267d3 : BitVec 71)) = .dataOut 0 14 0 4 [0x41, 0x42] ∧
      readBits 3 0 false (msbFirst (0x19fc690007010102010e01f46a16 : BitVec 111)) =
        .admitReply 0 15 ⟨0, 7, 1, 1, 2, 1, 14, 500⟩ := by decide

/-- R154, R160: the same frames with a wrong CRC, to another station, of the own number, and cut short by one bit. -/
theorem test_frames_are_refused :
    (match readBits 3 0 false (msbFirst (0x117fe0a23c : BitVec 39)) with
      | .receiveFault _ _ false false => true
      | _ => false) = true ∧
      readBits 4 0 false (msbFirst (0x22bc61253c54 : BitVec 47)) = .frameOnBus 0 15 3 ∧
      readBits 15 0 false (msbFirst (0x117fe0a23d : BitVec 39)) = .numberClash 0 ∧
      readBits 3 0 true ((msbFirst (0x117fe0a23d : BitVec 39)).take 38) = .receiveFault 0 ⟨0, 0, 0, 0, 0, [], 0⟩ true true := by decide

/-- R36: XOFF is owed while it is being sent, and no longer once it has been. -/
theorem test_flow_character_is_owed_until_sent :
    let p : Path := { Path.fresh with speed := some .b300, flow := some .go, inputHeld := true, owed := some .xoff, tx := some 0x41 }
    seen (.characterSent 0 0) ((talking call).setPath 0 p) (fun u => (u.path[0].tx, u.path[0].owed)) = some (some 0x13, some .xoff) ∧
      seen (.characterSent 0 0) ((talking call).setPath 0 { p with tx := some 0x13, txFlow := true })
        (fun u => (u.path[0].tx, u.path[0].owed)) = some (none, none) := by decide

/-- R61: after UNKNOWN to a serial, the retry is in CLAIMING with provisional set; a second reply to that serial is stale. -/
theorem test_second_reply_is_stale :
    seen (.admitReply 0 15 ⟨0, 7, 0, 1, 2, 1, 14, 500⟩)
        (signing { ctx .claiming with answered := true, provisional := true, granted := some ⟨1, 1, 0, 14, 60⟩, attempts := 1 })
        (fun u => (u.counters.staleReplies, u.sign[0].map Context.provisional)) = some (1, some true) := by decide

/-- R150: OUT after a run has ended with FAIL takes the line out of PROVING by that verdict first, with FAULT set. -/
theorem test_out_after_a_failed_run :
    seen (.orderOut 0 15 0 0) ((proving Run.fresh).setAsks 0 { Asks.fresh with endRun := some .fail })
        (fun u => (u.st 0, u.sup[0].fault, u.asks[0].endRun)) = some (.out, true, none) := by decide

/-- R37, R156: the end of channel-hold raises the DATA-IN request of a line with 14 characters; one still pending is coalesced, and counted. -/
theorem test_data_in_is_coalesced :
    seen (.flow 0 14 0 0)
        (((talking call).setPath 0
            { (talking call).path[(0 : LineNo)] with inQ := ⟨List.replicate 14 0x41, 0⟩, channelHold := true }).setReq (.dataIn 0) ⟨true, 0⟩)
        (fun u => (u.counters.requestsCoalesced, (u.req (.dataIn 0)).pending)) = some (1, true) := by decide

/-! ## Witnesses: the hypotheses of each statement are met, at boundary values where a clause has a range -/

/-- A command waiting, and none. -/
theorem test_witness_StepTakesTheFrontCommand :
    { up with pending := [.busIdle 5, .strike 6] }.pending = .busIdle 5 :: [.strike 6] ∧ up.pending = [] := by decide

/-- A store image that puts lines 0 and 1 in service and gives line 0 the forward tag 5. -/
def image : List Byte :=
  [0xA5, 0x16] ++ List.replicate 48 0 ++ [0x00, 0x03] ++ [5] ++ List.replicate 15 0xFF ++ List.replicate 1910 0

/-- After a power-up and after a restart; with the loader done, and with the pin held; a line with a forward tag, and lines in and out of
service. -/
theorem test_witness_StartPlacesLinesAndJoins :
    up.loader = .running ∧ { State.reset with restartPin := true }.restartPin = true ∧
      (State.reset.loader ≠ .running ∧ State.reset.restartPin = false ∧ State.reset.loader = .powerUp ∧
        State.reset.sup[(0 : LineNo)].st = .out ∧ State.reset.sup[(0 : LineNo)].outPending = false) ∧
      { State.reset with loader := .restart }.loader = .restart ∧
      (readStore ⟨true, [true], [25000], image⟩).val.tags[(0 : LineNo)] = some 5 ∧
      (readStore ⟨true, [true], [25000], image⟩).val.inService = 3 := by decide

/-- R168: the ways a store does not answer: its address or a byte not acknowledged, the clock held low for 25,001 µs, one byte too few; and
another format mark. Each leaves the defaults. -/
theorem test_witness_StartPlacesLinesAndJoins_store :
    image.length = 1978 ∧ (⟨true, [true, false], [], image⟩ : StoreRead).byteAcks.any (· = false) = true ∧
      (⟨true, [true], [25001], image⟩ : StoreRead).clockLow.any (25000 < ·) = true ∧ (image.take 1977).length < 1978 ∧
      (0xA4 :: image.tail).take 2 ≠ [0xA5, 0x16] ∧
      (([⟨false, [], [], []⟩, ⟨true, [true, false], [], image⟩, ⟨true, [true], [25001], image⟩, ⟨true, [true], [], image.take 1977⟩,
          ⟨true, [true], [], 0xA4 :: image.tail⟩] : List StoreRead).all fun r => (readStore r).clamped) = true := by decide

/-- A store image with every number in its range; lines 0 and 1 have the same forward tag, and attention characters have their eighth bit set. -/
def cleanImage : List Byte :=
  [0xA5, 0x16] ++ (List.replicate 4 [0x34, 2, 7, 0x83, 0xC1, 8, 6, 4]).flatten ++ List.replicate 16 1 ++ [0, 3] ++
    [5, 5] ++ List.replicate 14 0xFF ++ [0, 150, 0x0B, 0xB8, 8, 1, 0x90, 30, 1, 0x90, 2] ++ [1, 0x2C, 10, 60, 0, 100] ++
    (List.replicate 8 [240, 1]).flatten ++ [1, 2, 1, 0xFF, 0xFF, 3, 14, 0, 0x0F, 0xFF] ++ [10, 0, 60, 30] ++ List.replicate 712 0 ++
    List.replicate 656 0 ++ List.replicate 392 0 ++ (List.replicate 32 [0xFF, 0]).flatten ++ List.replicate 28 0 ++ List.replicate 8 7 ++ [3, 0, 2]

/-- R128, R168, R169, R174: an image in range gives its items and leaves config-clamped clear; the repeated tag and the eighth bit set nothing. One
byte out of range is read as the nearest end or as its code's default, and sets config-clamped. -/
theorem test_witness_StartPlacesLinesAndJoins_image :
    let read (img : List Byte) : Loaded Configuration := readStore ⟨true, [true], [25000], img⟩
    let r := read cleanImage
    let g := r.val.groups[(2 : Fin 4)]
    (cleanImage.length = 1978 ∧ cleanImage.take 2 = [0xA5, 0x16] ∧ image.take 2 = [0xA5, 0x16] ∧ image.length = 1978) ∧
      (r.clamped = false ∧ (read image).clamped = true) ∧
      (g.speeds = 0b110100 ∧ g.parity = .odd ∧ g.attention1 = some 3 ∧ g.attention2 = some 0x41 ∧ g.allowance = 6 ∧ g.inAllowance = 4) ∧
      (r.val.tags[(0 : LineNo)] = some 5 ∧ r.val.tags[(1 : LineNo)] = none ∧ r.val.signOnTime = 300 ∧ r.val.provisional.allowance = 65535 ∧
        r.val.fallbackCeiling = 4095 ∧ r.val.alarmThreshold = 3 ∧ r.val.busRate = .k1000) ∧
      (let a := read (cleanImage.set 0x50 0x2D)
       let b := read (cleanImage.set 0x03 3)
       a.clamped = true ∧ a.val.signOnTime = 300 ∧ b.clamped = true ∧ b.val.groups[(0 : Fin 4)].parity = .off) := by decide

/-- The pin asserted already, asserted during the first loading, and asserted with a session. -/
theorem test_witness_RestartPinKeepsChargesAndEndsCalls :
    { up with restartPin := true }.restartPin = true ∧ (State.reset.restartPin = false ∧ State.reset.loader = .powerUp) ∧
      ((talking call).restartPin = false ∧ (talking call).loader ≠ .powerUp ∧ (talking call).sess[(0 : LineNo)] = some call) := by decide

/-- R25, R48, R83, R87, R142, R150, R157, R158, R163, R170: what a restart from the pin and one by order take back to their restart values. -/
theorem test_restart_clears_the_other_blocks :
    let s := { ((talking call).setAsks 0 { Asks.fresh with close := true }).setRun 3 { Run.fresh with phase := .running, checked := 9 } with
      sup := (talking call).sup.set 2 { LineRec.fresh .out false false with fault := true, outPending := true }
      refreshTimer := some 60000, beaconTimer := some 10000, rotation := 4, requestSerial := 9, wire := some ⟨.survey, .all, .survey⟩
      free := 150, drain := true, freshAnnounced := true, clashTimer := some 9, streak := 2,
      orderSlots := up.orderSlots.set 0 (some ⟨15, .out, 0, .done⟩), slots := up.slots.set 5 ⟨true, 0⟩ }
    [seen (.restartPinAsserted 0) s, seen (.orderRestart 0 15 255 0) s].map (fun f => f fun u =>
        decide (u.free = 160 ∧ u.drain = false ∧ u.freshAnnounced = false ∧ u.clashTimer = none ∧ u.streak = 0 ∧
          u.orderSlots[(0 : Fin 17)] = none ∧ u.slots[(5 : Fin 32)] = ⟨false, 3⟩ ∧ u.asks[(0 : LineNo)].close = false ∧
          u.refreshTimer = none ∧ u.beaconTimer = none ∧ u.rotation = 15 ∧ u.requestSerial = 9 ∧ u.wire = none ∧
          u.sup[(2 : LineNo)] = LineRec.fresh .hangup false false ∧ u.run[(3 : LineNo)] = Run.fresh ∧
          u.queue.map (fun q => (q.charge.user, q.charge.reason)) = [(40117, .restart)])) =
      [some true, some true] := by decide

/-- Every state of a line; the conditions free and busy. -/
theorem test_witness_LeadsAndMakeBusyFollowTheState :
    ([LineState.out, .idle, .ringing, .answering, .signon, .session, .closing, .hangup, .proving].map fun x => (line0 x).mb 0) =
        [true, false, false, false, false, false, false, true, true] ∧
      ({ line0 .idle with drain := true }).mb 0 = true ∧ (15 : Station) ≠ up.station ∧
      (up.roster[(15 : Station)].age < 3 ∧ up.roster[(15 : Station)].roles.accountant = true) ∧
      (∀ i : Station, ¬(State.reset.roster[i].age < 3 ∧ State.reset.roster[i].roles.accountant = true)) ∧
      { up with drain := true }.alarmCause 2 = false ∧ State.reset.alarmCause 2 = true := by decide

/-- Tags of two lines that differ, and outputs that select no MB signal of a local line. -/
theorem test_witness_LeadsAndMakeBusyFollowTheState_outputs :
    crossOk { up.cfg with tags := (up.cfg.tags.set 0 (some 5)).set 1 (some 6) } := by
  unfold crossOk
  decide

/-- A line in RINGING, its burst open since `b`, at a count. -/
def ringing (count : Nat) (blocked : Bool) (b : Nat) : State :=
  up.setSup 0 { LineRec.fresh .ringing true false with burst := some b, burstCount := count, blocked := blocked }

/-- Bursts of 149 and 3,001 ms, of 150 and 3,000 ms, and the three standings a burst can meet. -/
theorem test_witness_RingBurstsAreClassed :
    (ringing 1 false 1000).sup[(0 : LineNo)].ri = true ∧
      (∀ b ∈ (ringing 1 false 1000).sup[(0 : LineNo)].burst, 1149 - b < up.cfg.times.ringMin) ∧
      (∀ b ∈ (ringing 1 false 1000).sup[(0 : LineNo)].burst, up.cfg.times.ringMax < 4001 - b) ∧
      (ringing 1 false 1000).sup[(0 : LineNo)].burst = some 1000 ∧
      up.cfg.times.ringMin ≤ 1150 - 1000 ∧ 4000 - 1000 ≤ up.cfg.times.ringMax ∧
      ((line0 .idle).st 0 = .idle ∧ 1 < ((line0 .idle).group 0).answerRings) ∧
      ((ringing 1 false 1000).st 0 = .ringing ∧ (ringing 1 false 1000).sup[(0 : LineNo)].blocked = false ∧
        ¬1 + 1 < ((ringing 1 false 1000).group 0).answerRings ∧ (ringing 1 false 1000).madeBusy 0 = false) ∧
      { ringing 1 false 1000 with drain := true }.madeBusy 0 = true ∧ (ringing 2 true 1000).sup[(0 : LineNo)].blocked = true := by
  decide

/-- A line in CLOSING. -/
theorem test_witness_CallsWithoutASessionHangUp : (line0 .closing).st 0 = .closing := by decide

/-- A line whose carrier has been away since 1,000. -/
def lost (s : State) : State := s.setSup 0 { s.sup[(0 : LineNo)] with cd := false, dropout := some 1000 }

/-- The dropout one millisecond short of carrier-loss, and at it; a session; contexts whose claim is and is not raised. -/
theorem test_witness_DisconnectEndsTheCall :
    (talking call).sup[(0 : LineNo)].cd = true ∧
      (∀ b ∈ (lost (talking call)).sup[(0 : LineNo)].dropout, 1399 < b + up.cfg.times.carrierLoss) ∧
      ((lost (talking call)).sup[(0 : LineNo)].cd = false ∧ (lost (talking call)).sup[(0 : LineNo)].dropout = some 1000 ∧
        1000 + up.cfg.times.carrierLoss ≤ 1400 ∧ (lost (talking call)).st 0 = .session ∧
        (lost (talking call)).sess[(0 : LineNo)] = some call) ∧
      ((lost (signing { ctx .claiming with claimRaised := true })).st 0 = .signon ∧
        (lost (signing { ctx .claiming with claimRaised := true })).sign[(0 : LineNo)] = some { ctx .claiming with claimRaised := true }) ∧
      (lost (signing (ctx .user))).sign[(0 : LineNo)] = some (ctx .user) := by decide

/-- A refuse and a close request taken and absent, and a close request in another state. -/
theorem test_witness_RefuseAndCloseMoveToClosing :
    ((signing (ctx .refusing)).setAsks 0 { Asks.fresh with refuse := some ⟨[.message 9], none⟩ }).asks[(0 : LineNo)].refuse =
        some ⟨[.message 9], none⟩ ∧
      up.asks[(0 : LineNo)].refuse = none ∧ up.asks[(0 : LineNo)].close = false ∧ (line0 .closing).st 0 ≠ .session ∧
      (((talking { call with reason := some .ended }).setAsks 0 { Asks.fresh with close := true }).asks[(0 : LineNo)].close = true ∧
        (talking { call with reason := some .ended }).st 0 = .session ∧
        (talking { call with reason := some .ended }).sess[(0 : LineNo)] = some { call with reason := some .ended } ∧
        { call with reason := some .ended }.reason = some .ended) := by decide

/-- A refuse request taken in SIGNON with all output at rest; a close with the transmitter sending and idle, the slot empty, and room; the
greatest number with eight digits. -/
theorem test_witness_RefuseAndCloseMoveToClosing_texts :
    let s := (signing (ctx .refusing)).setAsks 0 { Asks.fresh with refuse := some ⟨[.message 9], none⟩ }
    let c := talking { call with reason := some .idle }
    let b := c.setPath 0 { c.path[(0 : LineNo)] with tx := some 0x41, outQ := ⟨[0x42], 0⟩ }
    (OutputAtRest s ∧ s.loader = .running ∧ s.st 0 = .signon) ∧
      (b.path[(0 : LineNo)].tx.isSome = true ∧ c.path[(0 : LineNo)].tx = none ∧ c.path[(0 : LineNo)].slot = none ∧
        (textChars c.cfg (closingText c.cfg { call with reason := some .idle } .idle)).length ≤ 0 + 16 * min 6 160 ∧
        (c.group 0).allowance = 6 ∧ ∀ m : LineNo, c.entersHold m = false) ∧
      99999999 < 100000000 := by
  unfold OutputAtRest
  decide

/-- An establish request in SIGNON with an admitted context, and one in HANGUP. -/
theorem test_witness_EstablishCreatesTheSession :
    ((line0 .hangup).setAsks 0 { Asks.fresh with establish := true }).asks[(0 : LineNo)].establish = true ∧ (line0 .hangup).st 0 ≠ .signon ∧
      let c := { ctx .claiming with admitted := true, granted := some ⟨1, 2, 1, 14, 500⟩, sessionSerial := some 4 }
      ((signing c).setAsks 0 { Asks.fresh with establish := true }).asks[(0 : LineNo)].establish = true ∧ (signing c).st 0 = .signon ∧
        (signing c).sign[(0 : LineNo)] = some c ∧ c.admitted = true ∧ c.granted = some ⟨1, 2, 1, 14, 500⟩ ∧ c.heldReply = none ∧
        0 < (signing c).cfg.graceTime ∧ (signing c).loader = .running ∧
        ((up.roster[(14 : Station)].age < 3 ∧ up.roster[(14 : Station)].roles.channel = true) ∧ up.bus = .active) ∧
        { up with bus := .joining }.bus ≠ .active ∧
        [Verdict.accept, .barred].map (fun v => { c with heldReply := some ⟨v, ⟨2, 2, 2, 14, 700⟩⟩ }.heldReply.map Reply.verdict) =
          [some .accept, some .barred] := by decide

/-- R17, R68: a provisional session whose NEW request was raised keeps its serial as confirm-pending, not waiting; one without a request has none;
one whose fee ends it at grace time 0 has none either. -/
theorem test_establish_keeps_the_request_serial :
    let c := { ctx .claiming with admitted := true, granted := some ⟨1, 2, 1, 14, 500⟩, sessionSerial := some 4, provisional := true }
    let g : State → State := fun s =>
      { s with cfg := { s.cfg with graceTime := 0, tariffs := s.cfg.tariffs.set 2 { s.cfg.tariffs[(2 : Fin 4)] with fee := 200 } } }
    let e (x : Context) : State := (signing x).setAsks 0 { Asks.fresh with establish := true }
    [e c, e { c with requestSerial := none }, e { c with provisional := false }, g (e { c with granted := some ⟨1, 2, 2, 14, 100⟩ })].map
        (fun s => seen (.establish 0 0) s fun u => u.sess[(0 : LineNo)].map fun x => (x.confirm, x.reason)) =
      [some (some (some ⟨7, none, false⟩, none)), some (some (none, none)), some (some (none, none)), some (some (none, some .allowance))] := by
  decide

/-- R100, R105, R106: a fee of 5 from allowances that leave 11, 10, 1 and 0, and from an unlimited one, at a warn threshold of 10 and a grace time of
60 and 0. -/
theorem test_fee_warns_and_exhausts :
    let e (a grace : Nat) : State :=
      let c := { ctx .claiming with admitted := true, granted := some ⟨1, 2, 2, 14, a⟩, sessionSerial := some 4 }
      let s := (signing c).setAsks 0 { Asks.fresh with establish := true }
      { s with cfg := { s.cfg with
          warnThreshold := 10, graceTime := grace, tariffs := s.cfg.tariffs.set 2 { s.cfg.tariffs[(2 : Fin 4)] with fee := 5 } } }
    let left (s : State) : Option (Option (Option Nat × Bool)) :=
      seen (.establish 0 0) s fun u => u.sess[(0 : LineNo)].map fun x => (x.remaining, x.warned)
    let ended (s : State) : Option (Option (Option Nat × Option CloseReason)) :=
      seen (.establish 0 0) s fun u => u.sess[(0 : LineNo)].map fun x => (x.grace, x.reason)
    [e 16 60, e 15 60, e 6 60, e 5 60, e 65535 60].map left =
        [some (some (some 11, false)), some (some (some 10, true)), some (some (some 1, true)), some (some (some 0, false)),
          some (some (none, false))] ∧
      [e 6 60, e 5 60, e 5 0].map ended = [some (some (none, none)), some (some (some 60, none)), some (some (none, some .allowance))] := by
  decide

/-- R36, R44: input-held and output-paused, set in the sign-on, are clear at the start of the session. -/
theorem test_session_starts_unheld :
    let c := { ctx .claiming with admitted := true, granted := some ⟨1, 2, 1, 14, 500⟩, sessionSerial := some 4 }
    let s := (signing c).setAsks 0 { Asks.fresh with establish := true }
    let s := s.setPath 0 { s.path[(0 : LineNo)] with paused := true, inputHeld := true }
    seen (.establish 0 0) s (fun u => (u.st 0, u.path[(0 : LineNo)].paused, u.path[(0 : LineNo)].inputHeld)) = some (.session, false, false) := by
  decide

/-- A receiver at work, and two that are not: no call, and a call whose speed is not known. -/
theorem test_witness_ReceiverChecksParityAndFraming :
    (((talking call).st 0).onCall = true ∧ (talking call).path[(0 : LineNo)].speed.isSome = true) ∧ ((line0 .idle).st 0).onCall = false ∧
      (line0 .signon).path[(0 : LineNo)].speed.isSome = false := by decide

/-- R28: 41h has two ones; with the parity bit set the eight bits have three, with it clear two. Off, even and odd checking. -/
theorem test_parity_errors :
    let s (p : Parity) := { talking call with cfg := { up.cfg with groups := up.cfg.groups.set 0 { Group.builtIn with parity := p } } }
    ([Parity.off, .even, .odd].map fun p => [true, false].map fun b => seen (.characterReceived 0 0 0x41 b) (s p) fun u =>
        (u.counters.parityErrors, u.path[(0 : LineNo)].inQ.chars)) =
      [[some (0, [0x41]), some (0, [0x41])], [some (1, [0x1A]), some (0, [0x41])], [some (0, [0x41]), some (1, [0x1A])]] := by decide

/-- Line 0 in SESSION with `k` characters in its inbound queue. -/
def typed (k : Nat) (x : Session) : State :=
  (talking x).setPath 0 { (talking x).path[(0 : LineNo)] with inQ := ⟨List.replicate k 0x41, 0⟩ }

/-- The parity bit with which line 0 takes a character. -/
def parityOf (s : State) (c : Char7) : Bool := parityPasses (s.group 0).parity c true

/-- The inbound queue full at 32 characters, and with one place left at 31; XON/XOFF enabled, no attention characters. -/
theorem test_witness_SessionCharacterQueuesOrOverruns :
    (typed 32 call).st 0 = .session ∧ (typed 32 call).sess[(0 : LineNo)] = some call ∧
      (typed 32 call).path[(0 : LineNo)].speed.isSome = true ∧ parityPasses ((typed 32 call).group 0).parity 0x41 false = true ∧
      (0x41 : Char7) ≠ 0x11 ∧ (0x41 : Char7) ≠ 0x13 ∧ ((typed 32 call).group 0).attention1 ≠ some 0x41 ∧
      ((typed 32 call).group 0).attention2 ≠ some 0x41 ∧ (typed 32 call).inRoom 0 = 0 ∧
      (typed 31 { call with echo := false }).inRoom 0 = 1 ∧ { call with echo := false }.echo = false ∧
      16 * ((typed 23 call).group 0).inAllowance - 8 ≤ (typed 23 call).path[(0 : LineNo)].inQ.chars.length + 1 ∧
      (typed 23 call).path[(0 : LineNo)].inputHeld = false ∧
      ¬16 * ((typed 22 call).group 0).inAllowance - 8 ≤ (typed 22 call).path[(0 : LineNo)].inQ.chars.length + 1 := by decide

/-- Echo mode on with outbound room and without, and with one block free, which the echo takes; the transmitter sending and idle. -/
theorem test_witness_SessionCharacterQueuesOrOverruns_echoes :
    let x := { call with echo := true }
    let none_ := (typed 0 x).setPath 0 { (typed 0 x).path[(0 : LineNo)] with outQ := ⟨List.replicate 96 0x41, 0⟩, inQ := ⟨[0x41], 0⟩ }
    let last := { typed 0 x with free := 1 }
    let busy := (typed 0 x).setPath 0 { (typed 0 x).path[(0 : LineNo)] with tx := some 0x41 }
    (typed 0 x).loader = .running ∧ x.echo = true ∧ { x with echo := false }.echo = false ∧
      (1 ≤ (typed 0 x).inRoom 0 ∧ 1 ≤ (typed 0 x).outRoom 0 ∧ 1 ≤ ((typed 0 x).sendOut 0 [0x42]).inRoom 0) ∧
      (1 ≤ none_.inRoom 0 ∧ none_.outRoom 0 = 0) ∧
      (1 ≤ last.inRoom 0 ∧ 1 ≤ last.outRoom 0 ∧ (last.sendOut 0 [0x42]).inRoom 0 = 0) ∧
      ((typed 0 x).path[(0 : LineNo)].slot = none ∧ (typed 0 x).entersHold 0 = false ∧ (typed 0 x).path[(0 : LineNo)].tx = none) ∧
      busy.path[(0 : LineNo)].tx.isSome = true := by decide

/-- R33, R34: a character of a session in echo mode goes out at once; the one whose echo takes the last block is an overrun. -/
theorem test_echo_goes_out :
    let x := { call with echo := true }
    [160, 1].map (fun k =>
        seen (.characterReceived 0 0 0x42 (parityOf (typed 0 x) 0x42)) { typed 0 x with free := k } fun u =>
          (u.path[(0 : LineNo)].tx, u.path[(0 : LineNo)].inQ.chars, u.counters.overruns)) =
      [some (some 0x42, [0x42], 0), some (some 0x42, [], 1)] := by decide

/-- R34: in echo mode with no inbound room the character is an overrun and is not echoed; what stood in the outbound queue goes out. -/
theorem test_overrun_is_not_echoed :
    let x := { call with echo := true }
    let s (q : List Char7) := (typed 32 x).setPath 0 { (typed 32 x).path[(0 : LineNo)] with outQ := ⟨q, 0⟩ }
    (x.echo = true ∧ (s []).inRoom 0 = 0 ∧ (s []).entersHold 0 = false ∧ (s []).path[(0 : LineNo)].slot = none) ∧
      ([[], [0x43, 0x44]].map fun q => seen (.characterReceived 0 0 0x42 (parityOf (s q) 0x42)) (s q) fun u =>
          (u.path[(0 : LineNo)].tx, u.path[(0 : LineNo)].outQ.chars, u.counters.overruns, u.counters.echoesLost)) =
        [some (none, [], 1, 0), some (some 0x43, [0x44], 1, 0)] := by decide

/-- Both flow characters in CLOSING and in SESSION, a BREAK in SESSION and elsewhere, and an attention character 03h. -/
theorem test_witness_TerminalControlsActOnTheLine :
    let attn := { talking call with cfg := { up.cfg with groups := up.cfg.groups.set 0 { Group.builtIn with attention1 := some 3 } } }
    (talking call).path[(0 : LineNo)].speed.isSome = true ∧ ((talking call).group 0).xonXoff = true ∧ (talking call).st 0 = .session ∧
      (talking call).sess[(0 : LineNo)].isSome = true ∧ (line0 .closing).st 0 = .closing ∧ ((line0 .closing).group 0).xonXoff = true ∧
      parityPasses ((talking call).group 0).parity 0x13 true = true ∧ parityPasses ((talking call).group 0).parity 0x11 true = true ∧
      (signing (ctx .user)).st 0 ≠ .session ∧
      (attn.st 0 = .session ∧ attn.sess[(0 : LineNo)] = some call ∧ parityPasses (attn.group 0).parity 3 true = true ∧
        (3 : Char7) ≠ 0x11 ∧ (3 : Char7) ≠ 0x13 ∧ (attn.group 0).attention1 = some 3) := by decide

/-- R34, R44: DC3 and DC1 enter neither queue: DC3 stops the outbound queue as it stands, and DC1 lets it go on. -/
theorem test_flow_characters_are_not_echoed :
    let x := { call with echo := true }
    let s := (talking x).setPath 0 { (talking x).path[(0 : LineNo)] with outQ := ⟨[0x43, 0x44], 0⟩, paused := true }
    (s.path[(0 : LineNo)].slot = none ∧ s.entersHold 0 = false ∧ s.loader = .running ∧ s.path[(0 : LineNo)].tx = none) ∧
      ([0x13, 0x11].map fun c => seen (.characterReceived 0 0 c true) s fun u =>
          (u.path[(0 : LineNo)].tx, u.path[(0 : LineNo)].outQ.chars, u.path[(0 : LineNo)].inQ.chars, u.path[(0 : LineNo)].paused)) =
        [some (none, [0x43, 0x44], [], true), some (some 0x43, [0x44], [], false)] := by decide

/-- R34, R35, R44: an attention character and a BREAK leave the outbound queue empty and the character in the transmitter; an idle transmitter stays
idle, or sends the flow character owed. -/
theorem test_attention_and_break_flush :
    let attn := { talking call with cfg := { up.cfg with groups := up.cfg.groups.set 0 { Group.builtIn with attention1 := some 3 } } }
    let q := { attn.path[(0 : LineNo)] with outQ := ⟨[0x42, 0x43], 0⟩, paused := true }
    let s (tx : Option Byte) (o : Option FlowChar) : State := attn.setPath 0 { q with tx := tx, owed := o }
    (q.slot = none ∧ (s none none).entersHold 0 = false ∧ (s none none).loader = .running) ∧
      ([s (some 0x41) none, s none none, s none (some .xoff)].map fun s =>
          [seen (.lineBreak 0 0) s, seen (.characterReceived 0 0 3 true) s].map fun f => f fun u =>
            (u.path[(0 : LineNo)].outQ.chars, u.path[(0 : LineNo)].tx)) =
        [List.replicate 2 (some ([], some 0x41)), List.replicate 2 (some ([], none)), List.replicate 2 (some ([], some 0x13))] := by decide

/-- R70: DC3, DC1 and an attention character load the idle timer anew with 60 times the limit of the class; a BREAK does not, nor does a character of a
session that is closing. -/
theorem test_every_character_reloads_the_idle_timer :
    let s (x : Session) : State :=
      { talking x with cfg := { up.cfg with
          groups := up.cfg.groups.set 0 { Group.builtIn with attention1 := some 3 }
          classes := up.cfg.classes.set 1 { up.cfg.classes[(1 : Fin 8)] with idleLimit := 5 } } }
    let x := { call with idle := some 7 }
    let idle (c : Instr) (x : Session) : Option (Option Nat) := seen c (s x) fun u => u.sess[(0 : LineNo)].bind Session.idle
    ((s x).group 0).xonXoff = true ∧ x.cls = 1 ∧
      ([0x13, 0x11, 3].map fun c => idle (.characterReceived 0 0 c true) x) = [some (some 300), some (some 300), some (some 300)] ∧
      idle (.lineBreak 0 0) x = some (some 7) ∧
      idle (.characterReceived 0 0 0x13 true) { x with reason := some .idle } = some (some 7) := by decide

/-- A fall with 199 ms of mark after a failed try, and with 200; pulses at the ends of the 1200 window and beside them; the second and the
third failure. -/
theorem test_witness_SpeedTrySucceedsOrFails :
    let s := (line0 .signon).setSign 0 (some { ctx .sense with tries := 1 })
    s.st 0 = .signon ∧ s.sign[(0 : LineNo)] = some { ctx .sense with tries := 1 } ∧ (ctx .sense).phase = .sense ∧ 199 < 200 ∧
      [707, 708, 958, 959].map (matchedSpeed (s.group 0)) = [none, some .b1200, some .b1200, none] ∧
      { ctx .sense with tries := 1 }.tries + 1 < 3 ∧ 3 ≤ { ctx .sense with tries := 2 }.tries + 1 ∧ s.loader = .running ∧
      OutputAtRest s := by
  unfold OutputAtRest
  decide

/-- A transmitter at work on a call with one more character waiting, and in a proving run. -/
theorem test_witness_TransmitterTakesTheNextCharacter :
    let p := { (talking call).path[(0 : LineNo)] with tx := some 0x41, outQ := ⟨[0x42], 15⟩ }
    let s := (talking call).setPath 0 p
    s.path[(0 : LineNo)].tx = some 0x41 ∧ s.loader = .running ∧ (s.st 0).onCall = true ∧ s.path[(0 : LineNo)].outQ.chars = 0x42 :: [] ∧
      s.path[(0 : LineNo)].paused = false ∧ s.path[(0 : LineNo)].owed = none ∧
      (∀ m : LineNo, s.path[m].slot = none ∧ s.entersHold m = false) ∧
      (proving { Run.fresh with phase := .running }).st 0 = .proving ∧
      (proving { Run.fresh with phase := .running }).run[(0 : LineNo)].phase = .running := by decide

/-- XON and XOFF owed, output paused, nothing to send in CLOSING and in a session with END, a flow character in the transmitter; a text that waits
behind a full allowance and in front of the room that the character just taken frees, and one longer than the 48 characters that an allowance of 3
can ever hold. -/
theorem test_witness_TransmitterTakesTheNextCharacter_clauses :
    let p := { (talking call).path[(0 : LineNo)] with tx := some 0x41 }
    let c := { line0 .closing with path := up.path.set 0 p }
    let text : Text := ⟨[.message 9], none⟩
    let full := { p with outQ := ⟨List.replicate 96 0x42, 0⟩, slot := some text }
    let small := { talking call with cfg := { up.cfg with groups := up.cfg.groups.set 0 { Group.builtIn with allowance := 3 } } }
    let long : Text := ⟨List.replicate 30 (.message 9), none⟩
    { p with owed := some .xon }.owed = some .xon ∧ { p with owed := some .xoff }.owed = some .xoff ∧ { p with paused := true }.paused = true ∧
      (c.st 0 = .closing ∧ c.path[(0 : LineNo)].outQ.chars = [] ∧ c.path[(0 : LineNo)].owed = none) ∧
      { call with endMark := true }.endMark = true ∧ { p with tx := some 0x13, txFlow := true, owed := some .xoff }.txFlow = true ∧
      (let s := (talking call).setPath 0 full
       s.path[(0 : LineNo)].slot = some text ∧ (∀ m : LineNo, s.entersHold m = false) ∧
         (∀ m : LineNo, m ≠ 0 → s.path[m].slot = none ∧ s.txReady m = false) ∧ s.outRoom 0 < (textChars s.cfg text).length) ∧
      (let s := small.setPath 0 { p with slot := some long }
       s.path[(0 : LineNo)].outQ.chars = [] ∧ s.path[(0 : LineNo)].inQ.chars = [] ∧ (s.group 0).allowance ≤ s.free ∧
         48 < (textChars s.cfg long).length ∧ (textChars s.cfg long).take 48 = 0x0D :: ((textChars s.cfg long).take 48).tail) := by decide

/-- A digit in USER and in CODE, and a character in ASKING. -/
theorem test_witness_SignOnCharactersCollectFields :
    (signing (ctx .user)).st 0 = .signon ∧ (signing (ctx .user)).sign[(0 : LineNo)] = some (ctx .user) ∧
      (signing (ctx .user)).path[(0 : LineNo)].speed.isSome = true ∧ parityPasses ((signing (ctx .user)).group 0).parity 0x30 true = true ∧
      (0x30 : Char7) ≠ 0x0D ∧ (signing (ctx .code)).sign[(0 : LineNo)] = some (ctx .code) ∧ (ctx .code).phase = .code ∧
      (ctx .asking).phase ≠ .user ∧ (ctx .asking).phase ≠ .code := by decide

/-- The rows of Table 3-3: a digit with 5 and with 6 collected, BS with some and with none, CAN, and another character; outbound room for all three
characters of the erasure and for two of them; the transmitter sending and idle. -/
theorem test_witness_SignOnCharactersCollectFields_echoes :
    let s := signing (ctx .user)
    let two := s.setPath 0 { s.path[(0 : LineNo)] with outQ := ⟨List.replicate 94 0x41, 0⟩ }
    let busy := s.setPath 0 { s.path[(0 : LineNo)] with tx := some 0x41 }
    (ctx .user).phase = .user ∧ (ctx .user).digits.length < 6 ∧ ¬{ ctx .user with digits := [4, 0, 1, 1, 7, 3] }.digits.length < 6 ∧
      (digitOf 0x39).isSome = true ∧ digitOf 0x1A = none ∧ ((ctx .user).digits ≠ [] ∧ { ctx .user with digits := [] }.digits = []) ∧
      s.loader = .running ∧ OutputAtRest s ∧ (3 ≤ s.outRoom 0 ∧ two.outRoom 0 = 2) ∧
      (s.path[(0 : LineNo)].slot = none ∧ s.entersHold 0 = false ∧ s.path[(0 : LineNo)].tx = none) ∧
      busy.path[(0 : LineNo)].tx.isSome = true ∧ s.path[(0 : LineNo)].outQ.ok ∧ two.path[(0 : LineNo)].outQ.ok := by
  unfold OutputAtRest Queue.ok
  decide

/-- Table 3-3: BS, space and BS behind a transmitter that is sending; with room for two of them the third is counted. -/
theorem test_erasure_is_echoed :
    let s (k : Nat) := (signing (ctx .user)).setPath 0
      { (signing (ctx .user)).path[(0 : LineNo)] with tx := some 0x41, outQ := ⟨List.replicate k 0x41, 0⟩ }
    [0, 94].map (fun k =>
        seen (.characterReceived 0 0 0x08 (parityOf (s k) 0x08)) (s k) fun u =>
          (u.path[(0 : LineNo)].outQ.chars.drop k, u.counters.echoesLost)) =
      [some ([0x08, 0x20, 0x08], 0), some ([0x08, 0x20], 1)] := by decide

/-- A user number, an empty field at the second and at the third attempt; a code with an accountant to ask, and without one where
provisional admission is enabled and disabled. -/
theorem test_witness_CarriageReturnEndsAField :
    let empty (k : Nat) := { ctx .user with digits := [], attempts := k }
    let shut := { signing (ctx .code) with cfg := { up.cfg with noAccountant := true, provisionalEnable := false } }
    (signing (ctx .user)).st 0 = .signon ∧ parityPasses ((signing (ctx .user)).group 0).parity 0x0D true = true ∧ (ctx .user).user ≠ 0 ∧
      ((empty 1).user = 0 ∧ (empty 1).attempts + 1 < 3) ∧ 3 ≤ (empty 2).attempts + 1 ∧
      ((signing (ctx .code)).cfg.noAccountant = false ∧ ∃ i : Station, up.roster[i].age < 3 ∧ up.roster[i].roles.accountant = true) ∧
      { signing (ctx .code) with cfg := { up.cfg with noAccountant := true } }.cfg.provisionalEnable = true ∧
      (shut.cfg.noAccountant = true ∧ shut.cfg.provisionalEnable = false) ∧ OutputAtRest (signing (ctx .user)) ∧
      OutputAtRest (signing (empty 1)) := by
  unfold OutputAtRest
  decide

/-- R54, Table 3-3: CR in ASKING, CLAIMING and REFUSING, with the transmitter sending and idle: no echo and no count. -/
theorem test_carriage_return_is_discarded :
    let s (p : Phase) (tx : Option Byte) : State := (signing (ctx p)).setPath 0 { (signing (ctx p)).path[(0 : LineNo)] with tx := tx }
    ((s .asking none).path[(0 : LineNo)].slot = none ∧ (s .asking none).entersHold 0 = false) ∧
      ∀ p ∈ [Phase.asking, .claiming, .refusing], ∀ tx ∈ [none, some (0x41 : Byte)],
        (seen (.characterReceived 0 0 0x0D (parityOf (s p tx) 0x0D)) (s p tx) fun u =>
          (u.path[(0 : LineNo)].tx, u.path[(0 : LineNo)].outQ.chars, decide (u.counters = up.counters),
            decide (u.sign[(0 : LineNo)] = some (ctx p)))) = some (tx, [], true, true) := by decide

/-- The sign-on timer at its moment and one millisecond before it, in SENSE, with a claim raised, and in REFUSING; the reply wait likewise. -/
theorem test_witness_SignOnTimersRefuseOrAdmit :
    (signing (ctx .sense)).sign[(0 : LineNo)] = some (ctx .sense) ∧ (ctx .sense).phase ≠ .refusing ∧
      fallenDue (ctx .sense).signOnTimer 120000 = true ∧ fallenDue (ctx .sense).signOnTimer 119999 = false ∧
      { ctx .claiming with claimRaised := true }.claimRaised = true ∧ (ctx .refusing).phase = .refusing ∧
      ((ctx .asking).phase = .asking ∧ fallenDue (ctx .asking).replyWait 10000 = true ∧ fallenDue (ctx .asking).replyWait 9999 = false) ∧
      (signing (ctx .asking)).cfg.provisionalEnable = true ∧
      { signing (ctx .asking) with cfg := { up.cfg with provisionalEnable := false } }.cfg.provisionalEnable = false := by decide

/-- A provisional session whose confirmation waits, at the moment of its wait and before it, and a reply that matches it. -/
theorem test_witness_ConfirmationsAct :
    let x := { call with provisional := true, confirm := some ⟨7, some 10000, false⟩ }
    let p : ReplyPayload := ⟨0, 7, 0, 1, 2, 1, 14, 500⟩
    let q : ReplyPayload := ⟨0, 7, 2, 1, 2, 1, 14, 500⟩
    (talking x).sess[(0 : LineNo)] = some x ∧ x.confirm = some ⟨7, some 10000, false⟩ ∧ x.endMark = false ∧ (10000 : Nat) ≤ 10000 ∧
      (talking x).loader = .running ∧ (15 : Station) ≠ (talking x).station ∧ (talking x).bus = .active ∧
      (talking x).roster[(15 : Station)].roles.accountant = true ∧ (talking x).roster[(15 : Station)].age < 3 ∧
      p.line.toNat = (0 : LineNo).val ∧ p.serial = 7 ∧ (talking x).sign[(0 : LineNo)] = none ∧ x.provisional = true ∧ x.reason = none ∧
      (readReply p).verdict = .accept ∧ (readReply q).verdict ≠ .accept := by decide

/-- New allowances of 65,535, of 11 and of 10 more than the units so far, and of fewer; with and without a grace counter; with and without a grace
time. -/
theorem test_witness_ConfirmationsAct_allowances :
    let left (a : BitVec 16) : Option Nat := if a.toNat = 65535 then none else some (a.toNat - call.units)
    call.units = 0 ∧ left 65535 = none ∧ left 11 = some 11 ∧ up.cfg.warnThreshold = 10 ∧ left 10 = some (9 + 1) ∧
      left 1 = some (0 + 1) ∧ left 0 = some 0 ∧ { call with grace := some 3 }.grace.isSome = true ∧ call.grace.isSome = false ∧
      0 < up.cfg.graceTime ∧ ¬0 < { up.cfg with graceTime := 0 }.graceTime := by decide

/-- A reply from a station without the role, one for a line with neither context nor session, and one to a context in ASKING, for each
verdict and at the second and third attempt. -/
theorem test_witness_RepliesDecideOrAreStale :
    let p (v : Byte) : ReplyPayload := ⟨0, 7, v, 1, 2, 1, 14, 500⟩
    up.loader = .running ∧ (15 : Station) ≠ up.station ∧ up.bus = .active ∧ up.roster[(14 : Station)].roles.accountant = false ∧
      (∀ n : LineNo, (p 0).line.toNat = n.val → up.sign[n] = none ∧ up.sess[n] = none) ∧
      (up.roster[(15 : Station)].roles.accountant = true ∧ (p 0).line.toNat = (0 : LineNo).val ∧
        (signing (ctx .asking)).sign[(0 : LineNo)] = some (ctx .asking) ∧ (ctx .asking).phase = .asking ∧
        (ctx .asking).requestSerial = some (p 0).serial) ∧
      [0, 1, 2, 3, 4].map (fun v => (readReply (p v)).verdict) = [.accept, .unknown, .barred, .hours, .quota] ∧
      { ctx .asking with attempts := 1 }.attempts + 1 < 3 ∧ ¬{ ctx .asking with attempts := 2 }.attempts + 1 < 3 := by decide

/-- R45, R62: UNKNOWN sends M3 and M1 while an attempt is left, each empty message its CR LF; the third attempt only makes the refuse request. -/
theorem test_unknown_sends_the_sign_on_text :
    OutputAtRest (signing (ctx .asking)) ∧
      [0, 2].map (fun k =>
          seen (.admitReply 0 15 ⟨0, 7, 1, 1, 2, 1, 14, 500⟩) (signing { ctx .asking with attempts := k }) fun u =>
            (u.path[(0 : LineNo)].tx, u.path[(0 : LineNo)].outQ.chars)) =
        [some (some 0x0D, [0x0A, 0x0D, 0x0A]), some (none, [])] := by
  unfold OutputAtRest
  decide

/-- Replies that match nothing: another serial, a serial answered, a context in USER, one in CLAIMING that is not provisional or holds a reply, a
session that is not provisional, that closes, or whose confirmation is answered; and provisional contexts in CLAIMING, admitted and not. -/
theorem test_witness_RepliesDecideOrAreStale_matches :
    let c := { ctx .claiming with provisional := true, granted := some ⟨1, 1, 0, 14, 60⟩, claimRaised := true }
    let x := { call with provisional := true, confirm := some ⟨7, none, true⟩ }
    (ctx .asking).requestSerial ≠ some 8 ∧ { ctx .asking with answered := true }.answered = true ∧
      ((ctx .user).phase ≠ .asking ∧ (ctx .user).phase ≠ .claiming) ∧ ((ctx .claiming).phase = .claiming ∧ (ctx .claiming).provisional = false) ∧
      { c with heldReply := some ⟨.accept, ⟨1, 1, 0, 14, 60⟩⟩ }.heldReply.isSome = true ∧
      ((talking x).sign[(0 : LineNo)] = none ∧ (talking x).sess[(0 : LineNo)] = some x ∧ (talking x).roster[(15 : Station)].age < 3 ∧
        ∀ q ∈ x.confirm, q.serial ≠ 7 ∨ q.answered = true) ∧
      call.provisional = false ∧ { x with reason := some .idle }.reason ≠ none ∧
      ((signing c).sign[(0 : LineNo)] = some c ∧ c.phase = .claiming ∧ c.provisional = true ∧ c.heldReply = none ∧ c.answered = false ∧
        c.requestSerial = some 7 ∧ c.granted = some ⟨1, 1, 0, 14, 60⟩ ∧ c.admitted = false ∧ { c with admitted := true }.admitted = true) := by
  decide

/-- The own CLAIM of a context in CLAIMING on the wire. -/
theorem test_witness_ClaimDecisionChecksThreeLimits :
    let c := { ctx .claiming with sessionSerial := some 4, granted := some ⟨1, 2, 1, 14, 500⟩, claimRaised := true }
    let s := sending (.claim 0) .all (.claim 0 .new false c.user 4 14) (signing c)
    s.wire = some ⟨.claim 0, .all, .claim 0 .new false c.user 4 14⟩ ∧ s.sign[(0 : LineNo)] = some c ∧ c.phase = .claiming ∧
      c.sessionSerial = some 4 ∧ c.granted = some ⟨1, 2, 1, 14, 500⟩ ∧ c.claimRaised = true := by decide

/-- R52, R66, R155: a claim refused by a ceiling of 0 raises its RELEASE, and its echo puts the strikes and the discard streak at 0. -/
theorem test_refused_claim_raises_release :
    let c := { ctx .claiming with sessionSerial := some 4, granted := some ⟨1, 2, 1, 14, 500⟩, claimRaised := true }
    let s := sending (.claim 0) .all (.claim 0 .new false c.user 4 14) (signing c)
    let s := { s with streak := 2, reqs := [(.claim 0, ⟨false, 3⟩)], roster := s.roster.set 15 ⟨⟨false, true, false, true⟩, 0, false, 0, 0⟩ }
    seen (.claimEchoed 0) s (fun u => (u.asks[(0 : LineNo)].refuse, (u.req (.release 0)).pending, (u.req (.claim 0)).strikes, u.streak)) =
      some (some ⟨[.message 6], none⟩, true, 0, 0) := by decide

/-- A frame of another station to a running LC-16. -/
theorem test_witness_ClaimEntersThePresenceTable : up.loader = .running ∧ (5 : Station) ≠ up.station := by decide

/-- The last of the reasons, WITHDRAWN. -/
theorem test_witness_ReleaseRemovesOnlyItsOwnEntry :
    up.loader = .running ∧ (5 : Station) ≠ up.station ∧ (8 : Byte).toNat ≤ 8 := by decide

/-- The first reserved reason; destinations of this station, of another, and of every station; the own number. -/
theorem test_witness_RosterFollowsFrames :
    up.loader = .running ∧ (5 : Station) ≠ up.station ∧ 8 < (9 : Byte).toNat ∧ (3 : BitVec 5).toNat = up.station.val ∧
      ((15 : BitVec 5).toNat ≠ up.station.val ∧ (15 : BitVec 5).toNat < 16) ∧
      ((30 : BitVec 5).toNat ≠ up.station.val ∧ 30 ≤ (30 : BitVec 5).toNat) ∧ (3 : Station) = up.station ∧
      State.reset.loader ≠ .running ∧ (5 : Station) ≠ State.reset.station ∧ State.reset.wire = none ∧ { up with bus := .silent }.bus = .silent := by
  decide

/-- R159: in SILENT no frame addressed to this station takes effect: its sender stays absent, its line and slot as they are, and nothing is echoed. -/
theorem test_silent_takes_no_own_frame :
    let s := { talking call with bus := .silent, echo := true, roster := up.roster.set 15 ⟨⟨false, true, false, true⟩, 3, false, 4095, 0⟩ }
    [Instr.orderOut 0 15 0 0, .orderForceOff 0 15 0 0, .orderRestart 0 15 255 0, .chargeAck 0 15 0, .admitReply 0 15 ⟨0, 7, 1, 1, 2, 1, 14, 500⟩,
        .dataOut 0 15 0 0 [], .flow 0 15 0 1].map (fun c => seen c s fun u =>
          decide (u.echo = false ∧ u.roster[(15 : Station)].age = 3 ∧ u.sup[(0 : LineNo)].outPending = false ∧
            u.orderSlots[(0 : Fin 17)] = none ∧ u.counters.staleReplies = 0)) =
      List.replicate 7 (some true) := by decide

/-- A session with its line in HOLD, a forwarded line, a slot watching a tag, and both periods at their moments. -/
theorem test_witness_SurveysAndPeriodsReannounce :
    let s := { (talking call).setPath 0 { (talking call).path[(0 : LineNo)] with flow := some .hold } with
      refreshTimer := some 60000
      beaconTimer := some 10000
      cfg := { up.cfg with tags := up.cfg.tags.set 0 (some 5), slots := up.cfg.slots.set 0 ⟨.tag 5, .busy, false, false⟩ } }
    s.loader = .running ∧ (5 : Station) ≠ s.station ∧ s.st 0 = .session ∧ s.st 1 ≠ .session ∧ s.path[(0 : LineNo)].flow = some .hold ∧
      s.cfg.tags[(0 : LineNo)] = some 5 ∧ s.cfg.slots[(0 : Fin 32)].source = .tag 5 ∧ s.refreshTimer = some 60000 ∧
      s.beaconTimer = some 10000 ∧ 60000 ≤ max s.now 60000 := by decide

/-- R83, R129, R156: a claim aged out at the refresh takes the load below the ceiling, so line 0 leaves make-busy: its LINE-STATE request is raised at
the ageing and again by the refresh, which is coalesced. With nothing aged out it is raised once. -/
theorem test_presence_ageing_and_refresh_raise_apart :
    let s (ps : List Presence) := { line0 .idle with
      refreshTimer := some 60000, presence := ps, roster := up.roster.set 15 ⟨⟨false, true, false, false⟩, 0, false, 1, 0⟩
      cfg := { up.cfg with tags := up.cfg.tags.set 0 (some 5) } }
    ((s []).reqs = [] ∧ (∀ n : LineNo, (s []).st n ≠ .session ∧ (s []).sess[n] = none) ∧ OffersOk (s []) ∧ crossOk (s []).cfg) ∧
      ([[⟨7, 0, 3, 3, 2⟩], [⟨7, 0, 3, 3, 1⟩], []].map fun ps => seen (.refreshTimerExpiry 60000) (s ps) fun u =>
          (u.counters.requestsCoalesced, (u.req (.lineState 5)).pending, (s ps).mb 0, u.mb 0)) =
        [some (1, true, true, false), some (0, true, true, true), some (0, true, false, false)] := by
  unfold OffersOk crossOk
  decide

/-- A provisional session that may ask again for its confirmation; an accountant present, absent, and announcing a fresh start. -/
theorem test_witness_SurveysAndPeriodsReannounce_confirmations :
    let x := { call with provisional := true, confirm := some ⟨7, none, false⟩ }
    (talking x).sess[(0 : LineNo)] = some x ∧ (x.provisional && x.reason.isNone && !(talking x).cfg.noAccountant &&
        (x.confirm.all fun c => c.wait.isNone)) = true ∧ x.endMark = false ∧
      (∃ i : Station, up.roster[i].age < 3 ∧ up.roster[i].roles.accountant = true) ∧
      (∀ i : Station, ¬(State.reset.roster[i].age < 3 ∧ State.reset.roster[i].roles.accountant = true)) ∧
      (2 : Byte).getLsbD 1 = true ∧ ¬(up.roster[(5 : Station)].age < 3 ∧ up.roster[(5 : Station)].roles.accountant = true) ∧
      (up.roster[(15 : Station)].freshSeen = false ∧ (1 : Byte) ≠ 0) := by decide

/-- R60, R69: a session that asks at a refresh period, and one that END closes at it, take the request serial 255, and the counter goes on at 0; two
sessions are asking at once. -/
theorem test_confirmation_takes_the_next_serial :
    let x := { call with provisional := true, confirm := none }
    let s (x : Session) := { talking x with requestSerial := 255, refreshTimer := some 60000 }
    let two := ((talking x).setSup 1 (LineRec.fresh .session false true)).setSess 1 (some x)
    ([x, { x with endMark := true }].map fun x => seen (.refreshTimerExpiry 60000) (s x) fun u =>
        (u.requestSerial, u.sess[(0 : LineNo)].map fun y => (y.confirm, y.reason))) =
      [some (0, some (some ⟨255, some 70000, false⟩, none)), some (0, some (none, some .ended))] ∧
      (allLines.filter fun n => two.sess[n].any fun y => y.provisional && y.reason.isNone) = [0, 1] := by decide

/-- Edges 500 and 501 ms after the last tick, the watch timer at its moment; edges 899, 900, 1,100 and 1,101 ms after a candidate, the divider at
its moment. -/
theorem test_witness_TimebaseFollowsFailsAndReturns :
    let f := { up with timebase := ⟨.following, some 2000, some 3500, none, none⟩ }
    let g := { up with timebase := ⟨.fault, some 5500, none, some 6500, some 5900⟩ }
    f.timebase.mode = .following ∧ (∀ l ∈ f.timebase.lastTick, l + 500 < 2501) ∧ ¬(∀ l ∈ f.timebase.lastTick, l + 500 < 2500) ∧
      f.timebase.watch = some 3500 ∧ g.timebase.mode = .fault ∧ (∃ c ∈ g.timebase.candidate, c + 900 ≤ 6800 ∧ 6800 ≤ c + 1100) ∧
      (∃ c ∈ g.timebase.candidate, c + 900 ≤ 7000 ∧ 7000 ≤ c + 1100) ∧ ¬(∃ c ∈ g.timebase.candidate, c + 900 ≤ 6799 ∧ 6799 ≤ c + 1100) ∧
      ¬(∃ c ∈ g.timebase.candidate, c + 900 ≤ 7001 ∧ 7001 ≤ c + 1100) ∧ g.timebase.divider = some 6500 := by decide

/-- Holds that stand as they should; a returning edge 400 ms after the last tick; expiries one millisecond early. -/
theorem test_witness_TimebaseFollowsFailsAndReturns_no_tick :
    HoldOk (talking call) ∧ (∃ c ∈ some 5900, c + 900 ≤ 6900 ∧ 6900 ≤ c + 1100) ∧ ¬(∀ l ∈ some 6500, l + 500 < 6900) ∧
      fallenDue (some 3500) 3499 = false := by
  unfold HoldOk
  decide

/-- R94 to R96: an edge 500 ms after the last tick, a candidate edge, a returning edge 400 ms after the last tick, and the two expiries early and in
the other mode, meter no session and leave the clock; an edge 501 ms after the last tick does not. -/
theorem test_what_is_no_tick :
    let f := { talking call with timebase := ⟨.following, some 2000, some 3500, some 3000, none⟩ }
    let g := { talking call with timebase := ⟨.fault, some 6500, some 6800, some 7500, some 5900⟩ }
    [seen (.tbRisingEdge 2500) f, seen (.watchTimerExpiry 3499) f, seen (.internalDividerTick 3000) f, seen (.tbRisingEdge 6700) g,
        seen (.tbRisingEdge 6900) g, seen (.watchTimerExpiry 7000) g, seen (.internalDividerTick 7499) g, seen (.tbRisingEdge 2501) f].map
        (fun h => h fun u => (u.clock.second, u.sess[(0 : LineNo)].map Session.duration)) =
      List.replicate 7 (some (0, some 0)) ++ [some (1, some 1)] := by decide

/-- The three sources of a tick, and sessions that are metered, held and closing. -/
theorem test_witness_TickMetersEverySession :
    let f (x : Session) := { talking x with timebase := ⟨.following, some 2000, some 3500, none, none⟩ }
    let g := { talking call with timebase := ⟨.fault, some 5500, none, some 6500, none⟩ }
    ((f call).timebase.mode = .following ∧ ∀ l ∈ (f call).timebase.lastTick, l + 500 < max (f call).now 3000) ∧
      (∃ d ∈ (f call).timebase.watch, d ≤ max (f call).now 3500) ∧
      (g.timebase.mode = .fault ∧ ∃ d ∈ g.timebase.divider, d ≤ max g.now 6500) ∧
      ((f call).sess[(0 : LineNo)] = some call ∧ call.reason = none ∧ call.hold = none) ∧
      { call with hold := some 0 }.hold ≠ none ∧ { call with reason := some .idle }.reason ≠ none := by decide

/-- R103: units that pass their top, and a duration that stands at it, set SATURATED; units that reach the top do not. -/
theorem test_tick_saturates :
    let s (x : Session) : State :=
      { talking x with
        timebase := ⟨.following, some 2000, some 3500, none, none⟩
        cfg := { up.cfg with tariffs := Vector.replicate 4 { up.cfg.tariffs[(0 : Fin 4)] with rates := Vector.replicate 4 3600 } } }
    [{ call with units := 16777214 }, { call with units := 16777215 }, { call with duration := 16777215 }].map (fun x =>
        seen (.tbRisingEdge 3000) (s x) fun u => u.sess[(0 : LineNo)].map fun y => (y.units, y.saturated)) =
      [some (some (16777215, false)), some (some (16777215, true)), some (some (1, true))] := by decide

/-- R95: the failure of the reference sets TIMEBASE in an open and in a closing session; an edge that is a tick does not. -/
theorem test_failure_sets_timebase :
    let s (r : Option CloseReason) := { talking { call with reason := r } with timebase := ⟨.following, some 2000, some 3500, none, none⟩ }
    [seen (.watchTimerExpiry 3500) (s none), seen (.watchTimerExpiry 3500) (s (some .idle)), seen (.tbRisingEdge 3000) (s none)].map
        (fun f => f fun u => u.sess[(0 : LineNo)].map Session.timebase) =
      [some (some true), some (some true), some (some false)] := by decide

/-- The edge with which the reference returns as a tick; a tick at the end of a unit that brings the allowance to the threshold, to 0 with and
without a grace time, and a grace counter and an idle timer at their last second; held sessions one tick short of the limit and at it, their channel
station absent; a transmitter that is sending. -/
theorem test_witness_TickMetersEverySession_limits :
    let g := { talking call with timebase := ⟨.fault, some 5500, none, some 6500, some 5400⟩ }
    let x := { call with residue := 3599, remaining := some 11 }
    let rate := rateAt { Tariff.builtIn with rates := Vector.replicate 4 60 } up.clock.minute
    let sends := (talking x).setPath 0 { (talking x).path[(0 : LineNo)] with tx := some 0x41 }
    (g.timebase.mode = .fault ∧ (∀ l ∈ g.timebase.lastTick, l + 500 < max g.now 6400) ∧
        ∃ e ∈ g.timebase.candidate, e + 900 ≤ max g.now 6400 ∧ max g.now 6400 ≤ e + 1100) ∧
      ((x.residue + rate) / 3600 = 1 ∧ x.remaining.map (· - 1) = some 10 ∧ x.warned = false ∧ up.cfg.warnThreshold = 10) ∧
      ((some 1 : Option Nat).map (· - 1) = some 0 ∧ x.grace = none ∧ 0 < up.cfg.graceTime ∧ { up.cfg with graceTime := 0 }.graceTime = 0) ∧
      (∃ k ∈ { x with grace := some 1 }.grace, k ≤ 1) ∧ { x with idle := some 1 }.idle = some 1 ∧ { x with idle := some 61 }.idle = some 61 ∧
      (sends.st 0 = .session ∧ sends.entersHold 0 = false ∧ sends.path[(0 : LineNo)].slot = none ∧
        sends.path[(0 : LineNo)].tx.isSome = true) ∧
      (60 * up.cfg.channelLoss ≤ 299 + 1 ∧ 298 + 1 < 60 * up.cfg.channelLoss ∧
        ¬(up.roster[(5 : Station)].age < 3 ∧ up.roster[(5 : Station)].roles.channel = true)) := by decide

/-- Allowances unlimited, exhausted without and with a grace counter, with and without a grace time, and above 0; units at their top. -/
theorem test_witness_AllowanceIsTestedAndMeterFinished :
    { call with remaining := none }.remaining = none ∧ { call with remaining := some 0 }.remaining = some 0 ∧ call.grace = none ∧
      0 < up.cfg.graceTime ∧ { up.cfg with graceTime := 0 }.graceTime = 0 ∧ { call with grace := some 0 }.grace ≠ none ∧
      { call with remaining := some 10 }.remaining = some (9 + 1) ∧ { call with units := 16777215 }.units ≤ 16777215 := by decide

/-- The three limits reached, the last at the 300th held tick; and a session already closing. -/
theorem test_witness_LimitsCloseTheSession :
    (talking { call with idle := some 0 }).sess[(0 : LineNo)] = some { call with idle := some 0 } ∧ { call with idle := some 0 }.reason = none ∧
      { call with grace := some 0 }.grace = some 0 ∧
      (∃ h ∈ { call with hold := some 300 }.hold, 60 * (talking { call with hold := some 300 }).cfg.channelLoss ≤ h) ∧
      { call with reason := some .ended }.reason ≠ none := by decide

/-- A session open and not held that the beacon of a channel station without the role, a period, a discard, a clash make held, and one held by a
JOINING bus that the joining beacon frees; HOLD stands as the conditions call for, on a line that is sending with no text waiting. -/
theorem test_witness_LimitsCloseTheSession_holds :
    let s := (talking call).setPath 0 { (talking call).path[(0 : LineNo)] with tx := some 0x41 }
    let j := { talking { call with hold := some 9, held := true } with bus := .joining }
    (HoldOk s ∧ s.loader = .running ∧ s.sess[(0 : LineNo)] = some call ∧ call.reason = none ∧ call.hold = none ∧ s.st 0 = .session ∧
        s.path[(0 : LineNo)].slot = none ∧ s.path[(0 : LineNo)].tx.isSome = true) ∧
      (HoldOk j ∧ { call with hold := some 9 }.hold = some 9) ∧ HoldOk State.reset := by
  refine ⟨⟨?_, by decide⟩, ⟨?_, by decide⟩, ?_⟩ <;> unfold HoldOk <;> decide

/-- R109, R111: the clash begins a hold with its counter at 0, HELD set and M13 taken; the joining beacon ends one, and HELD stays. -/
theorem test_hold_begins_and_ends :
    let s := (talking call).setPath 0 { (talking call).path[(0 : LineNo)] with tx := some 0x41 }
    let j := { talking { call with hold := some 9, held := true } with bus := .joining }
    let b := j.beaconOut
    seen (.numberClash 0) s (fun u =>
        (u.sess[(0 : LineNo)].map fun y => (y.hold, y.held), decide (u.path[(0 : LineNo)].outQ.chars = textChars up.cfg ⟨[.message 13], none⟩))) =
        some (some (some 0, true), true) ∧
      seen (.joiningBeaconEchoed 0) (sending .beacon .all (.beacon b) j) (fun u => u.sess[(0 : LineNo)].map fun y => (y.hold, y.held)) =
        some (some (none, true)) := by decide

/-- A TIME frame of the clock station with the last values of its ranges. -/
theorem test_witness_TimeSetsTheClock :
    up.loader = .running ∧ (15 : Station) ≠ up.station ∧ up.roster[(15 : Station)].roles.clock = true ∧ (10079 : BitVec 16).toNat ≤ 10079 ∧
      (59 : Byte).toNat ≤ 59 := by decide

/-- A station without a session that is not restarting; a queue of two records. -/
theorem test_witness_RecordSerialPassesOverBearers :
    (∀ n : LineNo, up.sess[n] = none) ∧ up.restartPin = false ∧ up.loader ≠ .powerUp ∧
      { up with queue := [record 0 false, record 1 false] }.queue.length ≤ 32 := by decide

/-- An acknowledgement of another station, with the role and the record. -/
theorem test_witness_AcknowledgementRemovesItsRecord :
    up.loader = .running ∧ (15 : Station) ≠ up.station ∧ up.bus = .active ∧ up.roster[(15 : Station)].roles.accountant = true ∧
      ([record 36 true].any fun r => decide (r.charge.serial = 36)) = true := by decide

/-- An offered record behind another, its ack wait at its moment; its CHARGE frame on the wire. -/
theorem test_witness_OffersAreRepeatedUntilAcknowledged :
    let s := sending (.charge 37) .accountants (.charge (record 37 true).charge) { up with queue := [record 36 true, record 37 true] }
    s.loader = .running ∧ (∃ i : Station, s.roster[i].age < 3 ∧ s.roster[i].roles.accountant = true) ∧
      s.queue = [record 36 true] ++ record 37 true :: [] ∧ (∀ r ∈ [record 36 true], r.charge.serial ≠ (record 37 true).charge.serial) ∧
      (record 37 true).offered = true ∧ (record 37 true).ackWait = some 5000 ∧ 5000 ≤ max s.now 5000 ∧
      s.wire = some ⟨.charge 37, .accountants, .charge (record 37 true).charge⟩ ∧
      (record 37 true).charge.serial = (record 37 true).charge.serial := by decide

/-- Five records, none offered, when an accountant's beacon comes; the beacon period that finds the last accountant at age 2; a state whose offers
are as many as may stand. -/
theorem test_witness_OffersAreRepeatedUntilAcknowledged_offers :
    let s := { up with queue := (List.range 5).map fun k => record (BitVec.ofNat 8 k) false }
    let aged := { up with beaconTimer := some 10000, roster := up.roster.set 15 ⟨⟨false, true, false, true⟩, 2, false, 4095, 0⟩ }
    (s.loader = .running ∧ (15 : Station) ≠ s.station ∧ (2 : Byte).getLsbD 1 = true ∧ (∀ r ∈ s.queue, r.offered = false) ∧
        s.queue.length = 5) ∧
      (aged.beaconTimer = some 10000 ∧
        ∀ i : Station, aged.roster[i].roles.accountant = true → 3 ≤ if i = aged.station then aged.roster[i].age else aged.roster[i].age + 1) ∧
      OffersOk { up with queue := [record 36 true, record 37 true] } ∧
      ∃ u, exec (.chargeAck 0 15 36) { up with queue := [record 36 true, record 37 true] } = .next u := by
  refine ⟨?_, ?_, ?_, _, rfl⟩
  · decide
  · decide
  · unfold OffersOk
    decide

/-- A LINE-STATE of another station, and the own one on the wire. -/
theorem test_witness_LineStateSetsItsSlots :
    let s := sending (.lineState 5) .all (.lineState 5 ⟨true, false, false, false, true⟩) up
    s.loader = .running ∧ (5 : Station) ≠ s.station ∧ s.wire = some ⟨.lineState 5, .all, .lineState 5 ⟨true, false, false, false, true⟩⟩ := by
  decide

/-- R129: lines 0 and 1 with the forward tags 5 and 6: a first burst makes line 0 BUSY, and only its LINE-STATE is raised. -/
theorem test_signal_change_raises_line_state :
    let s := up.setSup 0 { LineRec.fresh .idle true false with burst := some 1000 }
    let s := { s with cfg := { s.cfg with tags := (s.cfg.tags.set 0 (some 5)).set 1 (some 6) } }
    s.loader = .running ∧ s.cfg.tags[(0 : LineNo)] = some 5 ∧
      seen (.riFallingEdge 3000 0) s (fun u => (u.st 0, (u.req (.lineState 5)).pending, (u.req (.lineState 6)).pending)) =
        some (.ringing, true, false) := by decide

/-- A begin request for a line in IDLE, in OUT and in SESSION; the end request of a run. -/
theorem test_witness_ProvingBeginsAndEnds :
    let a : Asks := { Asks.fresh with begin := [⟨15, .idle, 20⟩], endRun := some .pass }
    ((line0 .idle).setAsks 0 a).asks[(0 : LineNo)].begin = ⟨15, .idle, 20⟩ :: [] ∧ (line0 .idle).st 0 = .idle ∧ (line0 .out).st 0 = .out ∧
      ((line0 .session).st 0 ≠ .idle ∧ (line0 .session).st 0 ≠ .out) ∧
      (((line0 .proving).setAsks 0 a).asks[(0 : LineNo)].endRun = some .pass ∧ (line0 .proving).st 0 = .proving) := by decide

/-- R7, R143: a request that finds the line in SESSION raises its RESULT; a passing run that began in IDLE ends there with a burst open where RI is
active. -/
theorem test_proving_aborts_and_returns :
    let b := (line0 .session).setAsks 0 { Asks.fresh with begin := [⟨15, .idle, 20⟩] }
    let e (ri : Bool) : State :=
      (up.setSup 0 (LineRec.fresh .proving ri true)).setAsks 0 { Asks.fresh with endRun := some .pass }
    seen (.beginProving 0 0) b (fun u => (u.req (.runResult 0)).pending) = some true ∧
      [true, false].map (fun ri => seen (.endProving 7000 0) (e ri) fun u => (u.st 0, u.sup[(0 : LineNo)].burst)) =
        [some (.idle, some 7000), some (.idle, none)] := by decide

/-- A waiting run whose carrier qualifies at its 400th millisecond; the three ends of a run at their moments. -/
theorem test_witness_ProvingRunsToAVerdict :
    let w := { Run.fresh with phase := .waiting, qual := some 1300, carrierWait := some 5000 }
    let r := { Run.fresh with phase := .running, dropout := some 1000, runTimer := some 21700 }
    ((proving w).st 0 = .proving ∧ w.phase = .waiting ∧ (proving w).sup[(0 : LineNo)].cd = true ∧
        ∃ b ∈ w.qual, b + up.cfg.times.carrierQualify ≤ 1700) ∧
      (∃ d ∈ w.carrierWait, d ≤ 5000) ∧
      (r.phase = .running ∧ (lost (proving r)).sup[(0 : LineNo)].cd = false ∧ ∃ b ∈ r.dropout, b + up.cfg.times.carrierLoss ≤ 1400) ∧
      (∃ d ∈ r.runTimer, d ≤ 21700) := by decide

/-- R146: "The first character sent is therefore FFh". -/
theorem test_pattern_begins_with_the_run :
    let w := { Run.fresh with phase := .waiting, qual := some 1300, carrierWait := some 5000 }
    seen (.provingCarrierQualified 1700 0) (proving w) (fun u => (u.run[(0 : LineNo)].phase, u.path[(0 : LineNo)].tx)) =
      some (.running, some 0xFF) := by decide

/-- A loaded register, the character that the pattern goes on with and one with a wrong bit; a register with 8 stages loaded; the clean run at 14 and
at 15 without lock; the errored run at 6 and at 7 with lock. -/
theorem test_witness_CheckerClassesCharacters :
    let r := { Run.fresh with phase := .running, checker := 0x1FF, loaded := 9 }
    let bit (data : Byte) (i : Fin 8) : Bool :=
      r.checker.getLsbD (8 - i) ^^ (if i.val < 5 then r.checker.getLsbD (4 - i) else data.getLsbD (i - 5))
    (proving r).run[(0 : LineNo)].phase = .running ∧ (proving Run.fresh).run[(0 : LineNo)].phase ≠ .running ∧
      (9 ≤ r.loaded ∧ { r with loaded := 8 }.loaded < 9) ∧ (∀ i : Fin 8, (0xE0 : Byte).getLsbD i = bit 0xE0 i) ∧
      ¬(∀ i : Fin 8, (0xE1 : Byte).getLsbD i = bit 0xE1 i) ∧ r.locked = false ∧
      ({ r with cleanRun := 14 }.cleanRun + 1 < 16 ∧ 16 ≤ { r with cleanRun := 15 }.cleanRun + 1) ∧
      ({ r with locked := true, erroredRun := 6 }.locked = true ∧ { r with locked := true, erroredRun := 6 }.erroredRun + 1 < 8) ∧
      8 ≤ { r with locked := true, erroredRun := 7 }.erroredRun + 1 := by decide

/-- R148: a clean character at a clean run of 14 and of 15; a clean and an errored one with lock at an errored run of 6, an errored one at 7. -/
theorem test_sixteenth_clean_character_locks :
    let r := { Run.fresh with phase := .running, checker := 0x1FF, loaded := 9 }
    let l (k : Nat) := { r with locked := true, lockReached := true, erroredRun := k }
    ([14, 15].map fun k =>
        let u := Run.character { r with cleanRun := k } 0xE0 false
        (u.cleanRun, u.locked, u.lockReached)) = [(15, false, false), (0, true, true)] ∧
      ([(l 6, false), (l 6, true), (l 7, true)].map fun (x, bad) =>
        let u := x.character 0xE0 bad
        (u.erroredRun, u.checked, u.errored, u.locked, u.lockLosses, u.loaded)) =
        [(0, 1, 0, true, 0, 9), (7, 1, 1, true, 0, 9), (0, 1, 1, false, 1, 0)] := by decide

/-- A request of level 2 before one of level 5 in an ACTIVE bus, and a beacon alone in a JOINING one; a CLAIM whose line has no session, which
finds nothing to build, before another frame and alone; a bus with nothing allowed. -/
theorem test_witness_SelectorStartsThePreferredFrame :
    let s := (up.raise (.lineState 5)).raise .survey
    let d := (up.raise .survey).raise (.claim 0)
    RequestsOk s ∧ s.queue.length ≤ 32 ∧ s.wire = none ∧ s.bus = .active ∧
      s.reqs.map (·.1) = [.survey, .lineState 5] ∧ (s.req .survey).pending = true ∧ s.build .survey = some (.all, .survey) ∧
      (d.reqs.map (·.1) = [.claim 0, .survey] ∧ d.build (.claim 0) = none ∧ d.build .survey = some (.all, .survey)) ∧
      ((up.raise (.claim 0)).reqs.map (·.1) = [.claim 0] ∧ (up.raise (.claim 0)).build (.claim 0) = none) ∧
      (let j := { up with bus := .joining }.raise .beacon
       j.reqs.map (·.1) = [.beacon] ∧ (j.build .beacon).isSome = true) ∧
      (sending .survey .all .survey up).wire ≠ none ∧ { up with bus := .silent }.bus = .silent ∧ RequestsOk up ∧ up.reqs = [] := by
  unfold RequestsOk
  decide

/-- What the frames are built from: sessions and contexts that ask, a queue with a flag behind 3 characters, channel-hold, records offered and
not, a tag borne by two lines, a result slot with counters. -/
theorem test_witness_SelectorStartsThePreferredFrame_build :
    let k : Confirm := ⟨7, some 5000, false⟩
    let x := { call with provisional := true, confirm := some k }
    let c := { ctx .claiming with sessionSerial := some 4, granted := some ⟨1, 2, 1, 14, 500⟩ }
    let f := (typed 20 x).setPath 0 { (typed 20 x).path[(0 : LineNo)] with attention := true, mark := some 3 }
    (((talking x).setClaims 0 { Claims.fresh with admitConfirm := true }).claims[(0 : LineNo)].admitConfirm = true ∧ (talking x).st 0 = .session ∧
        (talking x).sess[(0 : LineNo)] = some x ∧ x.confirm = some k ∧ x.provisional = true ∧ x.reason = none ∧ call.provisional = false) ∧
      (f.path[(0 : LineNo)].mark = some (min (min 14 f.path[(0 : LineNo)].inQ.chars.length) 3) ∧
        (f.roster[x.channel].age < 3 ∧ f.roster[x.channel].roles.channel = true) ∧ f.bus = .active) ∧
      (typed 0 x).path[(0 : LineNo)].inQ.chars.length = 0 ∧
      ((signing c).st 0 = .signon ∧ (signing c).sign[(0 : LineNo)] = some c ∧ c.phase = .claiming ∧ c.sessionSerial = some 4 ∧
        c.granted = some ⟨1, 2, 1, 14, 500⟩) ∧
      ((ctx .refusing).phase ≠ .claiming ∧ (ctx .asking).requestSerial = some 7 ∧ up.claims[(0 : LineNo)].admitConfirm = false) ∧
      (up.st 0 ≠ .signon ∧ up.st 0 ≠ .session) ∧
      ([record 36 true, record 37 true] = [record 36 true] ++ record 37 true :: [] ∧
        ∀ r ∈ [record 36 true], r.charge.serial ≠ (record 37 true).charge.serial) ∧
      (∀ r ∈ [record 36 false], r.charge.serial = 36 → r.offered = false) ∧
      (let tags := (up.cfg.tags.set 1 (some 5)).set 2 (some 5)
       tags[(1 : LineNo)] = some 5 ∧ ∀ m : LineNo, m < 1 → tags[m] ≠ some 5) ∧
      { up with orderSlots := up.orderSlots.set 3 (some ⟨15, .report, 3, .reportData 1 true⟩) }.orderSlots[(3 : Fin 17)] =
        some ⟨15, .report, 3, .reportData 1 true⟩ := by decide

/-- Table 11-3, by hand: the bytes of a BEACON, a CHARGE without a start minute, a CLAIM, an ADMIT-REQ and a PROVING-RESULT. -/
theorem test_payload_bytes :
    FrameBody.payload (.beacon ⟨true, false, true, 3, 2, 10, 30, 7⟩) = [0x01, 0x01, 0x00, 0x01, 3, 2, 10, 30, 0x70, 0x00] ∧
      FrameBody.payload (.charge ⟨37, 2, 40117, none, 705, 13, .idle, true, false, true, false, false, true⟩) =
        [37, 2, 0x04, 0x01, 0x17, 0xFF, 0xFF, 0, 0x02, 0xC1, 0, 0, 13, 2, 0x25] ∧
      FrameBody.payload (.claim 9 .surveyAnswer true 40117 2044 14) = [9, 0x82, 0x04, 0x01, 0x17, 0x07, 0xFC, 14] ∧
      FrameBody.payload (.admitReq 9 5 false 40117 [0x41, 0x42]) = [9, 5, 2, 0x04, 0x01, 0x17, 0x41, 0x42, 0, 0, 0, 0, 0, 0] ∧
      FrameBody.payload (.runResult 4 ⟨15, .noLock, .b1200, 258, 3, 1, true⟩) = [4, 4, 5, 2, 4, 0, 1, 2, 3, 1, 1] := by decide

/-- The seventh and the eighth strike of frames to a station, to the accountants and to all; the third discard in a row and a joining
beacon. -/
theorem test_witness_StrikesRepeatAndDiscard :
    let s (k : Nat) := (sending (.flow 0) (.station 14) (.flow 0 .hold) up).setReq (.flow 0) ⟨false, k⟩
    let r := sending (.orderResult 0) (.station 15) (.orderResult ⟨15, .out, 0, .done⟩ []) up
    (s 6).wire = some ⟨.flow 0, .station 14, .flow 0 .hold⟩ ∧ ((s 6).req (.flow 0)).strikes + 1 < 8 ∧ 8 ≤ ((s 7).req (.flow 0)).strikes + 1 ∧
      (14 : Station) ≠ up.station ∧ 2 ≤ { up with streak := 2 }.streak ∧ { up with bus := .joining }.bus = .joining ∧
      r.wire = some ⟨.orderResult 0, .station 15, .orderResult ⟨15, .out, 0, .done⟩ []⟩ := by decide

/-- R155: at its eighth strike a request is dropped with the raising of it made while its frame was on the wire; at its seventh it stands pending. -/
theorem test_discard_drops_the_request :
    let s (i : ReqId) (b : FrameBody) (k : Nat) : State := (sending i .all b up).setReq i ⟨true, k⟩
    [(ReqId.survey, FrameBody.survey), (.claim 0, .claim 0 .refresh false 40117 4 14), (.beacon, .beacon up.beaconOut),
        (.admitReq 0, .admitReq 0 7 false 40117 [])].map (fun (i, b) =>
          [6, 7].map fun k => seen (.strike 0) (s i b k) fun u => ((u.req i).pending, (u.req i).strikes)) =
      List.replicate 4 [some (true, 7), some (false, 0)] := by decide

/-- R81: a RELEASE discarded at its eighth strike takes the own claim with its serial, and leaves one with another. -/
theorem test_discarded_release_ends_its_own_claim :
    let s (serial : BitVec 16) : State :=
      { sending (.release 0) .all (.release 0 ⟨40117, 4, .withdrawn⟩) up with reqs := [(.release 0, ⟨true, 7⟩)] }.setClaims 0
        ⟨some ⟨40117, serial⟩, some ⟨40117, 4, .withdrawn⟩, false, false⟩
    [4, 5].map (fun k => seen (.strike 0) (s k) fun u => (u.claims[(0 : LineNo)].own, u.claims[(0 : LineNo)].release, u.wire)) =
      [some (none, none, none), some (some ⟨40117, 5⟩, none, none)] := by decide

/-- R39: a DATA-IN frame that loses arbitration, takes its first strike and takes its eighth: the queue, the flag and the mark stand, and nothing is in
flight; the eighth marks the channel station absent. -/
theorem test_data_in_keeps_its_characters :
    let s (k : Nat) : State :=
      { sending (.dataIn 0) (.station 14) (.dataIn 0 true false [0x41]) (typed 2 call) with reqs := [(.dataIn 0, ⟨false, k⟩)] }
    let f (k : Nat) : State :=
      (s k).setPath 0 { (s k).path[(0 : LineNo)] with
        attention := true, mark := some 1, inFlight := some ⟨1, true, false, false, false⟩ }
    [seen (.arbitrationLost 0) (f 0), seen (.strike 0) (f 0), seen (.strike 0) (f 7)].map (fun g => g fun u =>
        let p := u.path[(0 : LineNo)]
        (decide (p.inQ.chars = [0x41, 0x41] ∧ p.attention = true ∧ p.mark = some 1 ∧ p.inFlight = none), u.roster[(14 : Station)].age)) =
      [some (true, 0), some (true, 0), some (true, 3)] := by decide

/-- A DATA-IN frame in flight, and one whose session has ended. -/
theorem test_witness_DataInEchoRemovesItsCharacters :
    let s := sending (.dataIn 0) (.station 14) (.dataIn 0 false false [0x41]) (typed 1 call)
    let f := s.setPath 0 { s.path[(0 : LineNo)] with inFlight := some ⟨1, false, false, false, false⟩ }
    s.wire = some ⟨.dataIn 0, .station 14, .dataIn 0 false false [0x41]⟩ ∧ s.path[(0 : LineNo)].inFlight = none ∧
      f.path[(0 : LineNo)].inFlight = some ⟨1, false, false, false, false⟩ ∧
      (((typed 17 call).group 0).xonXoff = true ∧ (typed 17 call).path[(0 : LineNo)].inQ.chars.length - 1 ≤ 8 * ((typed 17 call).group 0).inAllowance ∧
        ¬(typed 18 call).path[(0 : LineNo)].inQ.chars.length - 1 ≤ 8 * ((typed 18 call).group 0).inAllowance) := by decide

/-- A line one character short of a forwarding trigger. -/
theorem test_witness_DataInEchoRemovesItsCharacters_due :
    DataInOk (typed 13 call) ∧ ¬(typed 13 call).forwardingDue 0 := by
  have hp : ∀ n : LineNo, ((typed 13 call).path[n].inQ.chars.all (· ≠ 0x0D) && decide ((typed 13 call).path[n].inQ.chars.length < 14) &&
      !(typed 13 call).path[n].fwdDue && !(typed 13 call).path[n].attention && !(typed 13 call).path[n].brk) = true := by decide
  have h : ∀ n : LineNo, ¬(typed 13 call).forwardingDue n := by
    rintro n ⟨-, -, ht⟩
    have hn := hp n
    simp only [Bool.and_eq_true, List.all_eq_true, decide_eq_true_eq, Bool.not_eq_true'] at hn
    obtain ⟨⟨⟨⟨hc, hl⟩, hf⟩, ha⟩, hb⟩ := hn
    rcases ht with ht | ht | ht | ht | ht
    · exact hc _ ht rfl
    · omega
    · exact Bool.noConfusion (hf.symm.trans ht)
    · exact Bool.noConfusion (ha.symm.trans ht)
    · exact Bool.noConfusion (hb.symm.trans ht)
  exact ⟨fun _ n hn => absurd hn (h n), h 0⟩

/-- R37: the 14th character, a CR, a BREAK, the forwarding timer, and the end of channel-hold with 14 characters, each raise DATA-IN; the 13th
character does not. -/
theorem test_forwarding_triggers_raise_data_in :
    let p := (typed 3 call).path[(0 : LineNo)]
    [seen (.characterReceived 0 0 0x41 (parityOf (typed 13 call) 0x41)) (typed 13 call),
        seen (.characterReceived 0 0 0x0D (parityOf (typed 0 call) 0x0D)) (typed 0 call), seen (.lineBreak 0 0) (typed 0 call),
        seen (.forwardingTimerExpiry 50 0) ((typed 3 call).setPath 0 { p with fwdTimer := some 50 }),
        seen (.flow 0 14 0 0) ((typed 3 call).setPath 0 { p with channelHold := true, inQ := ⟨List.replicate 14 0x41, 0⟩ }),
        seen (.characterReceived 0 0 0x41 (parityOf (typed 12 call) 0x41)) (typed 12 call)].map
        (fun f => f fun u => (u.req (.dataIn 0)).pending) =
      [some true, some true, some true, some true, some true, some false] := by decide

/-- R39: a frame of two characters that carried the ATTENTION flag, a BREAK taken since the build behind the third: ATTENTION is cleared, and BREAK and
the mark stay, two places nearer the head. -/
theorem test_flag_mark_follows_its_characters :
    let s := sending (.dataIn 0) (.station 14) (.dataIn 0 true false [0x41, 0x41]) (typed 3 call)
    let p := { s.path[(0 : LineNo)] with inFlight := some ⟨2, true, false, false, false⟩, attention := true, brk := true, mark := some 3 }
    seen (.dataInEchoed 0) (s.setPath 0 p) (fun u =>
        let q := u.path[(0 : LineNo)]
        (q.inQ.chars, q.attention, q.brk, q.mark)) = some ([0x41], false, true, some 1) := by decide

/-- Each kind of own frame on the wire. -/
theorem test_witness_EchoesOfOwnFrames :
    let b : BeaconOut := up.beaconOut
    (sending (.release 0) .all (.release 0 ⟨40117, 4, .withdrawn⟩) up).wire = some ⟨.release 0, .all, .release 0 ⟨40117, 4, .withdrawn⟩⟩ ∧
      ((sending .beacon .all (.beacon b) { up with bus := .joining }).wire = some ⟨.beacon, .all, .beacon b⟩ ∧
        (sending .beacon .all (.beacon b) { up with bus := .joining }).bus = .joining) ∧
      ([0, 1, 2].all fun g : Fin 3 =>
        decide ((sending (.orderResult 0) (.station 15) (.orderResult ⟨15, .report, 0, .reportData g true⟩ []) up).wire =
          some ⟨.orderResult 0, .station 15, .orderResult ⟨15, .report, 0, .reportData g true⟩ []⟩)) = true ∧
      (sending (.runResult 0) (.station 15) (.runResult 0 ⟨15, .pass, .b300, 0, 0, 0, true⟩) up).wire =
        some ⟨.runResult 0, .station 15, .runResult 0 ⟨15, .pass, .b300, 0, 0, 0, true⟩⟩ ∧
      (sending .survey .all .survey up).wire = some ⟨.survey, .all, .survey⟩ ∧ up.bus ≠ .joining := by decide

/-- R155: the echo of a RELEASE, a CLAIM, a beacon and a SURVEY to 31 puts the strike count and the discard streak at 0; that of a RESULT to one
station leaves the streak. -/
theorem test_echo_returns_strikes_and_streak :
    let s (i : ReqId) (d : Dest) (b : FrameBody) : State := { (sending i d b up).setReq i ⟨false, 5⟩ with streak := 2 }
    let j : State := { s .beacon .all (.beacon up.beaconOut) with bus := .joining }
    [seen (.releaseEchoed 0) (s (.release 0) .all (.release 0 ⟨40117, 4, .withdrawn⟩)),
        seen (.claimEchoed 0) (s (.claim 0) .all (.claim 0 .refresh false 40117 4 14)), seen (.joiningBeaconEchoed 0) j,
        seen (.ownFrameOnBus 0) (s .survey .all .survey),
        seen (.resultEchoed 0) (s (.orderResult 0) (.station 15) (.orderResult ⟨15, .out, 0, .done⟩ []))].map (fun f => f fun u =>
          ((u.req (.release 0)).strikes + (u.req (.claim 0)).strikes + (u.req .beacon).strikes + (u.req .survey).strikes +
            (u.req (.orderResult 0)).strikes, u.streak)) =
      List.replicate 4 (some (0, 0)) ++ [some (0, 2)] := by decide

/-- CLAIM of kind REFRESH, and of kind NEW with the context in REFUSING and gone; a part at rest. -/
theorem test_witness_EchoesOfOwnFrames_claims :
    (sending (.claim 0) .all (.claim 0 .refresh false 40117 4 14) (talking call)).wire =
        some ⟨.claim 0, .all, .claim 0 .refresh false 40117 4 14⟩ ∧
      ClaimKind.refresh ≠ .new ∧
      (∀ c ∈ (signing (ctx .refusing)).sign[(0 : LineNo)], c.phase ≠ .claiming ∨ c.sessionSerial ≠ some 4) ∧
      (∀ c ∈ up.sign[(0 : LineNo)], c.phase ≠ .claiming ∨ c.sessionSerial ≠ some 4) ∧
      AtRest (sending (.orderResult 0) (.station 15) (.orderResult ⟨15, .report, 0, .reportData 1 true⟩ []) (talking call)) := by
  unfold AtRest OutputAtRest OffersOk
  decide

/-- A running LC-16; the quiet interval at its moment and before it. -/
theorem test_witness_FaultsClashesAndSilence :
    let s := { up with bus := .silent, quietTimer := some 2000 }
    s.loader = .running ∧ s.bus = .silent ∧ fallenDue s.quietTimer (max s.now 2000) = true ∧
      fallenDue s.quietTimer (max s.now 1999) = false ∧ up.bus ≠ .silent := by decide

/-- For every kind that is taken, a well-formed frame of station 15 to the destination of Table 9-1; the own number; a bad CRC; another
destination. -/
theorem test_witness_FaultsClashesAndSilence_frames :
    let frame (level : BitVec 3) (kind dest : BitVec 5) (payload : List Byte) : RawFrame :=
      let f : RawFrame := ⟨level, kind, 15, dest, BitVec.ofNat 5 payload.length, payload, 0⟩
      { f with crc := crcOf (coveredBits f) }
    ([frame 0 0 31 (List.replicate 3 0), frame 1 1 31 (List.replicate 10 0), frame 1 2 3 [0, 0], frame 2 3 31 (List.replicate 7 0),
        frame 2 4 31 (List.replicate 8 0), frame 2 5 31 [], frame 3 7 3 (List.replicate 9 0), frame 3 8 3 [9, 0, 0, 0], frame 4 10 3 [0],
        frame 5 11 31 [0, 0], frame 6 13 3 [0, 0], frame 6 13 3 (List.replicate 16 0), frame 6 13 4 [0, 0], frame 3 6 30 (List.replicate 14 0)].all
          fun f => frameWellFormed f && f.source.toNat = (15 : Station).val && f.payload.length = f.length.toNat) = true ∧
      frameWellFormed { frame 2 5 31 [] with crc := 0 } = false ∧ (15 : Station) ≠ 3 ∧
      0 < (frameBits (frame 2 5 31 [])).length := by decide

/-- A DATA-OUT one character above the room, and one that fills it; one from the wrong station; FLOW from the session's station and from
another, with the last known and the first reserved state. -/
theorem test_witness_ChannelFramesAreAcceptedOrRefused :
    let s := { talking call with free := 0 }
    let q := (talking call).setPath 0 { (talking call).path[(0 : LineNo)] with outQ := ⟨List.replicate 82 0x41, 0⟩ }
    s.loader = .running ∧ (14 : Station) ≠ s.station ∧ s.bus = .active ∧ (s.dataOutLine 14 0 = some 0 ∧ s.roomFor 0 false < 1) ∧
      (q.dataOutLine 14 0 = some 0 ∧ q.roomFor 0 false = 14 ∧ q.sess[(0 : LineNo)] = some call ∧ ∀ m : LineNo, q.entersHold m = false) ∧
      s.dataOutLine 15 0 = none ∧ ((0 : Byte).toNat = (0 : LineNo).val ∧ (s.sessionOf 0 14).isSome = true) ∧
      (s.sessionOf 0 15).isSome = false ∧ 2 ≤ (2 : Byte).toNat := by decide

/-- R43: channel-hold of a session of station 14 ends with that station's beacon without CHANNEL, with its fresh start and with its third period
unheard; it stands at a beacon that has neither, at another station's fresh start and at its second period. -/
theorem test_channel_hold_ends_with_its_station :
    let h := (talking call).setPath 0 { (talking call).path[(0 : LineNo)] with channelHold := true }
    let aged (k : Nat) : State :=
      { h with beaconTimer := some 0, roster := h.roster.set 14 { h.roster[(14 : Station)] with age := k, freshSeen := true } }
    [seen (.beacon 0 14 ⟨2, 0, 0, 0, 0, 0, 0, 0, 0⟩) h, seen (.beacon 0 14 ⟨4, 1, 0, 0, 0, 0, 0, 0, 0⟩) h, seen (.beaconPeriodExpiry 0) (aged 2),
        seen (.beacon 0 14 ⟨4, 0, 0, 0, 0, 0, 0, 0, 0⟩) h, seen (.beacon 0 15 ⟨4, 1, 0, 0, 0, 0, 0, 0, 0⟩) h,
        seen (.beaconPeriodExpiry 0) (aged 1)].map (fun f => f fun u => u.path[(0 : LineNo)].channelHold) =
      [some false, some false, some false, some true, some true, some true] := by decide

/-- R41: a DATA-OUT with END and no character for a line that is drained closes its session with ENDED; with a character waiting it does not, unless
FLUSH removes it. -/
theorem test_end_of_a_drained_line :
    let w := (talking call).setPath 0 { (talking call).path[(0 : LineNo)] with outQ := ⟨[0x41], 0⟩, paused := true }
    [seen (.dataOut 0 14 0 4 []) (talking call), seen (.dataOut 0 14 0 4 []) w, seen (.dataOut 0 14 0 12 []) w].map (fun f =>
        f fun u => (u.sess[(0 : LineNo)].bind Session.reason, u.asks[(0 : LineNo)].close)) =
      [some (some .ended, true), some (none, false), some (some .ended, true)] := by decide

/-- Line 0 sending in SESSION, with an allowance of 6 blocks: GO with 17 characters of outbound room, and HOLD with 32 and a block about to return. -/
def roomy (f : FlowState) : State :=
  (talking call).setPath 0
    { (talking call).path[(0 : LineNo)] with
      tx := some 0x41, flow := some f
      outQ := match f with
        | .go => ⟨List.replicate 79 0x41, 0⟩
        | .hold => ⟨List.replicate 49 0x41, 15⟩ }

/-- FLOW states that stand as their rooms call for. -/
theorem test_witness_ChannelFramesAreAcceptedOrRefused_states :
    (LoadingOk (roomy .go) ∧ FlowOk (roomy .go) ∧ 3 ≤ ((roomy .go).group 0).allowance ∧ (roomy .go).outRoom 0 = 17) ∧
      LoadingOk (roomy .hold) ∧ FlowOk (roomy .hold) ∧ (roomy .hold).outRoom 0 = 32 := by
  refine ⟨⟨fun hl => absurd rfl hl, ?_, by decide, by decide⟩, fun hl => absurd rfl hl, ?_, by decide⟩ <;> unfold FlowOk <;> decide

/-- R42: at a room of 16 GO turns to HOLD, and at 48 HOLD to GO, each with its request. -/
theorem test_flow_state_follows_room :
    [seen (.dataOut 0 14 0 0 [0x42]) (roomy .go), seen (.characterSent 0 0) (roomy .hold)].map (fun f => f fun u =>
        (u.st 0, u.outRoom 0, u.path[(0 : LineNo)].flow, (u.req (.flow 0)).pending)) =
      [some (.session, 16, some .hold, true), some (.session, 48, some .go, true)] := by decide

/-- R42: a session that begins with more room than 16 has GO and with a room of 16 HOLD; a line that leaves SESSION has no FLOW state. -/
theorem test_flow_state_begins_and_ends :
    let c := { ctx .claiming with admitted := true, granted := some ⟨1, 2, 1, 14, 500⟩, sessionSerial := some 4 }
    let e := (signing c).setAsks 0 { Asks.fresh with establish := true }
    [seen (.establish 0 0) e, seen (.establish 0 0) { e with free := 1 }, seen (.disconnect 1400 0) (lost (talking call))].map (fun f =>
        f fun u => (u.st 0, u.path[(0 : LineNo)].flow, (u.req (.flow 0)).pending)) =
      [some (.session, some .go, false), some (.session, some .hold, true), some (.hangup, none, false)] := by decide

/-- A transmitter that sends, one that is idle with each flow character owed, one that is paused, and one that takes the first character; FLUSH
set and clear. -/
theorem test_witness_ChannelFramesAreAcceptedOrRefused_characters :
    let p := (talking call).path[(0 : LineNo)]
    p.slot = none ∧ { p with tx := some 0x41 }.tx.isSome = true ∧ p.tx = none ∧ { p with owed := some .xon }.owed = some .xon ∧
      { p with owed := some .xoff }.owed = some .xoff ∧ { p with paused := true }.paused = true ∧ p.owed = none ∧ p.paused = false ∧
      (Queue.empty.append ([0xC1].map fun b : Byte => b.setWidth 7)).chars = 0x41 :: [] ∧ (8 : Byte).getLsbD 3 = true ∧
      (7 : Byte).getLsbD 3 = false ∧ ([] : List Byte).length ≤ (talking call).roomFor 0 true := by decide

/-- An order of station 5, without a role, and one of station 15 for lines 16 and 254. -/
theorem test_witness_OrdersAreCheckedFirst :
    up.loader = .running ∧ (5 : Station) ≠ up.station ∧ up.bus = .active ∧
      (up.roster[(5 : Station)].roles.accountant = false ∧ up.roster[(5 : Station)].roles.channel = false) ∧
      up.roster[(15 : Station)].roles.accountant = true ∧ (16 ≤ (16 : Byte).toNat ∧ (16 : Byte) ≠ 255) ∧
      (16 ≤ (254 : Byte).toNat ∧ (254 : Byte) ≠ 255) := by decide

/-- An order of the accountant for line 0 in each state that a clause names. -/
theorem test_witness_ServiceOrdersActOnOneLine :
    up.loader = .running ∧ (15 : Station) ≠ up.station ∧ up.bus = .active ∧ up.roster[(15 : Station)].roles.accountant = true ∧
      (0 : Byte).toNat = (0 : LineNo).val ∧ (line0 .idle).st 0 = .idle ∧ (line0 .out).st 0 = .out ∧
      ((line0 .session).st 0 ≠ .idle ∧ (line0 .session).st 0 ≠ .out ∧ (line0 .session).st 0 ≠ .proving) ∧
      ((proving { Run.fresh with phase := .waiting }).st 0 = .proving ∧
        (proving { Run.fresh with phase := .waiting }).run[(0 : LineNo)].phase ≠ .none) ∧
      (line0 .idle).result[(0 : LineNo)] = none ∧
      ((line0 .idle).setResult 0 (some ⟨15, .pass, .b300, 0, 0, 0, true⟩)).result[(0 : LineNo)] ≠ none ∧
      ((proving Run.fresh).run[(0 : LineNo)].phase = .none ∧
        ((proving Run.fresh).setAsks 0 { Asks.fresh with endRun := some .fail }).asks[(0 : LineNo)].endRun = some .fail) := by decide

/-- An order of the accountant for a line in SESSION and in IDLE; REPORT of the last group and of the first that is refused. -/
theorem test_witness_OperatorOrdersOnOneLine :
    up.loader = .running ∧ (15 : Station) ≠ up.station ∧ up.bus = .active ∧ up.roster[(15 : Station)].roles.accountant = true ∧
      (0 : Byte).toNat = (0 : LineNo).val ∧ ((talking call).st 0 = .session ∧ (talking call).sess[(0 : LineNo)].isSome = true) ∧
      (line0 .idle).st 0 ≠ .session ∧ (0x2FF : BitVec 16).toNat / 256 < 3 ∧ ¬(0x300 : BitVec 16).toNat / 256 < 3 ∧
      (7 : Fin 8).val = min 7 (65535 : BitVec 16).toNat ∧ OutputAtRest (talking call) ∧ (1 : LineNo) ≠ 0 := by
  unfold OutputAtRest
  decide

/-- An order of the accountant to all lines, line 0 in SESSION. -/
theorem test_witness_OrdersToAllLinesActOnEach :
    (talking call).loader = .running ∧ (15 : Station) ≠ (talking call).station ∧ (talking call).bus = .active ∧
      (talking call).roster[(15 : Station)].roles.accountant = true ∧ (talking call).st 0 = .session ∧
      (talking call).sess[(0 : LineNo)] = some call := by decide

/-- R71, R163: each order raises the RESULT of the slot it fills, that of its line or that of line 255; FORCE-OFF makes the close request, unless a
reason is set. -/
theorem test_orders_raise_their_result :
    let s := talking call
    let result (i : Fin 17) (c : Instr) : Option Bool := seen c s fun u => (u.req (.orderResult i)).pending
    ([Instr.orderOut 0 15 0 0, .orderIn 0 15 0 0, .orderDrain 0 15 0 0, .orderUndrain 0 15 0 0, .orderProve 0 15 0 0, .orderForceOff 0 15 0 0,
          .orderNotice 0 15 0 0, .orderReport 0 15 0 0].all fun c => result 0 c = some true) = true ∧
      ([Instr.orderOut 0 15 255 0, .orderIn 0 15 255 0, .orderForceOff 0 15 255 0, .orderNotice 0 15 255 0, .orderProve 0 15 255 0,
          .orderReport 0 5 16 0].all fun c => result 16 c = some true) = true ∧
      [s, talking { call with reason := some .idle }].map (fun s =>
          seen (.orderForceOff 0 15 0 0) s fun u => (u.sess[(0 : LineNo)].bind Session.reason, u.asks[(0 : LineNo)].close)) =
        [some (some .operator, true), some (some .idle, false)] := by decide

/-- R163, R164: REPORT for line 255 of each group, with the clear flag and without, and of the first group that is refused. -/
theorem test_report_of_line_255 :
    [0x000, 0x101, 0x200, 0x300].map (fun arg => seen (.orderReport 0 15 255 arg) up fun u =>
        (u.orderSlots[(16 : Fin 17)], (u.req (.orderResult 16)).pending)) =
      [some (some ⟨15, .report, 255, .reportData 0 false⟩, true), some (some ⟨15, .report, 255, .reportData 1 true⟩, true),
        some (some ⟨15, .report, 255, .reportData 2 false⟩, true), some (some ⟨15, .report, 255, .refusedState⟩, true)] := by decide

/-- No session about to enter hold; line 0 in SESSION with its transmitter sending, its slot empty and room for the notice; line 1 with nothing to
send; line 0 in PROVING with its run at work and ended. -/
theorem test_witness_OrdersToAllLinesActOnEach_notice :
    let s := (talking call).setPath 0 { (talking call).path[(0 : LineNo)] with tx := some 0x41 }
    let chars := textChars s.cfg ⟨[.notice 0], none⟩
    (0 : Fin 8).val = min 7 (0 : BitVec 16).toNat ∧ (∀ m : LineNo, s.entersHold m = false) ∧ s.st 0 = .session ∧
      s.path[(0 : LineNo)].tx.isSome = true ∧ s.path[(0 : LineNo)].slot = none ∧ 16 * ((chars.length + 15) / 16) ≤ s.free ∧
      chars.length ≤ s.outRoom 0 ∧ s.st 1 ≠ .session ∧ s.path[(1 : LineNo)].slot = none ∧ s.txReady 1 = false ∧
      ((proving { Run.fresh with phase := .running }).st 0 = .proving ∧
        (proving { Run.fresh with phase := .running }).run[(0 : LineNo)].phase ≠ .none) ∧
      (proving Run.fresh).run[(0 : LineNo)].phase = .none := by decide

/-- RESTART of the accountant, for line 15 and for all. -/
theorem test_witness_RestartOrderRestarts :
    up.loader = .running ∧ (15 : Station) ≠ up.station ∧ up.bus = .active ∧ up.roster[(15 : Station)].roles.accountant = true ∧
      (15 : Byte).toNat < 16 ∧ (255 : Byte) = 255 ∧ up.roster[(15 : Station)].age < 3 := by decide

/-! ### Invariants: states with calls and records that meet them, and the step that leaves them -/

/-- A state after reset and one in operation, each with a command waiting. -/
theorem test_witness_NothingActsWhileLoading :
    LoadingOk { State.reset with pending := [.startOtherBlocks 0 3 ⟨false, [], [], []⟩] } ∧
      ∃ u, step { State.reset with pending := [.startOtherBlocks 0 3 ⟨false, [], [], []⟩] } = .next u := by
  refine ⟨?_, _, rfl⟩
  unfold LoadingOk
  decide

/-- A table of two entries, and a claim that comes. -/
theorem test_witness_PresenceTableStaysSound :
    PresenceOk { up with presence := [⟨5, 9, 40117, 2044, 0⟩, ⟨6, 0, 40117, 88, 2⟩], pending := [.claim 0 5 ⟨9, 1, 0x040117, 2044, 14⟩] } ∧
      ∃ u, step { up with presence := [⟨5, 9, 40117, 2044, 0⟩, ⟨6, 0, 40117, 88, 2⟩], pending := [.claim 0 5 ⟨9, 1, 0x040117, 2044, 14⟩] } =
        .next u := by
  refine ⟨?_, _, rfl⟩
  unfold PresenceOk
  decide

/-- A call in SESSION at its disconnect: premises of the two statements about calls and charge slots, and of the one about the queue. -/
def ending : State :=
  { lost (talking call) with queue := [record 36 true, record 37 false], recordSerial := 38, pending := [.disconnect 1400 0] }

theorem test_witness_CallStatesMatchTheirRecords : LoadingOk ending ∧ CallsOk ending ∧ ∃ u, step ending = .next u := by
  refine ⟨?_, ?_, _, rfl⟩
  · unfold LoadingOk
    decide
  · unfold CallsOk
    decide

/-- One session and two records held leave 30 slots free. -/
theorem test_witness_EverySessionHasAChargeSlot : LoadingOk ending ∧ CallsOk ending ∧ SlotsOk ending ∧ ∃ u, step ending = .next u := by
  refine ⟨test_witness_CallStatesMatchTheirRecords.1, test_witness_CallStatesMatchTheirRecords.2.1, ?_, _, rfl⟩
  unfold SlotsOk
  decide

/-- Two records, the older one offered. -/
theorem test_witness_ChargeQueueStaysOrdered :
    LoadingOk ending ∧ CallsOk ending ∧ SlotsOk ending ∧ QueueOk ending ∧ ∃ u, step ending = .next u := by
  refine ⟨test_witness_CallStatesMatchTheirRecords.1, test_witness_CallStatesMatchTheirRecords.2.1,
    test_witness_EverySessionHasAChargeSlot.2.2.1, ?_, _, rfl⟩
  unfold QueueOk
  decide

/-- Line 0 holds 2 blocks of the 160. -/
theorem test_witness_BufferPoolIsConserved :
    LoadingOk { typed 31 call with free := 158, pending := [.characterReceived 0 0 0x41 false] } ∧
      PoolOk { typed 31 call with free := 158, pending := [.characterReceived 0 0 0x41 false] } ∧
      ∃ u, step { typed 31 call with free := 158, pending := [.characterReceived 0 0 0x41 false] } = .next u := by
  refine ⟨?_, ?_, _, rfl⟩
  · unfold LoadingOk
    decide
  · unfold PoolOk Queue.ok
    decide

/-- A session at the top of its residue, with an exhausted allowance and a grace counter, and the clock at its last second. -/
theorem test_witness_MetersStayInRange :
    let s := { talking { call with residue := 3599, duration := 16777215, remaining := some 0, grace := some 5 } with
      clock := ⟨10079, 59, false⟩, pending := [.tbRisingEdge 1000] }
    ClockOk s ∧ MetersOk s ∧ GraceOk s ∧ ∃ u, step s = .next u := by
  refine ⟨?_, ?_, ?_, _, rfl⟩
  · unfold ClockOk
    decide
  · unfold MetersOk
    decide
  · unfold GraceOk
    decide

/-- A burst open in RINGING, a request at its seventh strike, and the discard streak at 2. -/
theorem test_witness_TimersAndStrikesStayInTheirStates :
    let s := { ringing 1 false 1000 with streak := 2, reqs := [(.survey, ⟨true, 7⟩), (.beacon, ⟨true, 0⟩)], pending := [.riFallingEdge 1150 0] }
    LoadingOk s ∧ LinesOk s ∧ RequestsOk s ∧ ∃ u, step s = .next u := by
  refine ⟨?_, ?_, ?_, _, rfl⟩
  · unfold LoadingOk
    decide
  · unfold LinesOk LineRec.timersOk
    decide
  · unfold RequestsOk
    decide

end Sys2Proof.Tests
end

section
/-! A RELEASE of another station and the Presence Table (R78). The effect of a frame to every station is reduced to three facts: one event agrees with
its effect in `State.core`, a frame heard makes its sender's age 0, and what the Presence Table then does with a RELEASE respects `State.core`. -/

namespace Sys2Proof.Proofs.Presence

open Sys2Proof Sys2Proof.Machine

/-! ## One event and a frame heard -/

/-- One event agrees with its effect in everything that `State.core` keeps. -/
theorem event_core (s : State) (t : Moment) (effect : State → State) : (s.event t effect).core = (effect (s.at t)).core :=
  core_of_kept (event_kept s t effect)

/-- A running LC-16 takes the frames of every number but its own (R154, R160). -/
theorem hears_of_running {s : State} {src : Station} (hrun : s.loader = .running) (hsrc : src ≠ s.station) : s.hears src = true := by
  simp [State.hears, State.started, hrun, hsrc]

/-- A frame that can be taken is echoed as the bus state allows, and takes effect once its sender is heard (R153, R154). -/
theorem takeAll_of_hears {s : State} {src : Station} (h : s.hears src = true) (effect : State → State) :
    s.takeAll src effect = effect (State.hear { s with echo := s.canEcho } src) :=
  if_pos h

@[simp] theorem heard_presence (s : State) (i : Station) : (s.heard i).presence = s.presence := by
  unfold State.heard; split <;> rfl

/-- Hearing a station neither reads nor writes the echo slot. -/
theorem heard_setEcho (s : State) (i : Station) (b : Bool) :
    State.heard { s with echo := b } i = { s.heard i with echo := b } := by
  unfold State.heard
  by_cases own : i = s.station
  · simp only [if_pos own]
  · simp only [if_neg own]

/-! ## The Presence Table and a RELEASE -/

/-- The Presence Table is one of the fields that `State.core` keeps, and no other depends on it. -/
theorem core_setPresence {u t : State} (h : u.core = t.core) (ps : List Presence) :
    State.core { u with presence := ps } = State.core { t with presence := ps } :=
  congrArg (fun c : State => { c with presence := ps }) h

/-- A reason of Table 11-4, WITHDRAWN among them, removes the entry with the RELEASE's station, line and serial (R78). -/
theorem noteRelease_of_known (s : State) (src : Station) {p : ReleasePayload} (h : p.reason.toNat ≤ 8) :
    s.noteRelease src p =
      { s with presence := s.presence.filter fun e => ¬(e.station = src ∧ e.line.val = p.line.toNat ∧ e.serial = p.serial) } :=
  if_pos (decide_eq_true h)

/-- A RELEASE is taken alike in states that agree in `State.core`. -/
theorem core_noteRelease {u t : State} (h : u.core = t.core) (src : Station) (p : ReleasePayload) :
    (u.noteRelease src p).core = (t.noteRelease src p).core := by
  unfold State.noteRelease
  split
  · rw [eq_of_core_presence h]
    exact core_setPresence h _
  · exact h

/-- A RELEASE that a running LC-16 hears, whatever its reason: its sender's age becomes 0, and the Presence Table takes it. -/
theorem release_gives_noteRelease (t : Moment) {src : Station} (p : ReleasePayload) {s : State} (hrun : s.loader = .running)
    (hsrc : src ≠ s.station) :
    GivesHeard (.release t src p) s (State.noteRelease { (s.at t).heard src with echo := (s.at t).canEcho } src p) := by
  have hears : (s.at t).hears src = true := hears_of_running hrun hsrc
  refine ⟨s.event t fun s => s.takeAll src fun s => s.noteRelease src p, rfl, ?_⟩
  rw [event_core, takeAll_of_hears hears, ← heard_setEcho]
  exact core_noteRelease (hear_core _ src) src p

/-- Settles O26: a reason up to 8 is known, and hearing the sender leaves the Presence Table as it stands. -/
theorem releaseRemovesOnlyItsOwnEntry : Obligations.ReleaseRemovesOnlyItsOwnEntry := by
  intro t src p s hrun hsrc hreason
  have taken := release_gives_noteRelease t p hrun hsrc
  rw [noteRelease_of_known _ src hreason] at taken
  simp only [heard_presence] at taken
  exact taken

end Sys2Proof.Proofs.Presence
end

section
/-! A TIME frame of another station and the station clock (R98). The event of a frame to every station is reduced once, for any effect that respects
`State.core`; the condition under which the clock is set is then read in the state with the sender heard, whose roles stand as before. -/

namespace Sys2Proof.Proofs.Clock

open Sys2Proof Sys2Proof.Machine Sys2Proof.Proofs.Presence

/-! ## The event of a frame to every station -/

/-- A frame that a running LC-16 hears: its sender's age becomes 0, the echo slot is driven as the bus state allows, and the frame's effect is taken
there, if it is alike in states that agree in `State.core` (R86, R153, R154). -/
theorem event_takeAll_core (t : Moment) {src : Station} {s : State} (hrun : s.loader = .running) (hsrc : src ≠ s.station)
    {effect : State → State} (respects : ∀ {u v : State}, u.core = v.core → (effect u).core = (effect v).core) :
    (s.event t fun s => s.takeAll src effect).core = (effect { (s.at t).heard src with echo := (s.at t).canEcho }).core := by
  have hears : (s.at t).hears src = true := hears_of_running hrun hsrc
  rw [event_core, takeAll_of_hears hears, ← heard_setEcho]
  exact respects (hear_core _ src)

/-! ## The station clock and a TIME frame -/

/-- Hearing a station changes its age alone: every entry of the roster keeps its roles (R86). -/
@[simp] theorem heard_roles (s : State) (i j : Station) : (s.heard i).roster[j].roles = s.roster[j].roles := by
  unfold State.heard
  split
  · rfl
  · rw [vector_set_get]
    split
    · next same => rw [same]
    · rfl

/-- The station clock is one of the fields that `State.core` keeps, and no other depends on it. -/
theorem core_setClockField {u v : State} (h : u.core = v.core) (c : Clock) :
    State.core { u with clock := c } = State.core { v with clock := c } :=
  congrArg (fun w : State => { w with clock := c }) h

/-- A TIME frame is taken alike in states that agree in `State.core`: it reads the roster, and writes the clock. -/
theorem core_setClock {u v : State} (h : u.core = v.core) (src : Station) (minute : BitVec 16) (second : Byte) :
    (u.setClock src minute second).core = (v.setClock src minute second).core := by
  have entry : u.roster[src] = v.roster[src] := by rw [eq_of_core_roster h]
  unfold State.setClock
  rw [entry]
  split
  · exact core_setClockField h _
  · exact h

/-- The clock is set under the three conditions of R98, with the last values of the ranges as R98 gives them. -/
theorem setClock_eq (s : State) (src : Station) (minute : BitVec 16) (second : Byte) :
    s.setClock src minute second =
      if s.roster[src].roles.clock = true ∧ minute.toNat ≤ 10079 ∧ second.toNat ≤ 59 then
        { s with clock := ⟨minute.toNat, second.toNat, false⟩ }
      else s := by
  have hminute : minute.toNat < 10080 ↔ minute.toNat ≤ 10079 := Nat.lt_succ_iff
  have hsecond : second.toNat < 60 ↔ second.toNat ≤ 59 := Nat.lt_succ_iff
  simp only [State.setClock, hminute, hsecond]

/-- Settles O33: the clock is set in the state with the sender heard, where the sender has the roles it had before. -/
theorem timeSetsTheClock : Obligations.TimeSetsTheClock := by
  intro t src minute second s hrun hsrc
  refine ⟨s.event t fun s => s.takeAll src fun s => s.setClock src minute second, rfl, ?_⟩
  have taken := event_takeAll_core t hrun hsrc fun h => core_setClock h src minute second
  have roles : ((s.at t).heard src).roster[src].roles = s.roster[src].roles := heard_roles (s.at t) src src
  rw [setClock_eq, roles] at taken
  exact taken

end Sys2Proof.Proofs.Clock
end

section
/-! The serial of a charge record (R115). `Bears` says that a record waits under a serial. Among the 33 values from the counter on, 32 records leave one
free; the search stops at the first, and the counter goes one past it. -/

namespace Sys2Proof.Proofs.RecordSerial

open Sys2Proof Sys2Proof.Machine

/-! ## The serials in the queue -/

/-- A record in the queue bears the serial `v`. -/
def Bears (q : List Queued) (v : BitVec 8) : Prop := ∃ r ∈ q, r.charge.serial = v

theorem bears_iff_mem_map (q : List Queued) (v : BitVec 8) : Bears q v ↔ v ∈ q.map fun r => r.charge.serial :=
  List.mem_map.symm

theorem not_bears_iff (q : List Queued) (v : BitVec 8) : ¬Bears q v ↔ ∀ r ∈ q, r.charge.serial ≠ v := by
  simp only [Bears, not_exists, not_and, ne_eq]

/-- Up to 256 values from one serial on are pairwise distinct, as the counter wraps only after 256. -/
theorem serialsFrom_injOn (c : BitVec 8) {k : Nat} (hk : k ≤ 256) :
    Set.InjOn (fun j : Nat => c + BitVec.ofNat 8 j) (Finset.range k) := by
  intro i hi j hj same
  have hi : i < k := Finset.mem_range.mp hi
  have hj : j < k := Finset.mem_range.mp hj
  have same : BitVec.ofNat 8 i = BitVec.ofNat 8 j := (BitVec.add_right_inj c).mp same
  bv_omega

/-- Each record bears one serial, so a run of values that are all borne is no longer than the queue. -/
theorem length_ge_of_bears_run {q : List Queued} {c : BitVec 8} {k : Nat} (hk : k ≤ 256)
    (run : ∀ j < k, Bears q (c + BitVec.ofNat 8 j)) : k ≤ q.length := by
  have subset : (Finset.range k).image (fun j => c + BitVec.ofNat 8 j) ⊆ (q.map fun r => r.charge.serial).toFinset := by
    intro v hv
    obtain ⟨j, hj, rfl⟩ := Finset.mem_image.mp hv
    exact List.mem_toFinset.mpr ((bears_iff_mem_map q _).mp (run j (Finset.mem_range.mp hj)))
  calc k = ((Finset.range k).image fun j => c + BitVec.ofNat 8 j).card := by
        rw [Finset.card_image_of_injOn (serialsFrom_injOn c hk), Finset.card_range]
    _ ≤ (q.map fun r => r.charge.serial).toFinset.card := Finset.card_le_card subset
    _ ≤ q.length := (List.toFinset_card_le _).trans_eq (List.length_map _)

/-- A queue of at most 32 records leaves one of 33 values free, and there is a first such value (R115). -/
theorem exists_first_free {q : List Queued} (hq : q.length ≤ 32) (c : BitVec 8) :
    ∃ k ≤ 32, (∀ j < k, Bears q (c + BitVec.ofNat 8 j)) ∧ ¬Bears q (c + BitVec.ofNat 8 k) := by
  classical
  have free : ∃ k, k ≤ 32 ∧ ¬Bears q (c + BitVec.ofNat 8 k) := by
    by_contra allBorne
    push Not at allBorne
    have := length_ge_of_bears_run (k := 33) (by omega) fun j hj => allBorne j (by omega)
    omega
  obtain ⟨bound, first⟩ := Nat.find_spec free
  refine ⟨Nat.find free, bound, fun j hj => ?_, first⟩
  by_contra earlier
  exact Nat.find_min free hj ⟨by omega, earlier⟩

/-! ## The search for a serial -/

theorem freeSerial_of_bears {q : List Queued} {c : BitVec 8} (fuel : Nat) (h : Bears q c) :
    freeSerial q (fuel + 1) c = freeSerial q fuel (c + 1) :=
  if_pos (by simpa [Bears] using h)

theorem freeSerial_of_not_bears {q : List Queued} {c : BitVec 8} (fuel : Nat) (h : ¬Bears q c) : freeSerial q (fuel + 1) c = c :=
  if_neg (by simpa [Bears] using h)

/-- The search passes over the borne values and takes the first free one, where it has a try left for it. -/
theorem freeSerial_eq_first_free {q : List Queued} {k fuel : Nat} {c : BitVec 8} (hfuel : k < fuel)
    (run : ∀ j < k, Bears q (c + BitVec.ofNat 8 j)) (free : ¬Bears q (c + BitVec.ofNat 8 k)) :
    freeSerial q fuel c = c + BitVec.ofNat 8 k := by
  induction k generalizing c fuel with
  | zero =>
    obtain ⟨fuel, rfl⟩ := Nat.exists_eq_add_one.mpr hfuel
    have here : c + BitVec.ofNat 8 0 = c := BitVec.add_zero c
    rw [here] at free ⊢
    exact freeSerial_of_not_bears fuel free
  | succ k ih =>
    obtain ⟨fuel, rfl⟩ := Nat.exists_eq_add_one.mpr (Nat.zero_lt_of_lt hfuel)
    have next (j : Nat) : c + 1 + BitVec.ofNat 8 j = c + BitVec.ofNat 8 (j + 1) := by bv_omega
    have borne : Bears q c := by simpa using run 0 (Nat.succ_pos k)
    rw [freeSerial_of_bears fuel borne, ← next]
    refine ih (Nat.lt_of_succ_lt_succ hfuel) (fun j hj => ?_) ?_
    · exact next j ▸ run (j + 1) (Nat.succ_lt_succ hj)
    · exact next k ▸ free

/-! ## The record serial counter -/

/-- The counter goes one past the serial that the record takes (R115). -/
theorem appendCharge_recordSerial (s : State) (n : LineNo) (x : Session) (r : CloseReason) :
    (s.appendCharge n x r).recordSerial = freeSerial s.queue 33 s.recordSerial + 1 := rfl

/-- Power-up resets the counter (R115, R126). -/
theorem powerUp_recordSerial (s : State) : s.powerUp.recordSerial = 0 := rfl

/-- A line without a session appends no record at a restart. -/
theorem restartSession_of_none {s : State} {n : LineNo} (h : s.sess[n] = none) : s.restartSession n = s := by
  unfold State.restartSession
  rw [h]

/-- A restart leaves the counter as the records of the sessions that it ends leave it (R25, R126). -/
theorem restart_recordSerial (s : State) :
    s.restart.recordSerial = (eachLine allLines State.restartSession s).recordSerial := by
  simp only [State.restart]

/-- A restart that ends no session gives no serial, and so keeps the counter (R115, R126). -/
theorem restart_recordSerial_of_no_session {s : State} (h : ∀ n : LineNo, s.sess[n] = none) :
    s.restart.recordSerial = s.recordSerial := by
  have closed : eachLine allLines State.restartSession s = s :=
    eachLine_induction (· = s) State.restartSession (fun n u same => same ▸ restartSession_of_none (same ▸ h n)) allLines s rfl
  rw [restart_recordSerial, closed]

theorem setRestartPin_recordSerial (s : State) (b : Bool) : State.recordSerial { s with restartPin := b } = s.recordSerial := rfl

/-- The RESTART pin restarts a station that is not restarting already and whose power-up is over (R170). -/
theorem exec_restartPinAsserted (t : Moment) {s : State} (hpin : s.restartPin = false) (hloader : s.loader ≠ .powerUp) :
    exec (.restartPinAsserted t) s = .next { (s.at t).restart with restartPin := true } := by
  show execRestartPinAsserted t s = _
  unfold execRestartPinAsserted
  rw [if_neg (by simp [hpin])]
  cases loader : s.loader with
  | powerUp => exact absurd loader hloader
  | restart | running => simp [loader]

/-- Settles O34: the search from the counter stops at the first free value, which 32 records leave within 33 tries. -/
theorem recordSerialPassesOverBearers : Obligations.RecordSerialPassesOverBearers := by
  refine ⟨fun t s => ⟨⟨(s.at t).powerUp, rfl, powerUp_recordSerial (s.at t)⟩, fun hsess hpin hloader => ?_⟩, fun s n x r hq => ?_⟩
  · have sessAt : ∀ n : LineNo, (s.at t).sess[n] = none := hsess
    exact ⟨_, exec_restartPinAsserted t hpin hloader,
      (setRestartPin_recordSerial _ true).trans (restart_recordSerial_of_no_session sessAt)⟩
  · obtain ⟨k, hk, run, free⟩ := exists_first_free hq s.recordSerial
    have found := freeSerial_eq_first_free (Nat.lt_succ_of_le hk) run free
    refine ⟨k, hk, run, (not_bears_iff s.queue _).mp free, ?_, ?_⟩
    · rw [appendCharge_recordSerial, found]
    · rw [appendCharge_queue, found]

end Sys2Proof.Proofs.RecordSerial
end

section
/-! What a command can do to the part of the state that the invariants speak of. `State.vital` is that part; `Move` lists the elementary changes of it, each
with the condition under which the model makes it; `Moved` is a chain of them. -/

namespace Sys2Proof.Proofs.Moves

open Sys2Proof Sys2Proof.Machine

/-! ## The vital part of a state -/

/-- The two queues of a line. -/
def queuesOf (p : Path) : Queue × Queue := (p.inQ, p.outQ)

/-- The serial and the offered mark of a record. -/
def markOf (r : Queued) : BitVec 8 × Bool := (r.charge.serial, r.offered)

/-- The part of the state that the invariants of Safety speak of. -/
structure Vital where
  loader : Loader
  station : Station
  cfg : Configuration
  sup : Vector LineRec 16
  queues : Vector (Queue × Queue) 16
  free : Nat
  admitted : Vector (Option Bool) 16
  sess : Vector (Option Session) 16
  presence : List Presence
  clock : Clock
  queue : List (BitVec 8 × Bool)
  streak : Nat
  reqs : List (ReqId × Req)

/-- The vital part of a state: whole line and session records, but of a path its queues alone, of a context whether it is admitted, and of a charge record
its serial and offered mark. -/
def vital (s : State) : Vital where
  loader := s.loader
  station := s.station
  cfg := s.cfg
  sup := s.sup
  queues := s.path.map queuesOf
  free := s.free
  admitted := s.sign.map (Option.map Context.admitted)
  sess := s.sess
  presence := s.presence
  clock := s.clock
  queue := s.queue.map markOf
  streak := s.streak
  reqs := s.reqs

/-- The states of a call with a context or a session record (R50, R67). -/
def ofRecord (st : LineState) : Prop := st = .signon ∨ st = .session

/-- Line `n` has no record of a call to lose: it is in neither of their states, or in one with the record already gone, which `CallsOk` rules out. -/
def Unrecorded (s : State) (n : LineNo) : Prop := (s.st n = .signon → s.sign[n] = none) ∧ (s.st n = .session → s.sess[n] = none)

theorem unrecorded_of_not_ofRecord {s : State} {n : LineNo} (h : ¬ofRecord (s.st n)) : Unrecorded s n :=
  ⟨fun e => absurd (.inl e) h, fun e => absurd (.inr e) h⟩

/-- R102, R103, R104, R106: what `MetersOk` and `GraceOk` say of one session record. -/
def SoundMeter (x : Session) : Prop :=
  x.residue < 3600 ∧ x.duration ≤ meterTop ∧ (x.remaining = some 0 → x.grace.isSome = true ∨ x.reason.isSome = true)

/-- An elementary change of the vital part. -/
inductive Move : State → State → Prop
  /-- Nothing vital changes. -/
  | quiet {s u : State} : vital u = vital s → Move s u
  /-- A line record changes; the line stays in its state, or goes without a record to lose to a state that has none. -/
  | line {s : State} (n : LineNo) (l : LineRec) :
      l.st = s.st n ∨ Unrecorded s n ∧ ¬ofRecord l.st → (s.sup[n].timersOk → l.timersOk) → Move s (s.setSup n l)
  /-- Characters move between a line's queues and the outside, and blocks between the queues and the free list. -/
  | pool {s : State} (n : LineNo) (p : Path) (k : Nat) :
      (PoolOk s → PoolOk { s.setPath n p with free := k }) → Move s { s.setPath n p with free := k }
  /-- A line enters SIGNON with a new context. -/
  | signOn {s : State} (n : LineNo) (l : LineRec) (c : Context) :
      ¬ofRecord (s.st n) → l.st = .signon → (s.sup[n].timersOk → l.timersOk) → c.admitted = false →
        Move s ((s.setSup n l).setSign n (some c))
  /-- A line leaves SIGNON, and its context is discarded. -/
  | signOff {s : State} (n : LineNo) (l : LineRec) :
      s.st n = .signon → ¬ofRecord l.st → (s.sup[n].timersOk → l.timersOk) → Move s ((s.setSup n l).setSign n none)
  /-- A context is admitted, with a charge slot free for it. -/
  | admission {s : State} (n : LineNo) (c d : Context) :
      s.sign[n] = some c → s.queue.length + s.linesIn .session + s.otherAdmitted n + 1 ≤ chargeSlots →
        Move s (s.setSign n (some d))
  /-- An admitted context is replaced by a session record. -/
  | establish {s : State} (n : LineNo) (l : LineRec) (c : Context) (x : Session) :
      s.st n = .signon → s.sign[n] = some c → c.admitted = true → l.st = .session → (s.sup[n].timersOk → l.timersOk) → SoundMeter x →
        Move s (((s.setSup n l).setSign n none).setSess n (some x))
  /-- The session records change, each by itself. -/
  | sessions {s : State} (v : Vector (Option Session) 16) :
      (∀ n : LineNo, v[n].isSome = s.sess[n].isSome ∧
        ∀ y ∈ v[n], (∀ x ∈ s.sess[n], SoundMeter x) → SoundMeter y) → Move s { s with sess := v }
  /-- A session ends with its charge record, and its line leaves SESSION. -/
  | ended {s : State} (n : LineNo) (l : LineRec) (x : Session) (r : CloseReason) :
      s.st n = .session → ¬ofRecord l.st → (s.sup[n].timersOk → l.timersOk) →
        Move s (((s.appendCharge n x r).setSess n none).setSup n l)
  /-- The Presence Table changes. -/
  | presence {s : State} (ps : List Presence) :
      (PresenceOk s → PresenceOk { s with presence := ps }) → Move s { s with presence := ps }
  /-- The station clock changes. -/
  | clock {s : State} (c : Clock) : (ClockOk s → ClockOk { s with clock := c }) → Move s { s with clock := c }
  /-- Records leave the Charge Queue, or change their offers. -/
  | queue {s : State} (q : List Queued) :
      q.length ≤ s.queue.length → (QueueOk s → QueueOk { s with queue := q }) → Move s { s with queue := q }
  /-- A request changes. -/
  | request {s : State} (i : ReqId) (r : Req) : (r.strikes ≤ 7 ∨ r.strikes = (s.req i).strikes) → Move s (s.setReq i r)
  /-- The discard streak changes. -/
  | streak {s : State} (k : Nat) : k ≤ 2 → Move s { s with streak := k }

/-- A chain of elementary changes. -/
def Moved (s u : State) : Prop := Relation.ReflTransGen Move s u

theorem Moved.refl (s : State) : Moved s s := Relation.ReflTransGen.refl

theorem Moved.trans {s t u : State} (h : Moved s t) (k : Moved t u) : Moved s u := Relation.ReflTransGen.trans h k

/-- The last change of a chain, after the earlier ones. -/
theorem Moved.after {s t u : State} (k : Moved t u) (h : Moved s t) : Moved s u := h.trans k

theorem Move.moved {s u : State} (h : Move s u) : Moved s u := .single h

/-- A change of nothing vital. -/
theorem moved_of_vital {s u : State} (h : vital u = vital s) : Moved s u := (Move.quiet h).moved

/-- A chain ends where the vital part is the same. -/
theorem Moved.congr {s t u : State} (h : Moved s t) (hu : vital u = vital t) : Moved s u := h.trans (moved_of_vital hu)

/-- What every elementary change keeps, a chain keeps. -/
theorem Moved.keeps {P : State → Prop} (move : ∀ {s u : State}, Move s u → P s → P u) {s u : State} (h : Moved s u) (hs : P s) :
    P u := by
  induction h with
  | refl => exact hs
  | tail _ last ih => exact move last ih

/-! ## Operations for many lines -/

theorem moved_eachLine (f : LineNo → State → State) (hf : ∀ n s, Moved s (f n s)) (ls : List LineNo) (s : State) :
    Moved s (eachLine ls f s) :=
  eachLine_induction (Moved s) f (fun n u h => h.trans (hf n u)) ls s (.refl s)

theorem moved_inFreeOrder (f : LineNo → State → State) (hf : ∀ n s, Moved s (f n s)) (ls : List LineNo) (s : State) :
    Moved s (inFreeOrder ls f s) :=
  freeLines_induction (Moved s) f (fun n u h => h.trans (hf n u)) (fun _ _ h => h.congr rfl) _ ls s (.refl s)

/-! ## Quiet changes -/

theorem vital_setPath {s : State} {n : LineNo} {p : Path} (h : queuesOf p = queuesOf s.path[n]) : vital (s.setPath n p) = vital s := by
  simp only [vital, State.setPath, vector_map_set_same _ _ _ _ h]

theorem moved_updPath {s : State} {n : LineNo} {f : Path → Path} (h : ∀ p, queuesOf (f p) = queuesOf p) : Moved s (s.updPath n f) :=
  moved_of_vital (vital_setPath (h _))

theorem vital_setSign {s : State} {n : LineNo} {c : Option Context} (h : c.map Context.admitted = s.sign[n].map Context.admitted) :
    vital (s.setSign n c) = vital s := by
  simp only [vital, State.setSign, vector_map_set_same _ _ _ _ h]

/-- A context changes, but not whether it is admitted. -/
theorem moved_setSign {s : State} {n : LineNo} {c d : Context} (hs : s.sign[n].map Context.admitted = some c.admitted)
    (h : d.admitted = c.admitted) : Moved s (s.setSign n (some d)) :=
  moved_of_vital (vital_setSign (by rw [hs, Option.map_some, h]))

/-- A chain, and then a change of a path that leaves its queues. -/
theorem Moved.thenUpdPath {s t : State} {n : LineNo} {f : Path → Path} (h : Moved s t) (hf : ∀ p, queuesOf (f p) = queuesOf p) :
    Moved s (t.updPath n f) := h.trans (moved_updPath hf)

/-- A chain, and then a change of a context that leaves its admitted mark. -/
theorem Moved.thenSetSign {s t : State} {n : LineNo} {c d : Context} (h : Moved s t)
    (hs : t.sign[n].map Context.admitted = some c.admitted) (hd : d.admitted = c.admitted) : Moved s (t.setSign n (some d)) :=
  h.trans (moved_setSign hs hd)

theorem moved_at (s : State) (t : Moment) : Moved s (s.at t) := moved_of_vital rfl

theorem moved_count (s : State) (c : CounterId) : Moved s (s.count c) := moved_of_vital rfl

theorem moved_setAsks (s : State) (n : LineNo) (x : Asks) : Moved s (s.setAsks n x) := moved_of_vital rfl

theorem moved_setClaims (s : State) (n : LineNo) (x : Claims) : Moved s (s.setClaims n x) := moved_of_vital rfl

theorem moved_setRun (s : State) (n : LineNo) (x : Run) : Moved s (s.setRun n x) := moved_of_vital rfl

/-! ## Requests -/

theorem moved_raise (s : State) (i : ReqId) : Moved s (s.raise i) := by
  unfold State.raise
  split
  · exact moved_count s _
  · exact (Move.request i { s.req i with pending := true } (.inr rfl)).moved

theorem moved_dropReq (s : State) (i : ReqId) : Moved s (s.dropReq i) := (Move.request i Req.idle (.inl (Nat.zero_le 7))).moved

theorem moved_raiseRelease (s : State) (n : LineNo) (r : ReleaseSlot) : Moved s (s.raiseRelease n r) :=
  (moved_setClaims s n _).trans (moved_raise _ _)

/-! ## Session records -/

/-- A change of one line's session record that keeps its meter sound. -/
theorem moved_setSess {s : State} {n : LineNo} {x y : Session} (hx : s.sess[n] = some x) (h : SoundMeter x → SoundMeter y) :
    Moved s (s.setSess n (some y)) := by
  refine (Move.sessions _ fun m => ?_).moved
  rw [vector_set_get]
  split
  · next e =>
    subst e
    rw [hx]
    exact ⟨rfl, fun z hz hall => by cases hz; exact h (hall x rfl)⟩
  · exact ⟨rfl, fun z hz hall => hall z hz⟩

theorem moved_updSess {s : State} {n : LineNo} {f : Session → Session} (h : ∀ x, SoundMeter x → SoundMeter (f x)) :
    Moved s (s.updSess n f) := by
  unfold State.updSess
  split
  · exact .refl s
  · next x hx => exact moved_setSess hx (h x)

/-- A close cause leaves the meter alone, and a session with a close reason needs no grace counter. -/
theorem moved_closeCause (n : LineNo) (r : CloseReason) (s : State) : Moved s (s.closeCause n r) := by
  unfold State.closeCause
  split
  · exact .refl s
  · next x hx =>
    split
    · have closed : Moved s (s.setSess n (some { x with reason := some r, confirm := none })) :=
        moved_setSess hx fun ⟨hresidue, hduration, _⟩ => ⟨hresidue, hduration, fun _ => .inr rfl⟩
      dsimp only
      split
      · exact closed
      · exact closed.trans (moved_setAsks _ n _)
    · exact .refl s

end Sys2Proof.Proofs.Moves
end

section
/-! The Buffer Pool under the moves of the Character Path (R31, R32): what a line's queues hold, what an append of no more characters than the room does, and
that every such move keeps `PoolOk`. -/

namespace Sys2Proof.Proofs.Pool

open Sys2Proof Sys2Proof.Machine Sys2Proof.Proofs.Moves

/-! ## One queue -/

theorem empty_ok : Queue.empty.ok := ⟨Nat.zero_lt_succ 15, fun _ => rfl⟩

@[simp] theorem empty_blocks : Queue.empty.blocks = 0 := rfl

/-- The blocks of a queue with characters cover what has been read and what has not. -/
theorem blocks_of_ne_nil {q : Queue} (h : q.chars ≠ []) : q.blocks = (q.read + q.chars.length + 15) / 16 := if_neg h

theorem blocks_of_nil {q : Queue} (h : q.chars = []) : q.blocks = 0 := if_pos h

theorem append_ok {q : Queue} (h : q.ok) (cs : List Char7) : (q.append cs).ok := by
  obtain ⟨hread, hempty⟩ := h
  refine ⟨hread, fun hnil => hempty ?_⟩
  exact (List.append_eq_nil_iff.mp hnil).1

/-- An append of no more characters than the room takes no more blocks than the room counts (R31, R32). -/
theorem append_blocks_le {q : Queue} (h : q.ok) {cs : List Char7} {k : Nat} (hroom : cs.length ≤ q.unwritten + 16 * k) :
    (q.append cs).blocks ≤ q.blocks + k := by
  obtain ⟨hread, hempty⟩ := h
  have hread : q.read < 16 := hread
  by_cases hq : q.chars = []
  · have hun : q.unwritten = 0 := if_pos hq
    have hblocks : q.blocks = 0 := blocks_of_nil hq
    by_cases hcs : cs = []
    · rw [show q.append cs = q by simp [Queue.append, hcs]]; omega
    · rw [blocks_of_ne_nil (q := q.append cs) (by simp [Queue.append, hcs])]
      have hlen : (q.append cs).chars.length = cs.length := by simp [Queue.append, hq]
      have hr : (q.append cs).read = 0 := hempty hq
      omega
  · have hun : q.unwritten = 16 * q.blocks - (q.read + q.chars.length) := if_neg hq
    have hblocks := blocks_of_ne_nil hq
    rw [blocks_of_ne_nil (q := q.append cs) (by simp [Queue.append, hq])]
    have hlen : (q.append cs).chars.length = q.chars.length + cs.length := by simp [Queue.append]
    have hr : (q.append cs).read = q.read := rfl
    omega

theorem remove_ok (q : Queue) (k : Nat) : (q.remove k).ok := by
  unfold Queue.remove
  split
  · exact empty_ok
  · next h => exact ⟨Nat.mod_lt _ (by decide), fun hnil => absurd (List.drop_eq_nil_iff.mp hnil) h⟩

/-- Reading characters frees blocks and takes none. -/
theorem remove_blocks_le (q : Queue) (k : Nat) : (q.remove k).blocks ≤ q.blocks := by
  unfold Queue.remove
  split
  · simp
  · next h =>
    have hq : q.chars ≠ [] := fun e => h (by simp [e])
    rw [blocks_of_ne_nil hq, blocks_of_ne_nil (q := ⟨q.chars.drop k, _⟩) (by simpa using Nat.not_le.mp h)]
    have hmod : (q.read + k) % blockSize ≤ q.read + k := Nat.mod_le _ _
    simp only [List.length_drop]
    omega

/-! ## The pool -/

/-- The blocks held with one line's path replaced. -/
theorem heldBlocks_setPath (s : State) (n : LineNo) (p : Path) (k : Nat) :
    State.heldBlocks { s.setPath n p with free := k } + s.path[n].held = s.heldBlocks + p.held := by
  have sum (f : LineNo → Nat) : (allLines.map f).sum = ∑ m : LineNo, f m := (Fin.sum_univ_def f).symm
  have others : ∀ m ∈ Finset.univ.erase n, (State.path { s.setPath n p with free := k })[m].held = s.path[m].held := by
    intro m hm
    exact congrArg Path.held (vector_set_get_ne _ _ (Ne.symm (Finset.ne_of_mem_erase hm)))
  have self : (State.path { s.setPath n p with free := k })[n].held = p.held := congrArg Path.held (vector_set_get_self _ _ _)
  simp only [State.heldBlocks, sum]
  rw [← Finset.add_sum_erase _ _ (Finset.mem_univ n), Finset.sum_congr rfl others, self,
    ← Finset.add_sum_erase _ (fun m : LineNo => s.path[m].held) (Finset.mem_univ n)]
  omega

/-- The blocks that a line's queues give up or take go to or come from the free list, and the line stays within its allowances (R31). -/
theorem poolOk_setPath {s : State} {n : LineNo} {p : Path} {k : Nat} (hs : PoolOk s) (hfree : k + p.held = s.free + s.path[n].held)
    (hin : p.inQ.blocks ≤ (s.group n).inAllowance) (hheld : p.held ≤ (s.group n).allowance) (hinok : p.inQ.ok) (houtok : p.outQ.ok) :
    PoolOk { s.setPath n p with free := k } := by
  obtain ⟨htotal, hlines⟩ := hs
  have hsum := heldBlocks_setPath s n p k
  refine ⟨?_, fun m => ?_⟩
  · show k + State.heldBlocks { s.setPath n p with free := k } = poolBlocks
    omega
  · show (s.path.set n p)[m].inQ.blocks ≤ (s.group m).inAllowance ∧ (s.path.set n p)[m].held ≤ (s.group m).allowance ∧
      (s.path.set n p)[m].inQ.ok ∧ (s.path.set n p)[m].outQ.ok
    rw [vector_set_get]
    split
    · next e => subst e; exact ⟨hin, hheld, hinok, houtok⟩
    · exact hlines m

/-- An outbound queue replaced by one that finds its blocks. -/
theorem poolOk_setOut {s : State} {n : LineNo} {q : Queue} (hs : PoolOk s) (hq : q.ok)
    (hfree : q.blocks ≤ s.free + s.path[n].outQ.blocks) (hheld : s.path[n].inQ.blocks + q.blocks ≤ (s.group n).allowance) :
    PoolOk (s.setOut n q) := by
  obtain ⟨-, hlines⟩ := id hs
  obtain ⟨hin, -, hinok, -⟩ := hlines n
  refine poolOk_setPath hs ?_ hin hheld hinok hq
  simp only [Path.held]
  omega

/-- An inbound queue replaced by one that finds its blocks. -/
theorem poolOk_setIn {s : State} {n : LineNo} {q : Queue} (hs : PoolOk s) (hq : q.ok)
    (hfree : q.blocks ≤ s.free + s.path[n].inQ.blocks) (hin : q.blocks ≤ (s.group n).inAllowance)
    (hheld : q.blocks + s.path[n].outQ.blocks ≤ (s.group n).allowance) : PoolOk (s.setIn n q) := by
  obtain ⟨-, hlines⟩ := id hs
  obtain ⟨-, -, -, houtok⟩ := hlines n
  refine poolOk_setPath hs ?_ hin hheld hq houtok
  simp only [Path.held]
  omega

theorem poolOk_sendOut {s : State} {n : LineNo} {cs : List Char7} (hs : PoolOk s) (hroom : cs.length ≤ s.outRoom n) :
    PoolOk (s.sendOut n cs) := by
  obtain ⟨-, hlines⟩ := id hs
  obtain ⟨-, hheld, -, houtok⟩ := hlines n
  have hblocks := append_blocks_le houtok hroom
  simp only [Path.held] at hheld hblocks
  exact poolOk_setOut hs (append_ok houtok cs) (by omega) (by omega)

theorem poolOk_flush {s : State} (n : LineNo) (hs : PoolOk s) : PoolOk (s.flush n) := by
  obtain ⟨-, hlines⟩ := id hs
  obtain ⟨-, hheld, -, -⟩ := hlines n
  simp only [Path.held] at hheld
  exact poolOk_setOut hs empty_ok (by simp) (by rw [empty_blocks]; omega)

/-! ## Moves of the Character Path -/

theorem moved_setOut {s : State} {n : LineNo} {q : Queue} (h : PoolOk s → PoolOk (s.setOut n q)) : Moved s (s.setOut n q) :=
  (Move.pool n _ _ h).moved

theorem moved_setIn {s : State} {n : LineNo} {q : Queue} (h : PoolOk s → PoolOk (s.setIn n q)) : Moved s (s.setIn n q) :=
  (Move.pool n _ _ h).moved

theorem moved_sendOut {s : State} {n : LineNo} {cs : List Char7} (hroom : cs.length ≤ s.outRoom n) : Moved s (s.sendOut n cs) :=
  moved_setOut fun h => poolOk_sendOut h hroom

theorem moved_flush (s : State) (n : LineNo) : Moved s (s.flush n) := moved_setOut fun h => poolOk_flush n h

/-- Characters are read from the front of the outbound queue. -/
theorem moved_removeOut (s : State) (n : LineNo) (k : Nat) : Moved s (s.setOut n (s.path[n].outQ.remove k)) := by
  refine moved_setOut fun hs => ?_
  obtain ⟨-, hlines⟩ := id hs
  obtain ⟨-, hheld, -, -⟩ := hlines n
  have hle := remove_blocks_le s.path[n].outQ k
  simp only [Path.held] at hheld
  exact poolOk_setOut hs (remove_ok _ k) (by omega) (by omega)

/-- Characters are read from the front of the inbound queue. -/
theorem moved_removeIn (s : State) (n : LineNo) (k : Nat) : Moved s (s.setIn n (s.path[n].inQ.remove k)) := by
  refine moved_setIn fun hs => ?_
  obtain ⟨-, hlines⟩ := id hs
  obtain ⟨hin, hheld, -, -⟩ := hlines n
  have hle := remove_blocks_le s.path[n].inQ k
  simp only [Path.held] at hheld
  exact poolOk_setIn hs (remove_ok _ k) (by omega) (by omega) (by omega)

theorem moved_emptyIn (s : State) (n : LineNo) : Moved s (s.setIn n Queue.empty) := by
  refine moved_setIn fun hs => ?_
  obtain ⟨-, hlines⟩ := id hs
  obtain ⟨-, hheld, -, -⟩ := hlines n
  simp only [Path.held] at hheld
  exact poolOk_setIn hs empty_ok (by simp) (by simp) (by rw [empty_blocks]; omega)

/-- A character that finds inbound room is appended. -/
theorem moved_pushIn {s : State} {n : LineNo} (c : Char7) (hroom : 1 ≤ s.inRoom n) : Moved s (s.setIn n (s.path[n].inQ.append [c])) := by
  refine moved_setIn fun hs => ?_
  obtain ⟨-, hlines⟩ := id hs
  obtain ⟨hin, hheld, hinok, -⟩ := hlines n
  have hblocks := append_blocks_le (cs := [c]) hinok hroom
  simp only [Path.held] at hheld hblocks
  exact poolOk_setIn hs (append_ok hinok _) (by omega) (by omega) (by omega)

theorem moved_clearPath (s : State) (n : LineNo) : Moved s (s.clearPath n) := by
  refine (Move.pool n Path.fresh _ fun hs => ?_).moved
  exact poolOk_setPath hs rfl (Nat.zero_le _) (Nat.zero_le _) empty_ok empty_ok

theorem moved_endPath (s : State) (n : LineNo) : Moved s (s.endPath n) := (moved_emptyIn s n).trans (moved_updPath fun _ => rfl)

theorem moved_sendEcho (s : State) (n : LineNo) (c : Char7) : Moved s (s.sendEcho n c) := by
  unfold State.sendEcho
  split
  · next h => exact moved_sendOut h
  · exact moved_count s _

theorem moved_sendEchoes (s : State) (n : LineNo) (cs : List Char7) : Moved s (s.sendEchoes n cs) := by
  unfold State.sendEchoes
  induction cs generalizing s with
  | nil => exact .refl s
  | cons c cs ih => exact (moved_sendEcho s n c).trans (ih _)

theorem moved_takeText (s : State) (n : LineNo) (t : Text) : Moved s (s.takeText n t) := by
  unfold State.takeText
  split
  · exact (moved_count _ _).after (moved_updPath fun _ => rfl)
  · split
    · next h => exact moved_sendOut h
    · exact moved_updPath fun _ => rfl

theorem moved_noticeText (s : State) (n : LineNo) (t : Text) : Moved s (s.noticeText n t) := by
  unfold State.noticeText
  split
  · exact moved_takeText s n t
  · exact .refl s

theorem moved_signOnText (s : State) (n : LineNo) (t : Text) : Moved s (s.signOnText n t) := by
  unfold State.signOnText
  split
  · exact moved_takeText s n t
  · exact .refl s

theorem moved_noticeMessages (ms : List (Fin 16)) (n : LineNo) (s : State) : Moved s (State.noticeMessages ms n s) := by
  unfold State.noticeMessages
  induction ms generalizing s with
  | nil => exact .refl s
  | cons m ms ih => exact (moved_noticeText s n _).trans (ih _)

/-- The text in the slot goes to the queue, cut to the room (R46). -/
theorem moved_serveText (s : State) (n : LineNo) : Moved s (s.serveText n) := by
  unfold State.serveText
  split
  · exact .refl s
  · have room : (s.updPath n fun p => { p with slot := none }).outRoom n = s.outRoom n := by
      simp [State.outRoom, Path.held]
    refine (moved_sendOut ?_).after (moved_updPath fun _ => rfl)
    rw [room]
    exact List.length_take_le _ _

theorem moved_startTx (s : State) (n : LineNo) : Moved s (s.startTx n) := by
  unfold State.startTx
  split
  · split
    · exact moved_updPath fun _ => rfl
    · split
      · exact .refl s
      · exact (moved_removeOut s n 1).trans (moved_updPath fun _ => rfl)
  · exact .refl s

theorem moved_serve (k : Nat) (s : State) : Moved s (State.serve k s) := by
  induction k generalizing s with
  | zero => exact .refl s
  | succ k ih =>
    unfold State.serve
    split
    · exact .refl s
    · next u hu =>
      refine Moved.trans ?_ (ih u)
      unfold State.serveOnce at hu
      split at hu
      · split at hu
        · cases hu
        · cases hu; exact moved_eachLine _ (fun n s => moved_startTx s n) _ s
      · cases hu; exact moved_serveText s _
      · split at hu
        · cases hu
        · cases hu; exact (moved_serveText _ _).after (moved_of_vital rfl)

end Sys2Proof.Proofs.Pool
end

section
/-! The moves of the session records and of the Charge Queue: metering, holds, close causes, offers and confirmation requests (R69 to R71, R99 to R118). -/

namespace Sys2Proof.Proofs.SessionMoves

open Sys2Proof Sys2Proof.Machine Sys2Proof.Proofs.Moves Sys2Proof.Proofs.Pool

/-! ## An operation done once for each line -/

/-- An operation that for each line changes that line's part of a block by itself changes, done for several lines, the part of each of them. -/
theorem eachLine_get {α : Type} (g : State → LineNo → α) (f : LineNo → State → State) (h : LineNo → α → α)
    (self : ∀ n s, g (f n s) n = h n (g s n)) (others : ∀ n m s, n ≠ m → g (f n s) m = g s m) {ls : List LineNo} (once : ls.Nodup)
    (s : State) (m : LineNo) : g (eachLine ls f s) m = if m ∈ ls then h m (g s m) else g s m := by
  induction ls generalizing s with
  | nil => rfl
  | cons n ls ih =>
    obtain ⟨hn, once⟩ := List.nodup_cons.mp once
    rw [show eachLine (n :: ls) f s = eachLine ls f (f n s) from rfl, ih once]
    by_cases e : m = n
    · subst e
      simp [hn, self]
    · simp [e, others n m s (Ne.symm e)]

theorem allLines_nodup : allLines.Nodup := by decide

@[simp] theorem mem_allLines (n : LineNo) : n ∈ allLines := List.mem_finRange n

/-! ## Session records and notices -/

/-- A text replaces one that waits in the slot, and is counted (R45). -/
theorem takeText_of_slot {s : State} {n : LineNo} (t : Text) (h : s.path[n].slot.isSome = true) :
    s.takeText n t = (s.updPath n fun p => { p with slot := some t }).count .noticesReplaced := if_pos h

/-- A text that finds room is appended whole (R45). -/
theorem takeText_of_room {s : State} {n : LineNo} {t : Text} (h : s.path[n].slot.isSome = false)
    (hroom : textLength s.cfg t ≤ s.outRoom n) : s.takeText n t = s.sendOut n (textChars s.cfg t) :=
  (if_neg (Bool.eq_false_iff.mp h)).trans (if_pos hroom)

/-- A text that finds no room waits in the slot (R45). -/
theorem takeText_of_no_room {s : State} {n : LineNo} {t : Text} (h : s.path[n].slot.isSome = false)
    (hroom : ¬textLength s.cfg t ≤ s.outRoom n) : s.takeText n t = s.updPath n fun p => { p with slot := some t } :=
  (if_neg (Bool.eq_false_iff.mp h)).trans (if_neg hroom)

/-- Taking a text neither reads nor writes the session records. -/
theorem takeText_withSess (s : State) (v : Vector (Option Session) 16) (n : LineNo) (t : Text) :
    State.takeText { s with sess := v } n t = { s.takeText n t with sess := v } := by
  cases hslot : s.path[n].slot.isSome with
  | true => rw [takeText_of_slot t hslot]; exact takeText_of_slot t hslot
  | false =>
    by_cases hroom : textLength s.cfg t ≤ s.outRoom n
    · rw [takeText_of_room hslot hroom]; exact takeText_of_room hslot hroom
    · rw [takeText_of_no_room hslot hroom]; exact takeText_of_no_room hslot hroom

theorem noticeText_of_session {s : State} {n : LineNo} (t : Text) (h : s.st n = .session) : s.noticeText n t = s.takeText n t := if_pos h

theorem noticeText_of_other {s : State} {n : LineNo} (t : Text) (h : s.st n ≠ .session) : s.noticeText n t = s := if_neg h

theorem noticeText_withSess (s : State) (v : Vector (Option Session) 16) (n : LineNo) (t : Text) :
    State.noticeText { s with sess := v } n t = { s.noticeText n t with sess := v } := by
  by_cases h : s.st n = .session
  · rw [noticeText_of_session t h, ← takeText_withSess]; exact noticeText_of_session t h
  · rw [noticeText_of_other t h]; exact noticeText_of_other t h

theorem noticeMessages_withSess (ms : List (Fin 16)) (n : LineNo) (s : State) (v : Vector (Option Session) 16) :
    State.noticeMessages ms n { s with sess := v } = { State.noticeMessages ms n s with sess := v } := by
  unfold State.noticeMessages
  induction ms generalizing s with
  | nil => rfl
  | cons m ms ih =>
    simp only [List.foldl_cons]
    rw [noticeText_withSess, ih]

/-- An operation that neither reads nor writes the session records does neither when it is done for several lines. -/
theorem inFreeOrder_withSess (f : LineNo → State → State)
    (hf : ∀ n s (v : Vector (Option Session) 16), f n { s with sess := v } = { f n s with sess := v }) (ls : List LineNo) (s : State)
    (v : Vector (Option Session) 16) : inFreeOrder ls f { s with sess := v } = { inFreeOrder ls f s with sess := v } := by
  unfold inFreeOrder
  generalize ls.length + 1 = fuel
  induction fuel generalizing ls s with
  | zero => rfl
  | succ fuel ih =>
    match ls with
    | [] => rfl
    | [n] => exact hf n s v
    | n :: m :: rest =>
      simp only [freeLines]
      split
      · rfl
      · next p others _ => rw [hf p { s with draws := s.draws + 1 } v, ih]

/-! ## Close causes -/

/-- A session that a close cause reaches: the first one sets the reason and ends confirm-pending (R71). -/
def closedBy (r : CloseReason) (x : Session) : Session :=
  if x.reason = none then { x with reason := some r, confirm := none } else x

theorem closeCause_sess_self (n : LineNo) (r : CloseReason) (s : State) :
    (s.closeCause n r).sess[n] = s.sess[n].map (closedBy r) := by
  unfold State.closeCause closedBy
  split
  · next h => rw [h]; rfl
  · next x h =>
    rw [h]
    by_cases hr : x.reason = none
    · simp only [if_pos hr, Option.map_some]
      split <;> simp [State.setSess, State.setAsks]
    · simp only [if_neg hr, Option.map_some, h]

theorem closeCause_sess_ne {n m : LineNo} (hne : n ≠ m) (r : CloseReason) (s : State) : (s.closeCause n r).sess[m] = s.sess[m] := by
  unfold State.closeCause
  split
  · rfl
  · split
    · dsimp only
      split <;> simp only [State.setSess, State.setAsks, vector_set_get_ne _ _ hne]
    · rfl

/-- A close cause changes the session records, and of the vital part nothing else. -/
theorem vital_closeCause (n : LineNo) (r : CloseReason) (s : State) :
    vital (s.closeCause n r) = { vital s with sess := (s.closeCause n r).sess } := by
  unfold State.closeCause
  split
  · rfl
  · split
    · dsimp only
      split <;> rfl
    · rfl

/-- A meter step's session, once the close cause that the step gives has reached it. -/
def closedStep (m : MeterStep) : Session :=
  match m.close with
  | some r => closedBy r m.sess
  | none => m.sess

/-- What a meter step must leave: a finite allowance at 0 has its grace counter, its close reason, or its close cause. -/
def SoundStep (m : MeterStep) : Prop :=
  m.sess.residue < 3600 ∧ m.sess.duration ≤ meterTop ∧
    (m.sess.remaining = some 0 → m.sess.grace.isSome = true ∨ m.sess.reason.isSome = true ∨ m.close.isSome = true)

theorem closedBy_reason (r : CloseReason) (x : Session) : (closedBy r x).reason.isSome = true := by
  unfold closedBy
  split
  · rfl
  · next h => exact Option.isSome_iff_ne_none.mpr h

theorem sound_closedBy {x : Session} (r : CloseReason) (hresidue : x.residue < 3600) (hduration : x.duration ≤ meterTop) :
    SoundMeter (closedBy r x) := by
  refine ⟨?_, ?_, fun _ => .inr (closedBy_reason r x)⟩ <;> unfold closedBy <;> split <;> assumption

theorem SoundStep.closed {m : MeterStep} (h : SoundStep m) : SoundMeter (closedStep m) := by
  obtain ⟨hresidue, hduration, hgrace⟩ := h
  unfold closedStep
  split
  · exact sound_closedBy _ hresidue hduration
  · next hclose => exact ⟨hresidue, hduration, fun hzero => (hgrace hzero).imp_right fun h => by simpa [hclose] using h⟩

/-! ## A meter step applied -/

theorem noticeMessages_sess (ms : List (Fin 16)) (n : LineNo) (s : State) : (State.noticeMessages ms n s).sess = s.sess :=
  (congrArg State.sess (noticeMessages_withSess ms n s s.sess) : _)

/-- A meter step applied: the record it leaves is the closed one, and its notices are taken. -/
theorem vital_applyStep (s : State) (n : LineNo) (m : MeterStep) :
    vital (s.applyStep n m) = vital (State.noticeMessages m.notices n (s.setSess n (some (closedStep m)))) := by
  have setSess (x : Option Session) : State.noticeMessages m.notices n (s.setSess n x) =
      { State.noticeMessages m.notices n s with sess := s.sess.set n x } := noticeMessages_withSess _ n s _
  unfold State.applyStep
  dsimp only
  cases hclose : m.close with
  | none => rw [show (closedStep m) = m.sess by simp [closedStep, hclose]]
  | some r =>
    have closed : (State.closeCause n r (State.noticeMessages m.notices n (s.setSess n (some m.sess)))).sess =
        s.sess.set n (some (closedStep m)) := by
      refine vector_ext_fin fun i => ?_
      by_cases e : n = i
      · subst e
        rw [closeCause_sess_self, noticeMessages_sess]
        simp [State.setSess, closedStep, hclose]
      · rw [closeCause_sess_ne e, noticeMessages_sess, vector_set_get_ne _ _ e]
        exact vector_set_get_ne _ _ e
    dsimp only
    rw [vital_closeCause, closed, setSess, setSess]
    rfl

/-- A meter step applied to a line that has a session. -/
theorem moved_applyStep {s : State} {n : LineNo} {m : MeterStep} {x : Session} (hx : s.sess[n] = some x)
    (h : SoundMeter x → SoundStep m) : Moved s (s.applyStep n m) :=
  ((moved_setSess hx fun hs => (h hs).closed).trans (moved_noticeMessages m.notices n _)).congr (vital_applyStep s n m)

/-! ## The allowance and one tick -/

theorem advance_residue (x : Session) (r : Nat) : (x.advance r).residue < 3600 := Nat.mod_lt _ (by decide)

theorem advance_duration (x : Session) (r : Nat) : (x.advance r).duration ≤ meterTop := Nat.min_le_left _ _

/-- A tested allowance: at 0 there is a grace counter, or the close cause (R106). -/
theorem sound_testAllowance (cfg : Configuration) {x : Session} (hresidue : x.residue < 3600) (hduration : x.duration ≤ meterTop) :
    SoundStep (x.testAllowance cfg) := by
  unfold Session.testAllowance
  split
  · next h => exact ⟨hresidue, hduration, fun hzero => by simp [h] at hzero⟩
  · split
    · split
      · exact ⟨hresidue, hduration, fun _ => .inl rfl⟩
      · exact ⟨hresidue, hduration, fun _ => .inr (.inr rfl)⟩
    · next hgrace => exact ⟨hresidue, hduration, fun _ => .inl (Option.isSome_iff_ne_none.mpr hgrace)⟩
  · next h =>
    split
    · exact ⟨hresidue, hduration, fun hzero => by simp [h] at hzero⟩
    · exact ⟨hresidue, hduration, fun hzero => by simp [h] at hzero⟩

theorem SoundStep.lowerGrace {m : MeterStep} (h : SoundStep m) (before : Option Nat) : SoundStep (m.lowerGrace before) := by
  obtain ⟨hresidue, hduration, -⟩ := id h
  unfold MeterStep.lowerGrace
  split
  · exact ⟨hresidue, hduration, fun _ => .inl rfl⟩
  · exact h

theorem SoundStep.lowerIdle {m : MeterStep} (h : SoundStep m) : SoundStep m.lowerIdle := by
  obtain ⟨hresidue, hduration, hgrace⟩ := id h
  unfold MeterStep.lowerIdle
  split
  · next hclose _ =>
    refine ⟨hresidue, hduration, fun hzero => ?_⟩
    rcases hgrace hzero with hg | hr | hc
    · exact .inl hg
    · exact .inr (.inl hr)
    · simp [hclose] at hc
  · exact h

/-- A metered tick (R101 to R107). -/
theorem sound_meter (cfg : Configuration) (r : Nat) {x : Session} (h : SoundMeter x) : SoundStep (x.meter cfg r) := by
  obtain ⟨-, -, hgrace⟩ := h
  have hresidue : ((x.advance r).deduct (x.produced r)).residue < 3600 := advance_residue x r
  have hduration : ((x.advance r).deduct (x.produced r)).duration ≤ meterTop := advance_duration x r
  unfold Session.meter
  refine (SoundStep.lowerGrace ?_ _).lowerIdle
  split
  · next same =>
    refine ⟨hresidue, hduration, fun hzero => ?_⟩
    exact (hgrace (same ▸ hzero)).imp_right .inl
  · exact sound_testAllowance cfg hresidue hduration

theorem sound_holdTick (cfg : Configuration) (k : Nat) {x : Session} (h : SoundMeter x) : SoundStep (x.holdTick cfg k) := by
  obtain ⟨hresidue, hduration, hgrace⟩ := h
  exact ⟨hresidue, hduration, fun hzero => (hgrace hzero).imp_right .inl⟩

theorem sound_tickSession {s : State} {x : Session} {m : MeterStep} (h : s.tickSession x = some m) (hx : SoundMeter x) : SoundStep m := by
  unfold State.tickSession at h
  split at h
  · split at h
    · cases h; exact sound_holdTick _ _ hx
    · cases h; exact sound_meter _ _ hx
  · cases h

/-- What one tick leaves of line `n`'s session. -/
def ticked (s : State) (n : LineNo) : Option Session :=
  match s.tickLine n with
  | some m => some (closedStep m)
  | none => s.sess[n]

/-- The notices of a tick, taken with the session records as they stood. -/
def tickNotices (s : State) : State :=
  inFreeOrder (allLines.filter fun n => noticesOf (s.tickLine n) ≠ []) (fun n => State.noticeMessages (noticesOf (s.tickLine n)) n) s

/-- A close cause that a meter step gives, at a line's session record. -/
def closeByStep (m : Option MeterStep) (x : Option Session) : Option Session :=
  match m with
  | some ⟨_, _, some r⟩ => x.map (closedBy r)
  | _ => x

theorem closeBy_sess_self (n : LineNo) (m : Option MeterStep) (s : State) : (State.closeBy n m s).sess[n] = closeByStep m s.sess[n] := by
  rcases m with _ | ⟨x, ms, _ | r⟩
  · rfl
  · rfl
  · exact closeCause_sess_self n r s

theorem closeBy_sess_ne {n k : LineNo} (h : n ≠ k) (m : Option MeterStep) (s : State) : (State.closeBy n m s).sess[k] = s.sess[k] := by
  unfold State.closeBy
  split
  · exact closeCause_sess_ne h _ s
  · rfl

theorem vital_closeBy (n : LineNo) (m : Option MeterStep) (s : State) :
    vital (State.closeBy n m s) = { vital s with sess := (State.closeBy n m s).sess } := by
  unfold State.closeBy
  split
  · exact vital_closeCause n _ s
  · rfl

theorem vital_eachLine_closeBy (step : LineNo → Option MeterStep) (ls : List LineNo) (s : State) :
    vital (eachLine ls (fun n => State.closeBy n (step n)) s) =
      { vital s with sess := (eachLine ls (fun n => State.closeBy n (step n)) s).sess } := by
  induction ls generalizing s with
  | nil => rfl
  | cons n ls ih =>
    rw [show eachLine (n :: ls) (fun n => State.closeBy n (step n)) s =
      eachLine ls (fun n => State.closeBy n (step n)) (State.closeBy n (step n) s) from rfl, ih, vital_closeBy]

/-- One tick, the notices first: they neither read nor write the session records. -/
theorem vital_tick (s : State) :
    vital s.tick = { vital (tickNotices s) with sess := tabulate 16 (ticked s), clock := (tickNotices s).clock.advance } := by
  have notices : ∀ v : Vector (Option Session) 16,
      inFreeOrder (allLines.filter fun n => noticesOf (s.tickLine n) ≠ []) (fun n => State.noticeMessages (noticesOf (s.tickLine n)) n)
        { s with sess := v } = { tickNotices s with sess := v } :=
    fun v => inFreeOrder_withSess _ (fun n t v => noticeMessages_withSess _ n t v) _ s v
  unfold State.tick
  dsimp only
  rw [notices]
  generalize hv : (mapTable s.sess fun n x => match s.tickLine n with | some m => some m.sess | none => x) = v
  have closed : (eachLine allLines (fun n => State.closeBy n (s.tickLine n)) { tickNotices s with sess := v }).sess =
      tabulate 16 (ticked s) := by
    refine vector_ext_fin fun i => ?_
    rw [tabulate_get, eachLine_get (fun u n => u.sess[n]) _ (fun n => closeByStep (s.tickLine n)) (fun n u => closeBy_sess_self n _ u)
      (fun n m u h => closeBy_sess_ne h _ u) allLines_nodup, if_pos (mem_allLines i)]
    subst hv
    rw [mapTable_get]
    unfold ticked
    rcases s.tickLine i with _ | ⟨x, ms, _ | r⟩ <;> rfl
  have sessions := vital_eachLine_closeBy s.tickLine allLines { tickNotices s with sess := v }
  have clock : (eachLine allLines (fun n => State.closeBy n (s.tickLine n)) { tickNotices s with sess := v }).clock =
      (tickNotices s).clock := congrArg Vital.clock sessions
  rw [closed] at sessions
  show { vital (eachLine allLines (fun n => State.closeBy n (s.tickLine n)) { tickNotices s with sess := v }) with
    clock := (eachLine allLines (fun n => State.closeBy n (s.tickLine n)) { tickNotices s with sess := v }).clock.advance } = _
  rw [sessions, clock]
  rfl

theorem moved_tickNotices (s : State) : Moved s (tickNotices s) :=
  moved_inFreeOrder _ (fun n u => moved_noticeMessages _ n u) _ s

theorem tickNotices_sess (s : State) : (tickNotices s).sess = s.sess :=
  inFreeOrder_keeps State.sess _ (fun n u => noticeMessages_sess _ n u) (fun _ _ => rfl) _ s

/-- The clock's seconds and minutes wrap within their ranges (R97). -/
theorem clockOk_advance {c : Clock} (h : c.minute < 10080 ∧ c.second < 60) : c.advance.minute < 10080 ∧ c.advance.second < 60 := by
  obtain ⟨hminute, hsecond⟩ := h
  unfold Clock.advance
  split
  · exact ⟨hminute, by assumption⟩
  · refine ⟨?_, Nat.zero_lt_succ 59⟩
    dsimp only
    split <;> omega

/-- One tick is a chain: the notices, the session records, the clock. -/
theorem moved_tick (s : State) : Moved s s.tick := by
  have sessions : Moved (tickNotices s) { tickNotices s with sess := tabulate 16 (ticked s) } := by
    refine (Move.sessions _ fun n => ?_).moved
    rw [tabulate_get, tickNotices_sess]
    unfold ticked State.tickLine
    cases hx : s.sess[n] with
    | none => exact ⟨rfl, fun y hy => by cases hy⟩
    | some x =>
      rw [Option.bind_some]
      cases hm : s.tickSession x with
      | none => exact ⟨rfl, fun y hy hall => hall y hy⟩
      | some m => exact ⟨rfl, fun y hy hall => by cases hy; exact (sound_tickSession hm (hall x rfl)).closed⟩
  have clock := Move.moved (Move.clock (s := { tickNotices s with sess := tabulate 16 (ticked s) }) (tickNotices s).clock.advance
    fun h => clockOk_advance h)
  exact (((moved_tickNotices s).trans sessions).trans clock).congr (vital_tick s)

/-! ## Holds -/

theorem holdTest_sound (s : State) {x : Session} (h : SoundMeter x) : SoundMeter (s.holdTest x) := by
  unfold State.holdTest
  repeat' split
  all_goals exact h

/-- The session records mapped, each by itself, with its meter kept sound. -/
theorem moved_mapSess {s : State} {f : Session → Session} (h : ∀ x, SoundMeter x → SoundMeter (f x)) :
    Moved s { s with sess := mapTable s.sess fun _ x => x.map f } := by
  refine (Move.sessions _ fun n => ?_).moved
  rw [mapTable_get]
  cases s.sess[n] with
  | none => exact ⟨rfl, fun y hy => by cases hy⟩
  | some x => exact ⟨rfl, fun y hy hall => by cases hy; exact h x (hall x rfl)⟩

theorem moved_testHold (s : State) : Moved s s.testHold :=
  (moved_mapSess fun _ hx => holdTest_sound s hx).trans (moved_inFreeOrder _ (fun n u => moved_noticeMessages _ n u) _ _)

/-! ## The Charge Queue -/

/-- The offered records stand ahead: a record after an unoffered one is not offered. -/
theorem offeredFirst_iff (q : List Queued) : offeredFirst q = true ↔ q.Pairwise fun a b => b.offered = true → a.offered = true := by
  induction q with
  | nil => simp [offeredFirst]
  | cons r q ih =>
    unfold offeredFirst
    rw [List.pairwise_cons]
    cases hr : r.offered with
    | true => simp [ih]
    | false =>
      simp only [Bool.false_eq_true, if_false, imp_false, Bool.not_eq_true, List.all_eq_true, Bool.not_eq_true']
      refine ⟨fun h => ⟨h, ?_⟩, fun h => h.1⟩
      exact List.Pairwise.imp_of_mem (fun {a b} _ hb => by simp [h b hb]) (List.pairwise_of_forall (l := q) fun _ _ => trivial)

theorem offeredCount_le_of_sublist {p q : List Queued} (h : p.Sublist q) : offeredCount p ≤ offeredCount q :=
  (h.filter _).length_le

/-- Records taken out of the queue leave it ordered. -/
theorem queueOk_of_sublist {s : State} {q : List Queued} (h : q.Sublist s.queue) (hs : QueueOk s) : QueueOk { s with queue := q } := by
  obtain ⟨hserials, hcount, hfirst⟩ := hs
  rw [offeredFirst_iff] at hfirst
  exact ⟨hserials.sublist h, (offeredCount_le_of_sublist h).trans hcount, (offeredFirst_iff q).mpr (hfirst.sublist h)⟩

theorem moved_sublistQueue {s : State} {q : List Queued} (h : q.Sublist s.queue) : Moved s { s with queue := q } :=
  (Move.queue q h.length_le fun hs => queueOk_of_sublist h hs).moved

theorem offerOldest_serials (now : Moment) (q : List Queued) :
    (offerOldest now q).map (fun r => r.charge.serial) = q.map fun r => r.charge.serial := by
  induction q with
  | nil => rfl
  | cons r q ih =>
    unfold offerOldest
    split
    · simp [ih]
    · rfl

theorem offerOldest_length (now : Moment) (q : List Queued) : (offerOldest now q).length = q.length := by
  simpa using congrArg List.length (offerOldest_serials now q)

theorem offeredCount_cons (r : Queued) (q : List Queued) : offeredCount (r :: q) = offeredCount q + if r.offered then 1 else 0 := by
  unfold offeredCount
  cases h : r.offered <;> simp [h]

theorem offeredCount_offerOldest (now : Moment) (q : List Queued) : offeredCount (offerOldest now q) ≤ offeredCount q + 1 := by
  induction q with
  | nil => exact Nat.zero_le _
  | cons r q ih =>
    unfold offerOldest
    split
    · next h => simp only [offeredCount_cons, h, if_true]; omega
    · next h => simp [offeredCount_cons, h]

theorem offeredFirst_offerOldest (now : Moment) {q : List Queued} (h : offeredFirst q = true) : offeredFirst (offerOldest now q) = true := by
  induction q with
  | nil => rfl
  | cons r q ih =>
    unfold offeredFirst at h
    unfold offerOldest
    cases hr : r.offered with
    | true =>
      rw [hr] at h
      simp only [if_true, offeredFirst, hr]
      exact ih h
    | false =>
      rw [hr] at h
      simp only [Bool.false_eq_true, if_false] at h ⊢
      simp only [offeredFirst, if_true]
      cases q with
      | nil => rfl
      | cons x q =>
        simp only [List.all_cons, Bool.and_eq_true, Bool.not_eq_true'] at h
        obtain ⟨hx, hq⟩ := h
        simp only [offeredFirst, hx, Bool.false_eq_true, if_false]
        exact hq

theorem pairwise_serials_iff (q : List Queued) :
    q.Pairwise (fun a b => a.charge.serial ≠ b.charge.serial) ↔ (q.map fun r => r.charge.serial).Pairwise (· ≠ ·) :=
  List.pairwise_map.symm

/-- One more offer, with fewer than four records offered, leaves the queue ordered (R116, R118). -/
theorem queueOk_offerOldest {s : State} (now : Moment) (hroom : offeredCount s.queue < offerWindow) (hs : QueueOk s) :
    QueueOk { s with queue := offerOldest now s.queue } := by
  obtain ⟨hserials, -, hfirst⟩ := hs
  refine ⟨?_, (offeredCount_offerOldest now s.queue).trans hroom, offeredFirst_offerOldest now hfirst⟩
  rw [pairwise_serials_iff] at hserials ⊢
  exact (offerOldest_serials now s.queue).symm ▸ hserials

/-- With no record offered the queue is ordered (R123). -/
theorem queueOk_unoffer {s : State} (hs : QueueOk s) : QueueOk { s with queue := s.queue.map Queued.unoffer } := by
  obtain ⟨hserials, -, -⟩ := hs
  refine ⟨List.pairwise_map.mpr hserials, ?_, (offeredFirst_iff _).mpr (List.pairwise_map.mpr ?_)⟩
  · have none : offeredCount (s.queue.map Queued.unoffer) = 0 := by simp [offeredCount, Queued.unoffer]
    exact none ▸ Nat.zero_le _
  · exact List.pairwise_of_forall fun _ _ h => by cases h

theorem moved_offerOne (s : State) : Moved s s.offerOne := by
  unfold State.offerOne
  split
  · split
    · next h =>
      have offer := Move.queue (s := s) _ (offerOldest_length s.now s.queue).le (queueOk_offerOldest s.now h)
      exact (moved_raise _ _).after offer.moved
    · exact .refl s
  · exact .refl s

theorem moved_unoffer (s : State) : Moved s { s with queue := s.queue.map Queued.unoffer } :=
  (Move.queue _ (List.length_map _).le queueOk_unoffer).moved

theorem moved_updateOffers (s : State) : Moved s s.updateOffers := by
  unfold State.updateOffers
  split
  · exact (((moved_offerOne s).trans (moved_offerOne _)).trans (moved_offerOne _)).trans (moved_offerOne _)
  · exact moved_unoffer s

/-! ## Confirmation requests and the roster -/

theorem moved_raiseConfirm (n : LineNo) (s : State) : Moved s (s.raiseConfirm n) := by
  unfold State.raiseConfirm
  refine (moved_raise _ _).after ((moved_setClaims _ n _).after ((moved_updSess ?_).after (moved_of_vital rfl)))
  exact fun _ h => h

theorem moved_raiseConfirms (s : State) : Moved s s.raiseConfirms := moved_inFreeOrder _ (fun n u => moved_raiseConfirm n u) _ s

theorem moved_clearChannelHold (s : State) (p : LineNo → Bool) : Moved s (s.clearChannelHold p) := by
  have queues : (mapTable s.path fun n x => if p n then { x with channelHold := false } else x).map queuesOf = s.path.map queuesOf := by
    refine vector_ext_fin fun i => ?_
    rw [vector_map_get, vector_map_get, mapTable_get]
    split <;> rfl
  refine moved_of_vital ?_
  simp only [vital, State.clearChannelHold, queues]

theorem moved_reactRoster (s : State) (before : Vector RosterEntry 16) (returned : Option Station) :
    Moved s (s.reactRoster before returned) := by
  have react : Moved s (s.clearChannelHold (s.channelTurnedAbsent before)).testHold.updateOffers :=
    ((moved_clearChannelHold s _).trans (moved_testHold _)).trans (moved_updateOffers _)
  unfold State.reactRoster
  dsimp only
  split
  · exact react.trans (moved_raiseConfirms _)
  · exact react

theorem moved_changeRoster (s : State) (i : Station) (f : RosterEntry → RosterEntry) (returned : Option Station) :
    Moved s (s.changeRoster i f returned) := by
  unfold State.changeRoster
  split
  · exact .refl s
  · exact (moved_reactRoster _ _ _).after (moved_of_vital rfl)

theorem moved_hear (s : State) (i : Station) : Moved s (s.hear i) := moved_changeRoster s i _ none

theorem moved_markAbsent (s : State) (i : Station) : Moved s (s.markAbsent i) := moved_changeRoster s i _ none

/-! ## The closing work -/

theorem moved_updateFlow (n : LineNo) (s : State) : Moved s (s.updateFlow n) := by
  unfold State.updateFlow
  split
  · exact .refl s
  · exact (moved_raise _ _).after (moved_updPath fun _ => rfl)

theorem moved_reportDrained (n : LineNo) (s : State) : Moved s (s.reportDrained n) := by
  unfold State.reportDrained
  split
  · split
    · exact moved_setAsks s n _
    · split
      · split
        · exact moved_closeCause n _ s
        · exact .refl s
      · exact .refl s
    · exact .refl s
  · exact .refl s

theorem moved_raiseDataIn (before : State) (n : LineNo) (s : State) : Moved s (State.raiseDataIn before n s) := by
  unfold State.raiseDataIn
  split
  · exact moved_raise s _
  · exact .refl s

theorem moved_raiseLineState (before : State) (every : Bool) (n : LineNo) (s : State) :
    Moved s (State.raiseLineState before every n s) := by
  unfold State.raiseLineState
  split
  · split
    · exact moved_raise s _
    · exact .refl s
  · exact .refl s

/-- The closing work of an event. -/
theorem moved_settle (s before : State) (every : Bool) : Moved s (s.settle before every) := by
  unfold State.settle
  split
  · have served : Moved s (State.serve serveRounds s.testHold.updateOffers) :=
      ((moved_testHold s).trans (moved_updateOffers _)).trans (moved_serve _ _)
    exact (((served.trans (moved_eachLine _ moved_updateFlow _ _)).trans (moved_eachLine _ moved_reportDrained _ _)).trans
      (moved_eachLine _ (moved_raiseDataIn before) _ _)).trans (moved_eachLine _ (moved_raiseLineState before every) _ _)
  · exact .refl s

end Sys2Proof.Proofs.SessionMoves
end

section
/-! The moves of the line records and of the sign-on contexts: the Line Supervisor, the Sign-On Controller, the Line Prover and the Character Path
(Chapters 1 to 3 and 8). -/

namespace Sys2Proof.Proofs.LineMoves

open Sys2Proof Sys2Proof.Machine Sys2Proof.Proofs.Moves Sys2Proof.Proofs.Pool Sys2Proof.Proofs.SessionMoves

/-! ## Timers and measurements of a line record (R5) -/

theorem timersOk_fresh (st : LineState) (ri cd : Bool) : (LineRec.fresh st ri cd).timersOk := by simp [LineRec.timersOk, LineRec.fresh]

theorem timersOk_enterIdle (l : LineRec) (now : Moment) : (l.enterIdle now).timersOk := by
  unfold LineRec.enterIdle
  split <;> simp [LineRec.timersOk, LineRec.fresh]

theorem timersOk_enterOut (l : LineRec) : l.enterOut.timersOk := by simp [LineRec.enterOut, LineRec.timersOk, LineRec.fresh]

theorem timersOk_stuck (l : LineRec) : l.stuck.timersOk := by simp [LineRec.stuck, LineRec.timersOk, LineRec.fresh]

theorem timersOk_enterAnswering (l : LineRec) (now wait : Nat) : (l.enterAnswering now wait).timersOk := by
  simp [LineRec.enterAnswering, LineRec.timersOk, LineRec.fresh]

theorem timersOk_enterHangup (l : LineRec) (guard : Option Moment) : (l.enterHangup guard).timersOk := by
  simp [LineRec.enterHangup, LineRec.timersOk, LineRec.fresh]

theorem timersOk_enterClosing (l : LineRec) (now : Moment) : (l.enterClosing now).timersOk := by
  simp [LineRec.enterClosing, LineRec.timersOk, LineRec.fresh]

theorem timersOk_enterCall (l : LineRec) {st : LineState} (h : ofRecord st) : (l.enterCall st).timersOk := by
  rcases h with rfl | rfl <;> simp [LineRec.enterCall, LineRec.timersOk, LineRec.fresh]

theorem timersOk_enterProving (l : LineRec) : l.enterProving.timersOk := by
  simp [LineRec.enterProving, LineRec.timersOk, LineRec.fresh]

theorem timersOk_leaveProving (l : LineRec) (now : Moment) (o : Origin) (v : ProvingVerdict) : (l.leaveProving now o v).timersOk := by
  unfold LineRec.leaveProving
  split
  · split
    · exact timersOk_enterIdle _ _
    · exact timersOk_enterOut _
  · exact timersOk_enterOut _

/-! ## The state that each move of a line enters -/

theorem enterIdle_st (l : LineRec) (now : Moment) : (l.enterIdle now).st = if l.outPending then .out else .idle := by
  unfold LineRec.enterIdle
  split <;> rfl

theorem not_ofRecord_enterIdle (l : LineRec) (now : Moment) : ¬ofRecord (l.enterIdle now).st := by
  rw [enterIdle_st]
  split <;> simp [ofRecord]

theorem not_ofRecord_leaveProving (l : LineRec) (now : Moment) (o : Origin) (v : ProvingVerdict) :
    ¬ofRecord (l.leaveProving now o v).st := by
  have out (k : LineRec) : ¬ofRecord k.enterOut.st := by simp [ofRecord, LineRec.enterOut, LineRec.fresh]
  unfold LineRec.leaveProving
  split
  · split
    · exact not_ofRecord_enterIdle _ _
    · exact out _
  · exact out _

/-! ## Line records -/

/-- A line record changes without a change of state. -/
theorem moved_updSup_same {s : State} {n : LineNo} {f : LineRec → LineRec} (hst : (f s.sup[n]).st = s.st n)
    (ht : s.sup[n].timersOk → (f s.sup[n]).timersOk) : Moved s (s.updSup n f) := (Move.line n _ (.inl hst) ht).moved

/-- A line goes from one state without a record to another. -/
theorem moved_updSup {s : State} {n : LineNo} {f : LineRec → LineRec} (hst : ¬ofRecord (s.st n)) (hf : ¬ofRecord (f s.sup[n]).st)
    (ht : (f s.sup[n]).timersOk) : Moved s (s.updSup n f) :=
  (Move.line n _ (.inr ⟨unrecorded_of_not_ofRecord hst, hf⟩) fun _ => ht).moved

theorem not_ofRecord_hangup (l : LineRec) (guard : Option Moment) : ¬ofRecord (l.enterHangup guard).st := by
  simp [ofRecord, LineRec.enterHangup, LineRec.fresh]

theorem not_ofRecord_closing (l : LineRec) (now : Moment) : ¬ofRecord (l.enterClosing now).st := by
  simp [ofRecord, LineRec.enterClosing, LineRec.fresh]

/-- Entry to HANGUP once the line has left its call's record behind. -/
theorem moved_hangup_rest {s u : State} {n : LineNo}
    (h : Moved s (u.updSup n fun l => l.enterHangup (some (u.now + 1000 * u.cfg.times.hangupGuard)))) : Moved s (u.hangup n) :=
  (h.trans (moved_setAsks _ n _)).trans (moved_clearPath _ n)

/-- A line with no record to lose hangs up. -/
theorem moved_hangup_unrecorded {s : State} {n : LineNo} (h : Unrecorded s n) : Moved s (s.hangup n) :=
  moved_hangup_rest (Move.line n _ (.inr ⟨h, not_ofRecord_hangup _ _⟩) fun _ => timersOk_enterHangup _ _).moved

theorem moved_hangup {s : State} {n : LineNo} (h : ¬ofRecord (s.st n)) : Moved s (s.hangup n) :=
  moved_hangup_unrecorded (unrecorded_of_not_ofRecord h)

/-! ## Ringing -/

theorem not_ofRecord_of {st : LineState} (h : st ≠ .signon) (k : st ≠ .session) : ¬ofRecord st := fun o => o.elim h k

/-- A burst measurement begins in IDLE and RINGING. -/
theorem moved_beginBurst {s : State} {n : LineNo} (h : s.st n = .idle ∨ s.st n = .ringing) (b : Option Moment) :
    Moved s (s.updSup n fun l => { l with burst := b }) :=
  moved_updSup_same rfl fun ht => by
    rcases h with h | h <;> simp_all [LineRec.timersOk, State.st]

theorem moved_riRise (s : State) (n : LineNo) : Moved s (s.riRise n) := by
  unfold State.riRise
  split
  · exact .refl s
  · have level : Moved s (s.updSup n fun l => { l with ri := true }) := moved_updSup_same rfl id
    have st : (s.updSup n fun l => { l with ri := true }).st n = s.st n := updSup_st s n _
    dsimp only
    split
    · next h => exact level.trans (moved_beginBurst (.inl (st.trans h)) _)
    · next h => exact level.trans (moved_beginBurst (.inr (st.trans h)) _)
    · split
      · exact level
      · exact level.trans (moved_count _ _)
    all_goals exact level

theorem not_ofRecord_countBurst (l : LineRec) (s : State) (n : LineNo) (count : Nat) (busy : Bool) :
    ¬ofRecord (l.countBurst s n count busy).st := by
  unfold LineRec.countBurst
  split
  · simp [ofRecord]
  · split <;> simp [ofRecord, LineRec.enterAnswering, LineRec.fresh]

theorem timersOk_countBurst {l : LineRec} (s : State) (n : LineNo) (count : Nat) (busy : Bool) (hst : l.st = .idle ∨ l.st = .ringing)
    (h : l.timersOk) : (l.countBurst s n count busy).timersOk := by
  have other : l.st ≠ .answering ∧ l.st ≠ .signon ∧ l.st ≠ .session ∧ l.st ≠ .closing ∧ l.st ≠ .hangup := by
    rcases hst with h | h <;> simp [h]
  unfold LineRec.countBurst
  split
  · simp_all [LineRec.timersOk]
  · split
    · simp_all [LineRec.timersOk]
    · exact timersOk_enterAnswering _ _ _

theorem moved_noteBusyRing (s : State) (n : LineNo) (count : Nat) (busy : Bool) : Moved s (s.noteBusyRing n count busy) := by
  unfold State.noteBusyRing
  split
  · exact moved_count s _
  · exact .refl s

theorem moved_countBurst {s : State} {n : LineNo} (t : State) (count : Nat) (busy : Bool) (h : s.st n = .idle ∨ s.st n = .ringing) :
    Moved s (s.updSup n fun l => l.countBurst t n count busy) :=
  (Move.line n _ (.inr ⟨unrecorded_of_not_ofRecord (by rcases h with h | h <;> simp [h, ofRecord]), not_ofRecord_countBurst _ _ _ _ _⟩)
    fun ht => timersOk_countBurst t n count busy h ht).moved

theorem moved_validBurst (s : State) (n : LineNo) (busy : Bool) : Moved s (s.validBurst n busy) := by
  unfold State.validBurst
  split
  · next h => exact (moved_countBurst s 1 busy (.inl h)).trans (moved_noteBusyRing _ _ _ _)
  · next h =>
    split
    · refine (moved_count _ _).after (moved_updSup_same rfl fun ht => ?_)
      simp_all [LineRec.timersOk, State.st]
    · exact (moved_countBurst s _ busy (.inr h)).trans (moved_noteBusyRing _ _ _ _)
  all_goals exact .refl s

theorem moved_riFall (s : State) (n : LineNo) : Moved s (s.riFall n) := by
  unfold State.riFall
  split
  · have level : Moved s (s.updSup n fun l => { l with ri := false, burst := none }) :=
      moved_updSup_same rfl fun ht => by simp_all [LineRec.timersOk]
    dsimp only
    split
    · split
      · exact level.trans (moved_validBurst _ n _)
      · exact level
    · exact level
  · exact .refl s

theorem moved_stuckRing {s : State} {n : LineNo} (h : s.ringStuck n = true) : Moved s (s.updSup n LineRec.stuck) := by
  have measured : (s.st n).measured = true := by
    simp only [State.ringStuck, Bool.and_eq_true] at h
    exact h.1.1
  refine moved_updSup ?_ (by simp [ofRecord, LineRec.stuck, LineRec.fresh]) (timersOk_stuck _)
  rintro (e | e) <;> simp [e, LineState.measured] at measured

theorem moved_enterIdle {s : State} {n : LineNo} (now : Moment) (h : ¬ofRecord (s.st n)) : Moved s (s.updSup n fun l => l.enterIdle now) :=
  moved_updSup h (not_ofRecord_enterIdle _ _) (timersOk_enterIdle _ _)

theorem moved_ringSilenceExpiry (s : State) (n : LineNo) : Moved s (s.ringSilenceExpiry n) := by
  unfold State.ringSilenceExpiry
  split
  · next h =>
    obtain ⟨hst, -⟩ := h
    have ringing : ¬ofRecord (s.st n) := by simp [hst, ofRecord]
    dsimp only
    split
    · exact moved_enterIdle _ ringing
    · exact (moved_count s _).trans (moved_enterIdle _ ringing)
  · exact .refl s

/-! ## Carrier -/

/-- A dropout measurement begins, ends or goes on in the states of a call. -/
theorem moved_dropout {s : State} {n : LineNo} (h : s.st n = .signon ∨ s.st n = .session ∨ s.st n = .closing) (d : Option Moment) :
    Moved s (s.updSup n fun l => { l with dropout := d }) :=
  moved_updSup_same rfl fun ht => by
    rcases h with h | h | h <;> simp_all [LineRec.timersOk, State.st]

theorem moved_qual {s : State} {n : LineNo} (h : s.st n = .answering) (q : Option Moment) :
    Moved s (s.updSup n fun l => { l with qual := q }) :=
  moved_updSup_same rfl fun ht => by simp_all [LineRec.timersOk, State.st]

theorem moved_cdRise (s : State) (n : LineNo) : Moved s (s.cdRise n) := by
  unfold State.cdRise
  split
  · exact .refl s
  · have level : Moved s (s.updSup n fun l => { l with cd := true }) := moved_updSup_same rfl id
    have st : (s.updSup n fun l => { l with cd := true }).st n = s.st n := updSup_st s n _
    have hit (h : s.st n = .signon ∨ s.st n = .session ∨ s.st n = .closing) :
        Moved s (((s.updSup n fun l => { l with cd := true }).updSup n fun l => { l with dropout := none }).count .carrierHits) :=
      (level.trans (moved_dropout (st ▸ h) none)).trans (moved_count _ _)
    dsimp only
    split
    · next h => exact level.trans (moved_qual (st.trans h) _)
    · next h => split; exacts [hit (.inl h), level]
    · next h => split; exacts [hit (.inr (.inl h)), level]
    · next h => split; exacts [hit (.inr (.inr h)), level]
    · split
      · exact level.trans (moved_setRun _ n _)
      · exact level.trans (moved_setRun _ n _)
      · exact level
    all_goals exact level

theorem moved_cdFall (s : State) (n : LineNo) : Moved s (s.cdFall n) := by
  unfold State.cdFall
  split
  · have level : Moved s (s.updSup n fun l => { l with cd := false }) := moved_updSup_same rfl id
    have st : (s.updSup n fun l => { l with cd := false }).st n = s.st n := updSup_st s n _
    dsimp only
    split
    · next h => exact level.trans (moved_qual (st.trans h) _)
    · next h => exact level.trans (moved_dropout (.inl (st.trans h)) _)
    · next h => exact level.trans (moved_dropout (.inr (.inl (st.trans h))) _)
    · next h => exact level.trans (moved_dropout (.inr (.inr (st.trans h))) _)
    · split
      · exact level.trans (moved_setRun _ n _)
      · exact level.trans (moved_setRun _ n _)
      · exact level
    all_goals exact level
  · exact .refl s

theorem moved_enterSignOn {s : State} {n : LineNo} (h : s.carrierGood n = true) : Moved s (s.enterSignOn n) := by
  have st : s.st n = .answering := by
    simp only [State.carrierGood, Bool.and_eq_true, decide_eq_true_eq] at h
    exact h.1.1
  exact (Move.signOn n _ _ (by simp [st, ofRecord]) rfl (fun _ => timersOk_enterCall _ (.inl rfl)) rfl).moved

theorem moved_carrierWait {s : State} {n : LineNo} (h : s.st n = .answering) : Moved s ((s.count .carrierWaitTimeouts).hangup n) :=
  (moved_count s _).trans (moved_hangup (by simp [h, ofRecord]))

/-! ## Sessions and contexts at their end -/

/-- Raising a request neither reads nor writes a line record. -/
theorem raise_setSup (s : State) (i : ReqId) (n : LineNo) (x : LineRec) : (s.raise i).setSup n x = (s.setSup n x).raise i := by
  by_cases h : (s.req i).pending = true
  · exact (congrArg (State.setSup · n x) (if_pos h)).trans (if_pos (c := ((s.setSup n x).req i).pending = true) h).symm
  · exact (congrArg (State.setSup · n x) (if_neg h)).trans (if_neg (c := ((s.setSup n x).req i).pending = true) h).symm

theorem raise_setSess (s : State) (i : ReqId) (n : LineNo) (x : Option Session) :
    (s.raise i).setSess n x = (s.setSess n x).raise i := by
  by_cases h : (s.req i).pending = true
  · exact (congrArg (State.setSess · n x) (if_pos h)).trans (if_pos (c := ((s.setSess n x).req i).pending = true) h).symm
  · exact (congrArg (State.setSess · n x) (if_neg h)).trans (if_neg (c := ((s.setSess n x).req i).pending = true) h).symm

theorem raiseRelease_setSess (s : State) (n : LineNo) (r : ReleaseSlot) (x : Option Session) :
    (s.raiseRelease n r).setSess n x = (s.setSess n x).raiseRelease n r := raise_setSess _ _ n x

theorem raiseRelease_setSup (s : State) (n : LineNo) (r : ReleaseSlot) (l : LineRec) :
    (s.raiseRelease n r).setSup n l = (s.setSup n l).raiseRelease n r := raise_setSup _ _ n l

/-- The end of a session and its line's next record, the charge record and the line first. -/
theorem endSession_setSup (s : State) (n : LineNo) (x : Session) (r : CloseReason) (l : LineRec) :
    ∃ rel cl, (State.endSession n x r s).setSup n l =
      (((((s.appendCharge n (x.finish s.cfg) r).setSess n none).setSup n l).raiseRelease n rel).setClaims n cl).endPath n := by
  let rel : ReleaseSlot := ⟨x.user, x.serial, .closed r⟩
  let s2 := (s.appendCharge n (x.finish s.cfg) r).raiseRelease n rel
  refine ⟨rel, { s2.claims[n] with surveyOwed := false }, ?_⟩
  rw [← raiseRelease_setSup, ← raiseRelease_setSess]
  rfl

/-- A session ends and its line leaves SESSION (R72). -/
theorem moved_endSession {s : State} {n : LineNo} {x : Session} (r : CloseReason) {l : LineRec} (hst : s.st n = .session)
    (hl : ¬ofRecord l.st) (ht : l.timersOk) : Moved s ((State.endSession n x r s).setSup n l) := by
  obtain ⟨rel, cl, e⟩ := endSession_setSup s n x r l
  have ended : Moved s (((s.appendCharge n (x.finish s.cfg) r).setSess n none).setSup n l) :=
    (Move.ended n l (x.finish s.cfg) r hst hl fun _ => ht).moved
  rw [e]
  exact ((ended.trans (moved_raiseRelease _ n rel)).trans (moved_setClaims _ n cl)).trans (moved_endPath _ n)

/-- A disconnect in SESSION. -/
theorem moved_dropSession {s : State} {n : LineNo} (hst : s.st n = .session) : Moved s (State.hangup (s.dropSession n) n) := by
  unfold State.dropSession
  split
  · next hx => exact moved_hangup_unrecorded ⟨fun e => by simp [hst] at e, fun _ => hx⟩
  · exact moved_hangup_rest (moved_endSession _ hst (not_ofRecord_hangup _ _) (timersOk_enterHangup _ _))

/-- A context is discarded and its line leaves SIGNON. -/
theorem moved_discardContext {s : State} {n : LineNo} {l : LineRec} (hst : s.st n = .signon) (hl : ¬ofRecord l.st) (ht : l.timersOk) :
    Moved s ((s.setSup n l).setSign n none) := (Move.signOff n l hst hl fun _ => ht).moved

/-- A disconnect in SIGNON. -/
theorem moved_dropContext {s : State} {n : LineNo} (hst : s.st n = .signon) : Moved s ((s.dropContext n).hangup n) := by
  have drop (u : State) (hu : u.st n = .signon) : Moved u ((u.setSign n none).hangup n) :=
    moved_hangup_rest (moved_discardContext hu (not_ofRecord_hangup u.sup[n] _) (timersOk_enterHangup _ _))
  unfold State.dropContext
  split
  · next hc => exact moved_hangup_unrecorded ⟨fun _ => hc, fun e => by simp [hst] at e⟩
  · dsimp only
    split
    · refine (moved_raiseRelease s n _).trans (drop _ ?_)
      rw [State.st, raiseRelease_sup]
      exact hst
    · exact drop s hst

/-! ## The requests made of the Line Supervisor -/

theorem moved_disconnect {s : State} {n : LineNo} : Moved s (s.disconnect n) := by
  unfold State.disconnect
  split
  · next hst => exact moved_dropContext hst
  · next hst => exact moved_dropSession hst
  · next hsign hsess => exact moved_hangup (not_ofRecord_of hsign hsess)

theorem moved_takeRefuse (s : State) (n : LineNo) : Moved s (s.takeRefuse n) := by
  unfold State.takeRefuse
  split
  · exact .refl s
  · dsimp only
    have taken := moved_setAsks s n { s.asks[n] with refuse := none }
    split
    · next hst =>
      refine taken.trans ((moved_takeText _ n _).after ?_)
      exact moved_discardContext hst (not_ofRecord_closing _ _) (timersOk_enterClosing _ _)
    · exact taken

theorem moved_closeMove {s : State} {n : LineNo} {x : Session} (r : CloseReason) (hst : s.st n = .session) : Moved s (s.closeMove n x r) := by
  have ended : Moved s (State.updSup (s.endSession n x r) n fun l => l.enterClosing s.now) :=
    moved_endSession r hst (not_ofRecord_closing _ _) (timersOk_enterClosing _ _)
  unfold State.closeMove
  dsimp only
  split
  · exact ended.trans (moved_takeText _ n _)
  · exact (ended.trans (moved_flush _ n)).trans (moved_takeText _ n _)

theorem moved_takeClose (s : State) (n : LineNo) : Moved s (s.takeClose n) := by
  unfold State.takeClose
  split
  · dsimp only
    have taken := moved_setAsks s n { s.asks[n] with close := false }
    split
    · next hst _ =>
      split
      · exact taken.trans (moved_closeMove _ hst)
      · exact taken
    · exact taken
  · exact .refl s

theorem moved_takeDrained (s : State) (n : LineNo) : Moved s (s.takeDrained n) := by
  unfold State.takeDrained
  split
  · dsimp only
    have taken := moved_setAsks s n { s.asks[n] with drained := false }
    split
    · next hst => exact taken.trans (moved_hangup (not_ofRecord_of (by simp [hst]) (by simp [hst])))
    · exact taken
  · exact .refl s

/-! ## Proving runs -/

theorem moved_fillResult (s : State) (n : LineNo) (r : RunResult) : Moved s (s.fillResult n r) :=
  (moved_raise _ _).after (moved_of_vital rfl)

theorem moved_endRun (s : State) (n : LineNo) (v : ProvingVerdict) : Moved s (s.endRun n v) := by
  unfold State.endRun
  exact ((moved_fillResult s n _).trans (moved_setRun _ n _)).thenUpdPath fun _ => rfl

theorem moved_finishRun (s : State) (n : LineNo) (v : ProvingVerdict) : Moved s (s.finishRun n v) :=
  (moved_endRun s n v).trans (moved_setAsks _ n _)

theorem moved_takeBegin (s : State) (n : LineNo) : Moved s (s.takeBegin n) := by
  have proving {u : State} (h : ¬ofRecord (u.st n)) : Moved u (u.updSup n LineRec.enterProving) :=
    moved_updSup h (by simp [ofRecord, LineRec.enterProving, LineRec.fresh]) (timersOk_enterProving _)
  unfold State.takeBegin
  split
  · exact .refl s
  · next b rest _ =>
    have taken := moved_setAsks s n { s.asks[n] with begin := rest }
    dsimp only
    split
    · next hst => exact (taken.trans (proving (by simp [hst, ofRecord]))).trans (moved_setRun _ n _)
    · next hst => exact (taken.trans (proving (by simp [hst, ofRecord]))).trans (moved_setRun _ n _)
    all_goals exact taken.trans (moved_fillResult _ n _)

theorem moved_leaveProving {s : State} {n : LineNo} (now : Moment) (o : Origin) (v : ProvingVerdict) (h : s.st n = .proving) :
    Moved s (s.updSup n fun l => l.leaveProving now o v) :=
  moved_updSup (by simp [h, ofRecord]) (not_ofRecord_leaveProving _ _ _ _) (timersOk_leaveProving _ _ _ _)

theorem moved_takeEnd (s : State) (n : LineNo) : Moved s (s.takeEnd n) := by
  unfold State.takeEnd
  split
  · exact .refl s
  · have taken := moved_setAsks s n { s.asks[n] with endRun := none }
    dsimp only
    split
    · next hst => exact taken.trans (moved_leaveProving _ _ _ hst)
    · exact taken

theorem moved_sendPattern (s : State) (n : LineNo) : Moved s (s.sendPattern n) := by
  unfold State.sendPattern
  exact (moved_setRun s n _).thenUpdPath fun _ => rfl

theorem moved_beginRunning (s : State) (n : LineNo) : Moved s (s.beginRunning n) := (moved_setRun s n _).trans (moved_sendPattern _ n)

/-! ## Sign-on: contexts -/

theorem moved_enterRefusing (s : State) (n : LineNo) (t : Text) : Moved s (s.enterRefusing n t) := by
  unfold State.enterRefusing
  split
  · exact .refl s
  · next c hc =>
    split
    · exact .refl s
    · have refusing : Moved s (s.setSign n (some { c with phase := .refusing, signOnTimer := none, replyWait := none })) :=
        moved_setSign (by rw [hc]; rfl) rfl
      dsimp only
      split
      · exact (refusing.trans (moved_raiseRelease _ n _)).trans (moved_setAsks _ n _)
      · exact refusing.trans (moved_setAsks _ n _)

section
variable {s : State} {n : LineNo} {c : Context}

/-- The line's context is admitted exactly if `c` is: an operation that works on a copy of the context leaves the admitted mark alone. -/
def CopyOf (s : State) (n : LineNo) (c : Context) : Prop := s.sign[n].map Context.admitted = some c.admitted

theorem copyOf_of_eq (h : s.sign[n] = some c) : CopyOf s n c := by rw [CopyOf, h]; rfl

theorem copyOf_setSign (d : Context) (h : d.admitted = c.admitted) : CopyOf (s.setSign n (some d)) n c := by
  simp [CopyOf, State.setSign, h]

theorem moved_enterClaiming (h : CopyOf s n c) : Moved s (s.enterClaiming n c) :=
  (moved_raise _ _).after (Moved.thenSetSign (c := c) (moved_of_vital rfl) h rfl)

theorem moved_admitProvisionally (h : CopyOf s n c) : Moved s (s.admitProvisionally n c) := by
  unfold State.admitProvisionally
  split
  · exact moved_enterClaiming h
  · exact moved_enterRefusing s n _

theorem moved_enterAsking (h : CopyOf s n c) : Moved s (s.enterAsking n c) := by
  unfold State.enterAsking
  split
  · exact moved_admitProvisionally h
  · refine (moved_raise _ _).after ((moved_setClaims _ n _).after ?_)
    exact Moved.thenSetSign (c := c) (moved_of_vital rfl) h rfl

theorem moved_failAttempt (h : CopyOf s n c) : Moved s (s.failAttempt n c) := by
  unfold State.failAttempt
  dsimp only
  split
  · exact (moved_signOnText _ n _).after (moved_setSign h rfl)
  · exact (moved_enterRefusing _ n _).after (moved_setSign h rfl)

theorem moved_userChar (h : CopyOf s n c) (ch : Char7) : Moved s (s.userChar n c ch) := by
  unfold State.userChar
  split
  · split
    · exact (moved_sendEchoes _ n _).after (moved_setSign h rfl)
    · exact moved_sendEchoes s n _
  · split
    · split
      · exact moved_sendEchoes s n _
      · exact (moved_sendEchoes _ n _).after (moved_setSign h rfl)
    · split
      · exact (moved_signOnText _ n _).after (moved_setSign h rfl)
      · split
        · unfold State.endUserField
          split
          · exact moved_failAttempt h
          · exact (moved_signOnText _ n _).after (moved_setSign h rfl)
        · exact moved_sendEchoes s n _

theorem moved_codeChar (h : CopyOf s n c) (ch : Char7) : Moved s (s.codeChar n c ch) := by
  unfold State.codeChar
  split
  · exact moved_enterAsking h
  · split
    · split
      · exact moved_setSign h rfl
      · exact .refl s
    · split
      · exact moved_setSign h rfl
      · split
        · exact moved_setSign h rfl
        · exact .refl s

theorem moved_verdictInAsking (h : CopyOf s n c) (r : Reply) : Moved s (s.verdictInAsking n c r) := by
  unfold State.verdictInAsking
  dsimp only
  split
  · exact moved_enterClaiming h
  · exact moved_failAttempt h
  all_goals exact moved_enterRefusing s n _

theorem moved_lateVerdict (h : CopyOf s n c) (r : Reply) : Moved s (s.lateVerdict n c r) := by
  unfold State.lateVerdict
  split
  · exact moved_setSign h rfl
  · split
    · exact moved_setSign h rfl
    · exact moved_enterRefusing s n _

theorem moved_failTry (h : CopyOf s n c) : Moved s (s.failTry n c) := by
  have tried : Moved s (s.setSign n (some { c with tries := c.tries + 1 })) := moved_setSign h rfl
  unfold State.failTry
  dsimp only
  split
  · exact tried
  · exact (moved_enterRefusing _ n _).after ((tried.trans (moved_count _ _)).thenUpdPath fun _ => rfl)

theorem moved_passTry (h : CopyOf s n c) (sp : Speed) : Moved s (s.passTry n c sp) :=
  (moved_signOnText _ n _).after (Moved.thenSetSign (c := c) (moved_updPath fun _ => rfl) h rfl)

end

theorem moved_signOnChar (s : State) (n : LineNo) (ch : Char7) : Moved s (s.signOnChar n ch) := by
  unfold State.signOnChar
  split
  · exact .refl s
  · next c hc =>
    split
    · exact moved_userChar (copyOf_of_eq hc) ch
    · exact moved_codeChar (copyOf_of_eq hc) ch
    all_goals exact .refl s

theorem moved_speedTry (s : State) (n : LineNo) (markMs width : Nat) (decoded : Char7) (stop : Bool) :
    Moved s (s.speedTry n markMs width decoded stop) := by
  unfold State.speedTry
  split
  · next c _ hc =>
    split
    · split
      · split
        · exact moved_passTry (copyOf_of_eq hc) _
        · exact moved_failTry (copyOf_of_eq hc)
      · exact moved_failTry (copyOf_of_eq hc)
    · exact .refl s
  · exact .refl s

theorem moved_signOnExpiry (s : State) (n : LineNo) : Moved s (s.signOnExpiry n) := by
  unfold State.signOnExpiry
  split
  · split
    · dsimp only
      split
      · exact (moved_enterRefusing _ n _).after ((moved_count s _).thenUpdPath fun _ => rfl)
      · exact (moved_count s _).trans (moved_enterRefusing _ n _)
    · exact .refl s
  · exact .refl s

theorem moved_replyWaitExpiry (s : State) (n : LineNo) : Moved s (s.replyWaitExpiry n) := by
  unfold State.replyWaitExpiry
  split
  · next c hc =>
    split
    · have stopped : Moved s (s.setSign n (some { c with replyWait := none })) := moved_setSign (copyOf_of_eq hc) rfl
      exact stopped.trans (moved_admitProvisionally (copyOf_setSign _ rfl))
    · exact .refl s
  · exact .refl s

/-! ## The claim decision -/

/-- A context passes the first check of R66 only with a charge slot free for it. -/
theorem chargeSlot_of_admits {s : State} {n : LineNo} {c : Context} (h : s.claimRefusal n c = none) :
    s.queue.length + s.linesIn .session + s.otherAdmitted n + 1 ≤ chargeSlots := by
  unfold State.claimRefusal at h
  split at h
  · cases h
  · next hfree =>
    simp only [State.freeSlots, chargeSlots] at hfree ⊢
    omega

theorem moved_decideClaim {s : State} {n : LineNo} {c : Context} (h : s.sign[n] = some c) : Moved s (s.decideClaim n c) := by
  unfold State.decideClaim
  split
  · exact moved_enterRefusing s n _
  · next admits => exact (Move.admission n c _ h (chargeSlot_of_admits admits)).moved.trans (moved_setAsks _ n _)

theorem moved_newClaimEchoed (s : State) (n : LineNo) (user : Nat) (serial : BitVec 16) : Moved s (s.newClaimEchoed n user serial) := by
  have claimed := moved_setClaims s n { s.claims[n] with own := some ⟨user, serial⟩ }
  unfold State.newClaimEchoed
  dsimp only
  split
  · next c hc =>
    split
    · exact claimed.trans (moved_decideClaim hc)
    · exact claimed
  · exact claimed

/-! ## Sessions: their beginning, and verdicts -/

theorem moved_applyVerdict (s : State) (n : LineNo) (r : Reply) : Moved s (s.applyVerdict n r) := by
  unfold State.applyVerdict
  split
  · exact .refl s
  · next x hx =>
    split
    · exact moved_applyStep hx fun ⟨hresidue, hduration, _⟩ => sound_testAllowance s.cfg hresidue hduration
    · exact (moved_closeCause n _ _).after (moved_setSess (x := x) hx id)

theorem moved_applyHeld (s : State) (n : LineNo) (held : Option Reply) : Moved s (s.applyHeld n held) := by
  unfold State.applyHeld
  split
  · exact moved_applyVerdict s n _
  · exact .refl s

/-- The establish move: the context is replaced by a record whose meter is sound, and its notices are taken. -/
theorem moved_establish {s : State} {n : LineNo} {c : Context} (g : Granted) (hst : s.st n = .signon) (hc : s.sign[n] = some c)
    (hadm : c.admitted = true) : Moved s (s.establish n c g) := by
  have sound : SoundMeter (closedStep ((s.newSession c g).testAllowance s.cfg)) :=
    (sound_testAllowance s.cfg (Nat.zero_lt_succ 3599) (Nat.zero_le _)).closed
  have established (m : MeterStep) (hm : SoundMeter (closedStep m)) :
      Moved s ((((s.updSup n fun l => l.enterCall .session).setSign n none).beginPath n).applyStep n m) := by
    have record := (Move.establish n (s.sup[n].enterCall .session) c (closedStep m) hst hc hadm rfl
      (fun _ => timersOk_enterCall _ (.inr rfl)) hm).moved
    have begun : Moved s ((((s.updSup n fun l => l.enterCall .session).setSign n none).beginPath n).setSess n (some (closedStep m))) :=
      record.trans (moved_updPath (f := fun p => { p with
        paused := false, inputHeld := false, owed := none, attention := false, brk := false, mark := none,
        fwdDue := false, fwdTimer := none, inFlight := none, flow := some .go, channelHold := false }) fun _ => rfl)
    exact (begun.trans (moved_noticeMessages m.notices n _)).congr (vital_applyStep _ n m)
  unfold State.establish
  exact ((established _ sound).trans (moved_testHold _)).trans (moved_applyHeld _ n _)

theorem moved_takeEstablish (s : State) (n : LineNo) : Moved s (s.takeEstablish n) := by
  unfold State.takeEstablish
  split
  · have taken := moved_setAsks s n { s.asks[n] with establish := false }
    dsimp only
    split
    · next c hst hc =>
      split
      · split
        · next hadm => exact taken.trans (moved_establish _ hst hc hadm)
        · exact taken
      · exact taken
    · exact taken
  · exact .refl s

theorem moved_takeReply (s : State) (src : Station) (p : ReplyPayload) : Moved s (s.takeReply src p) := by
  have stale := moved_count s .staleReplies
  unfold State.takeReply
  split
  · exact stale
  · next n _ =>
    split
    · have taker (c : Context) (h : s.replyTaker n p.serial = .asking c ∨ s.replyTaker n p.serial = .claiming c) : s.sign[n] = some c := by
        unfold State.replyTaker at h
        split at h
        · split at h
          · split at h
            · simp_all
            · split at h <;> simp_all
            all_goals simp at h
          · simp at h
        · split at h
          · split at h <;> simp at h
          · simp at h
      have answered {c : Context} (h : s.sign[n] = some c) : Moved s (s.setSign n (some c.answer)) := moved_setSign (copyOf_of_eq h) rfl
      split
      · next c hc => exact (answered (taker c (.inl hc))).trans (moved_verdictInAsking (copyOf_setSign _ rfl) _)
      · next c hc => exact (answered (taker c (.inr hc))).trans (moved_lateVerdict (copyOf_setSign _ rfl) _)
      · exact moved_applyVerdict s n _
      · exact stale
    · exact stale

/-! ## Characters -/

theorem queuesOf_owe (p : Path) (c : FlowChar) : queuesOf (p.owe c) = queuesOf p := by
  rcases owe_cases p c with ⟨-, e⟩ | ⟨-, e⟩ | ⟨-, -, e⟩ <;> rw [e] <;> rfl

theorem moved_inputAppended (s : State) (n : LineNo) : Moved s (s.inputAppended n) := by
  unfold State.inputAppended
  dsimp only
  split
  · exact moved_of_vital (vital_setPath (queuesOf_owe _ _))
  · exact .refl s

theorem moved_inputRemoved (s : State) (n : LineNo) : Moved s (s.inputRemoved n) := by
  unfold State.inputRemoved
  dsimp only
  split
  · exact moved_of_vital (vital_setPath (queuesOf_owe _ _))
  · exact .refl s

theorem moved_appendIn {s : State} {n : LineNo} (c : Char7) (h : 1 ≤ s.inRoom n) : Moved s (s.appendIn n c) :=
  (moved_inputAppended _ n).after ((moved_pushIn c h).thenUpdPath fun _ => rfl)

theorem moved_acceptChar (s : State) (n : LineNo) (echo : Bool) (c : Char7) : Moved s (s.acceptChar n echo c) := by
  unfold State.acceptChar
  split
  · have echoed : Moved s (if echo then s.sendEcho n c else s) := by
      split
      · exact moved_sendEcho s n c
      · exact .refl s
    dsimp only
    generalize (if echo then s.sendEcho n c else s) = u at echoed ⊢
    split
    · next room => exact echoed.trans (moved_appendIn c room)
    · exact echoed.trans (moved_count _ _)
  · exact moved_count s _

theorem moved_interrupt (s : State) (n : LineNo) (isBreak : Bool) : Moved s (s.interrupt n isBreak) :=
  (moved_flush s n).thenUpdPath fun _ => rfl

theorem reload_sound (cfg : Configuration) {x : Session} (h : SoundMeter x) : SoundMeter (x.reload cfg) := by
  unfold Session.reload
  split <;> exact h

theorem moved_sessionChar {s : State} {n : LineNo} {x : Session} (hx : s.sess[n] = some x) (c : Char7) :
    Moved s (s.sessionChar n x c) := by
  have reloaded : Moved s (s.setSess n (some (x.reload s.cfg))) := moved_setSess hx fun h => reload_sound s.cfg h
  unfold State.sessionChar
  dsimp only
  split
  · exact reloaded.thenUpdPath fun _ => rfl
  · split
    · exact reloaded.trans (moved_interrupt _ n false)
    · exact reloaded.trans (moved_acceptChar _ n _ c)

theorem moved_handChar (s : State) (n : LineNo) (c : Char7) : Moved s (s.handChar n c) := by
  unfold State.handChar
  split
  · exact moved_signOnChar s n c
  · split
    · next hx => exact moved_sessionChar hx c
    · exact .refl s
  · unfold State.closingChar
    split
    · exact moved_updPath fun _ => rfl
    · exact .refl s
  all_goals exact .refl s

theorem moved_receiveChar (s : State) (n : LineNo) (c : Char7) (parity : Bool) : Moved s (s.receiveChar n c parity) := by
  unfold State.receiveChar
  split
  · split
    · exact moved_handChar s n c
    · exact (moved_count s _).trans (moved_handChar _ n _)
  · exact .refl s

theorem moved_charSent (s : State) (n : LineNo) : Moved s (s.charSent n) := by
  unfold State.charSent
  split
  · exact .refl s
  · split
    · exact moved_sendPattern s n
    · exact moved_updPath fun _ => rfl

theorem moved_confirmWaitExpiry (s : State) (n : LineNo) : Moved s (s.confirmWaitExpiry n) := moved_updSess fun _ h => h

end Sys2Proof.Proofs.LineMoves
end

section
/-! The moves of the Bus Controller, of the station-wide timers, of frames received and of orders (Chapters 4 to 6 and 9); and what a command can do
altogether: `exec_cases`. -/

namespace Sys2Proof.Proofs.Commands

open Sys2Proof Sys2Proof.Machine Sys2Proof.Proofs.Moves Sys2Proof.Proofs.Pool Sys2Proof.Proofs.SessionMoves Sys2Proof.Proofs.LineMoves

/-! ## The Presence Table -/

/-- Entries that leave the table leave it sound. -/
theorem presenceOk_filter {s : State} (p : Presence → Bool) (h : PresenceOk s) : PresenceOk { s with presence := s.presence.filter p } := by
  obtain ⟨hpairs, hentries, hloading⟩ := h
  refine ⟨hpairs.filter p, fun e he => hentries e (List.mem_of_mem_filter he), fun hl => ?_⟩
  show s.presence.filter p = []
  rw [hloading hl]
  rfl

theorem moved_filterPresence (s : State) (p : Presence → Bool) : Moved s { s with presence := s.presence.filter p } :=
  (Move.presence _ (presenceOk_filter p)).moved

/-- The entries that stay after an ageing are still below age 3 (R83). -/
theorem presenceOk_aged {s : State} (h : PresenceOk s) :
    PresenceOk { s with presence := (aged s.presence).filter fun e => e.age < 3 } := by
  obtain ⟨hpairs, hentries, hloading⟩ := h
  refine ⟨(List.pairwise_map.mpr hpairs).filter _, fun e he => ?_, fun hl => ?_⟩
  · obtain ⟨hmem, hage⟩ := List.mem_filter.mp he
    obtain ⟨old, hold, rfl⟩ := List.mem_map.mp hmem
    exact ⟨(hentries old hold).1, Nat.le_of_lt_succ (of_decide_eq_true hage)⟩
  · show (aged s.presence).filter (fun e => e.age < 3) = []
    rw [hloading hl]
    rfl

theorem moved_agePresence (s : State) : Moved s s.agePresence := by
  unfold State.agePresence
  dsimp only
  generalize (aged s.presence).filter (fun e => 3 ≤ e.age) = gone
  have stay := (Move.presence _ (presenceOk_aged (s := s))).moved
  revert stay
  generalize ({ s with presence := (aged s.presence).filter fun e => e.age < 3 } : State) = u
  intro stay
  induction gone generalizing u with
  | nil => exact stay
  | cons e gone ih => exact ih _ (stay.trans (moved_count u _))

/-- A claim of another station leaves one entry for its station and line, none of the own station (R76, R77). -/
theorem presenceOk_putPresence {s : State} {e : Presence} (hrun : s.loader = .running) (hsrc : e.station ≠ s.station) (hage : e.age = 0)
    (h : PresenceOk s) : PresenceOk { s with presence := putPresence s.presence e } := by
  obtain ⟨hpairs, hentries, -⟩ := h
  refine ⟨List.pairwise_cons.mpr ⟨fun x hx same => ?_, hpairs.filter _⟩, fun x hx => ?_, fun hl => absurd hrun hl⟩
  · obtain ⟨station, line⟩ := same
    exact of_decide_eq_true (List.mem_filter.mp hx).2 ⟨station.symm, line.symm⟩
  · rcases List.mem_cons.mp hx with rfl | hx
    · exact ⟨hsrc, hage ▸ Nat.zero_le 2⟩
    · exact hentries x (List.mem_of_mem_filter hx)

/-! ## Frames heard -/

theorem hears_iff (s : State) (src : Station) : s.hears src = true ↔ s.loader = .running ∧ src ≠ s.station := by
  simp [State.hears, State.started]

/-- Hearing a station starts no loader and changes no station number. -/
theorem hear_loader_station (s : State) (i : Station) : (s.hear i).loader = s.loader ∧ (s.hear i).station = s.station := by
  have core := hear_core s i
  have heard : (s.heard i).loader = s.loader ∧ (s.heard i).station = s.station := by
    unfold State.heard
    split <;> exact ⟨rfl, rfl⟩
  exact ⟨(eq_of_core_loader core).trans heard.1, (eq_of_core_station core).trans heard.2⟩

theorem hears_hear {s : State} {src : Station} (i : Station) (h : s.hears src = true) : (s.hear i).hears src = true := by
  obtain ⟨loader, station⟩ := hear_loader_station s i
  rw [hears_iff] at h ⊢
  rw [loader, station]
  exact h

theorem moved_takeAll (s : State) {src : Station} {effect : State → State} (h : ∀ u : State, u.hears src = true → Moved u (effect u)) :
    Moved s (s.takeAll src effect) := by
  unfold State.takeAll
  split
  · next hears =>
    have heard : Moved s (State.hear { s with echo := s.canEcho } src) := (moved_hear _ src).after (moved_of_vital rfl)
    exact heard.trans (h _ (hears_hear (s := { s with echo := s.canEcho }) src hears))
  · exact .refl s

theorem moved_takeOwn (s : State) {src : Station} {effect : State → State} (h : ∀ u : State, u.hears src = true → Moved u (effect u)) :
    Moved s (s.takeOwn src effect) := by
  unfold State.takeOwn
  split
  · next hears =>
    split
    · have heard : Moved s (State.hear { s with echo := true } src) := (moved_hear _ src).after (moved_of_vital rfl)
      exact heard.trans (h _ (hears_hear (s := { s with echo := true }) src hears))
    · exact moved_of_vital rfl
  · exact .refl s

theorem moved_frameOnBus (s : State) (src : Station) (dest : BitVec 5) : Moved s (s.frameOnBus src dest) := by
  unfold State.frameOnBus
  split
  · exact moved_takeOwn s fun u _ => .refl u
  · split
    · exact moved_takeAll s fun u _ => .refl u
    · split
      · exact (moved_hear _ src).after (moved_of_vital rfl)
      · exact .refl s

theorem moved_takeBeacon (s : State) (src : Station) (p : BeaconPayload) : Moved s (s.takeBeacon src p) := by
  unfold State.takeBeacon
  split
  · have heard : Moved s { s with echo := s.canEcho } := moved_of_vital rfl
    have changed := heard.trans (moved_changeRoster { s with echo := s.canEcho } src (fun _ => beaconEntry p)
      (if s.roster[src].returns p then some src else none))
    dsimp only
    split
    · exact changed.trans ((moved_filterPresence _ _).trans (moved_clearChannelHold _ _))
    · exact changed
  · exact .refl s

theorem moved_noteClaim {s : State} {src : Station} (h : s.hears src = true) (p : ClaimPayload) : Moved s (s.noteClaim src p) := by
  obtain ⟨hrun, hsrc⟩ := (hears_iff s src).mp h
  unfold State.noteClaim
  split
  · exact (Move.presence _ (presenceOk_putPresence hrun hsrc rfl)).moved
  · exact .refl s

theorem moved_noteRelease (s : State) (src : Station) (p : ReleasePayload) : Moved s (s.noteRelease src p) := by
  unfold State.noteRelease
  split
  · exact moved_filterPresence s _
  · exact .refl s

/-! ## Surveys and the refresh -/

theorem moved_reclaim (survey : Bool) (n : LineNo) (s : State) : Moved s (s.reclaim survey n) := by
  have marked : Moved s (if survey then s.setClaims n { s.claims[n] with surveyOwed := true } else s) := by
    split
    · exact moved_setClaims s n _
    · exact .refl s
  unfold State.reclaim
  dsimp only
  generalize (if survey then s.setClaims n { s.claims[n] with surveyOwed := true } else s) = u at marked ⊢
  split
  · exact marked.trans (moved_raise u _)
  · exact .refl s

theorem moved_reflow (n : LineNo) (s : State) : Moved s (s.reflow n) := by
  unfold State.reflow
  split
  · exact moved_raise s _
  · exact .refl s

theorem moved_answerSurvey (s : State) : Moved s s.answerSurvey :=
  (moved_eachLine _ (moved_reclaim true) _ s).trans (moved_eachLine _ moved_reflow _ _)

theorem moved_refreshPresence (s : State) : Moved s s.refreshPresence :=
  ((moved_agePresence s).trans (moved_eachLine _ (moved_reclaim false) _ _)).trans (moved_eachLine _ (moved_raiseLineState s false) _ _)

theorem moved_refreshTables (s : State) : Moved s s.refreshTables := by
  have drawn (u : State) (k : Nat) : vital { u with draws := k } = vital u := rfl
  have slots (u : State) : vital u.ageSlots = vital u := rfl
  obtain ⟨k, e | e⟩ := refreshTables_cases s
  · rw [e]
    exact (moved_refreshPresence s).congr ((drawn _ k).trans (slots _))
  · rw [e]
    exact ((moved_of_vital (slots s)).trans (moved_refreshPresence _)).congr (drawn _ k)

theorem moved_refresh (s : State) : Moved s s.refresh :=
  (moved_raiseConfirms _).after ((moved_eachLine _ moved_reflow _ _).after ((moved_refreshTables _).after (moved_of_vital rfl)))

theorem moved_beaconPeriod (s : State) : Moved s s.beaconPeriod :=
  (moved_raise _ _).after ((moved_reactRoster _ _ _).after (moved_of_vital rfl))

/-! ## Time -/

theorem moved_takeTick (s : State) : Moved s s.takeTick := (moved_tick _).after (moved_of_vital rfl)

theorem moved_tbEdge (s : State) : Moved s s.tbEdge := by
  unfold State.tbEdge
  split
  · split
    · exact (moved_takeTick _).after (moved_of_vital rfl)
    · exact .refl s
  · split
    · dsimp only
      split
      · exact (moved_takeTick _).after (moved_of_vital rfl)
      · exact moved_of_vital rfl
    · exact moved_of_vital rfl

theorem moved_failReference (s : State) : Moved s s.failReference := by
  have flagged (u : State) : Moved u u.flagTimebase := moved_mapSess fun _ h => h
  exact (moved_takeTick _).after ((flagged _).after (moved_of_vital rfl))

theorem moved_dividerTick (s : State) : Moved s s.dividerTick := (moved_takeTick _).after (moved_of_vital rfl)

theorem moved_closeAt (s : State) (n : LineNo) (limit : Session → Bool) (r : CloseReason) : Moved s (s.closeAt n limit r) := by
  unfold State.closeAt
  split
  · split
    · exact moved_closeCause n r s
    · exact .refl s
  · exact .refl s

theorem moved_setClock (s : State) (src : Station) (minute : BitVec 16) (second : Byte) : Moved s (s.setClock src minute second) := by
  unfold State.setClock
  split
  · next h =>
    obtain ⟨-, hminute, hsecond⟩ := h
    exact (Move.clock _ fun _ => ⟨hminute, hsecond⟩).moved
  · exact .refl s

/-! ## The Charge Queue -/

theorem moved_restartAck (s : State) (serial : BitVec 8) : Moved s { s with queue := restartAck s.now serial s.queue } := by
  have marks : (restartAck s.now serial s.queue).map markOf = s.queue.map markOf := by
    rw [restartAck, List.map_map]
    refine List.map_congr_left fun r _ => ?_
    simp only [Function.comp_apply]
    split <;> rfl
  refine moved_of_vital ?_
  simp only [vital, marks]

theorem moved_acknowledge (s : State) (src : Station) (serial : BitVec 8) : Moved s (s.acknowledge src serial) := by
  unfold State.acknowledge
  split
  · exact moved_sublistQueue List.filter_sublist
  · exact moved_count s _

/-! ## The Bus Controller -/

theorem moved_noteSelected (s : State) (i : ReqId) : Moved s (s.noteSelected i) := by
  unfold State.noteSelected
  split
  · exact moved_setClaims s _ _
  · split
    · exact moved_updPath fun _ => rfl
    · exact .refl s
  · exact .refl s

theorem moved_selectReq (s : State) (i : ReqId) : Moved s (s.selectReq i) := by
  unfold State.selectReq
  dsimp only
  split
  · have cleared := (Move.request (s := s.noteSelected i) i { (s.noteSelected i).req i with pending := false } (.inr rfl)).moved
    exact ((moved_noteSelected s i).trans cleared).congr rfl
  · exact (moved_noteSelected s i).trans (moved_dropReq _ i)

theorem moved_select (k : Nat) (s : State) : Moved s (State.select k s) := by
  induction k generalizing s with
  | zero => exact .refl s
  | succ k ih =>
    unfold State.select
    split
    · exact .refl s
    · split
      · exact moved_selectReq s _
      · exact (moved_selectReq s _).trans (ih _)

theorem moved_landed (s : State) (i : ReqId) : Moved s (s.landed i) := by
  unfold State.landed
  split
  · exact moved_updPath fun _ => rfl
  · exact .refl s

theorem landed_reqs (s : State) (i : ReqId) : (s.landed i).reqs = s.reqs := by
  unfold State.landed
  split <;> rfl

/-- A request stands pending again with as many strikes as it had, or one more below the eighth. -/
theorem moved_repend {s : State} {i : ReqId} {k : Nat} (h : k ≤ 7 ∨ k = (s.req i).strikes) : Moved s (s.repend i k) := by
  have landed : Moved s { s.landed i with wire := none } := (moved_landed s i).congr rfl
  have strikes : (State.req { s.landed i with wire := none } i).strikes = (s.req i).strikes := by
    show (reqOf (s.landed i).reqs i).strikes = _
    rw [landed_reqs]
    rfl
  exact landed.trans (Move.request i ⟨true, k⟩ (h.imp_right fun e => e.trans strikes.symm)).moved

theorem moved_enterSilent (s : State) : Moved s s.enterSilent := by
  have reset : Moved s { s with streak := 0 } := (Move.streak 0 (Nat.zero_le 2)).moved
  exact reset.congr rfl

theorem moved_endRelease (s : State) (n : LineNo) (serial : BitVec 16) : Moved s (s.endRelease n serial) := moved_setClaims s n _

theorem moved_ownerDiscards (s : State) (w : WireFrame) : Moved s (s.ownerDiscards w) := by
  unfold State.ownerDiscards
  split
  · exact moved_endRelease s _ _
  · split
    · exact moved_of_vital rfl
    · exact .refl s
  · exact moved_of_vital rfl
  all_goals exact .refl s

theorem moved_discardTo (s : State) (w : WireFrame) : Moved s (s.discardTo w) := by
  unfold State.discardTo
  split
  · exact moved_markAbsent s _
  · exact .refl s
  · split
    · exact moved_enterSilent s
    · next h =>
      rw [not_or] at h
      exact (Move.streak _ (by omega)).moved

theorem moved_discard (s : State) (w : WireFrame) : Moved s (s.discard w) := by
  have dropped : Moved s (State.dropReq { (s.landed w.req).count .framesDiscarded with wire := none } w.req) :=
    (moved_dropReq _ _).after ((moved_landed s w.req).congr rfl)
  exact (dropped.trans (moved_ownerDiscards _ w)).trans (moved_discardTo _ w)

theorem moved_struck (s : State) (w : WireFrame) : Moved s (s.struck w) := by
  unfold State.struck
  dsimp only
  split
  · next h => exact (moved_count s _).trans (moved_repend (.inl (Nat.le_of_lt_succ h)))
  · exact (moved_count s _).trans (moved_discard _ w)

theorem moved_delivered (s : State) (w : WireFrame) : Moved s (s.delivered w) := by
  have freed : Moved s { s with wire := none, streak := if w.dest = .all then 0 else s.streak } := by
    split
    · exact (Move.streak (s := s) 0 (Nat.zero_le 2)).moved.congr rfl
    · exact moved_of_vital rfl
  exact freed.trans (Move.request w.req { s.req w.req with strikes := 0 } (.inl (Nat.zero_le 7))).moved

theorem moved_dataInEchoed (s : State) (n : LineNo) : Moved s (s.dataInEchoed n) := by
  unfold State.dataInEchoed
  dsimp only
  split
  · exact moved_of_vital rfl
  · next f _ =>
    let s2 := State.updPath { s with rotation := n } n fun p => p.echoed f (s.now + s.cfg.forwardingTimer)
    have echoed : Moved s s2 := Moved.thenUpdPath (moved_of_vital rfl) fun _ => rfl
    have queue : s2.path[n].inQ = s.path[n].inQ := by simp [s2, Path.echoed]
    have removed := moved_removeIn s2 n f.k
    rw [queue] at removed
    exact (echoed.trans removed).trans (moved_inputRemoved _ n)

theorem moved_joined (s : State) (b : BeaconOut) : Moved s (s.joined b) := (moved_raise _ _).after (moved_of_vital rfl)

theorem moved_orderResultEchoed (s : State) (slot : Fin 17) (r : OrderResult) : Moved s (s.orderResultEchoed slot r) := by
  have emptied : Moved s (if (s.req (.orderResult slot)).pending then s else { s with orderSlots := s.orderSlots.set slot none }) := by
    split
    · exact .refl s
    · exact moved_of_vital rfl
  unfold State.orderResultEchoed
  dsimp only
  split
  · exact emptied.congr rfl
  · exact emptied

theorem moved_clash (s : State) : Moved s s.clash := by
  unfold State.clash
  dsimp only
  split
  · exact moved_of_vital rfl
  · exact (moved_enterSilent _).after (moved_of_vital rfl)

theorem moved_ownLineState (s : State) : Moved s s.ownLineState := by
  unfold State.ownLineState
  split
  · next w _ =>
    split
    · exact (moved_delivered s w).congr rfl
    · exact .refl s
  · exact .refl s

/-! ## FLOW and DATA-OUT -/

theorem moved_noteFlow (s : State) (src : Station) (line state : Byte) : Moved s (s.noteFlow src line state) := by
  unfold State.noteFlow
  split
  · split
    · exact moved_updPath fun _ => rfl
    · exact .refl s
  · exact .refl s

/-- The room a FLUSH makes is the room that stands once the queue is emptied (R40). -/
theorem outRoom_flush (s : State) (n : LineNo) : (s.flush n).outRoom n = s.outRoomFlushed n := by
  have path : (s.flush n).path[n] = { s.path[n] with outQ := Queue.empty } := by simp [State.flush]
  have free : (s.flush n).free = s.free + s.path[n].outQ.blocks := by simp [State.flush, State.setOut]
  have group : (s.flush n).group n = s.group n := rfl
  simp only [State.outRoom, State.outRoomFlushed, path, free, group, Path.held]
  simp [Queue.unwritten, Queue.empty, Queue.blocks]

theorem moved_acceptData (s : State) (n : LineNo) (f : DataOutFlags) (chars : List Char7) : Moved s (s.acceptData n f chars) := by
  unfold State.acceptData
  split
  · exact moved_count s _
  · next room =>
    dsimp only
    refine (moved_updSess ?_).after ?_
    · exact fun _ h => h
    · unfold State.roomFor at room
      split
      · next flush =>
        rw [if_pos flush] at room
        exact (moved_sendOut (by rw [outRoom_flush]; exact Nat.not_lt.mp room)).after (moved_flush s n)
      · next keep =>
        rw [if_neg keep] at room
        exact moved_sendOut (Nat.not_lt.mp room)

theorem moved_dataOut (s : State) (src : Station) (line flags : Byte) (chars : List Char7) : Moved s (s.dataOut src line flags chars) := by
  unfold State.dataOut
  dsimp only
  split
  · split
    · exact moved_of_vital rfl
    · exact moved_takeOwn s fun u _ => moved_acceptData u _ _ _
  · exact moved_takeOwn s fun u _ => moved_count u _

/-! ## Orders -/

theorem moved_fillSlot (s : State) (src : Station) (kind : OrderKind) (line : Byte) (o : OrderOutcome) :
    Moved s (s.fillSlot src kind line o) := (moved_raise _ _).after (moved_of_vital rfl)

theorem moved_fillOutcome {s : State} (src : Station) (kind : OrderKind) (line : Byte) {r : State × Option OrderOutcome} (h : Moved s r.1) :
    Moved s (fillOutcome src kind line r) := by
  unfold fillOutcome
  split
  · exact h.trans (moved_fillSlot _ _ _ _ _)
  · exact h

theorem moved_order (s : State) (src : Station) (kind : OrderKind) (line : Byte) {effect : OrderEffect}
    (h : ∀ (n : Option LineNo) (u : State), Moved u (effect n u).1) : Moved s (s.order src kind line effect) := by
  refine moved_takeOwn s fun u _ => ?_
  split
  · split
    · exact moved_fillSlot u _ _ _ _
    · exact moved_fillOutcome src kind line (h _ u)
    · exact moved_fillOutcome src kind line (h _ u)
  · exact moved_fillSlot u _ _ _ _

theorem moved_forceOff (n : Option LineNo) (s : State) : Moved s (forceOff n s).1 := by
  unfold forceOff
  split
  · split
    · exact moved_closeCause _ _ _
    · exact .refl _
  · exact moved_eachLine _ (fun n u => moved_closeCause n _ u) _ _

theorem moved_outProving {s : State} {n : LineNo} (hst : s.st n = .proving) : Moved s (s.outProving n) := by
  have out {u : State} (h : ¬ofRecord (u.st n)) : Moved u (u.updSup n LineRec.enterOut) :=
    moved_updSup h (by simp [ofRecord, LineRec.enterOut, LineRec.fresh]) (timersOk_enterOut _)
  have left : ¬ofRecord ((s.takeEnd n).st n) := by
    unfold State.takeEnd
    split
    · simp [hst, ofRecord]
    · dsimp only
      rw [if_pos hst, updSup_st]
      exact not_ofRecord_leaveProving _ _ _ _
  have ended : ¬ofRecord ((s.endRun n .aborted).st n) := by simp [State.st, ofRecord, show s.sup[(n : Nat)].st = .proving from hst]
  unfold State.outProving
  split
  · exact (moved_takeEnd s n).trans (out left)
  · exact ((moved_endRun s n _).trans (out ended)).trans (moved_setAsks _ n _)

theorem moved_outLine (n : LineNo) (s : State) : Moved s (s.outLine n) := by
  have queued : Moved s (s.updSup n fun l => { l with outPending := true }) := moved_updSup_same rfl id
  unfold State.outLine
  split
  · next hst =>
    exact moved_updSup (by simp [hst, ofRecord]) (by simp [ofRecord, LineRec.enterOut, LineRec.fresh]) (timersOk_enterOut _)
  any_goals exact queued
  · next hst => exact moved_outProving hst
  · exact .refl s

theorem moved_orderOutEffect (n : Option LineNo) (s : State) : Moved s (orderOutEffect n s).1 := by
  cases n with
  | some n => exact moved_outLine n s
  | none =>
    simp only [orderOutEffect]
    exact moved_eachLine (fun n s => s.outLine n) moved_outLine allLines s

theorem moved_inLine (n : LineNo) (s : State) : Moved s (s.inLine n) := by
  unfold State.inLine
  split
  · next hst => exact moved_updSup (by simp [hst, ofRecord]) (not_ofRecord_enterIdle _ _) (timersOk_enterIdle _ _)
  · exact moved_updSup_same rfl id

theorem moved_orderInEffect (n : Option LineNo) (s : State) : Moved s (orderInEffect n s).1 := by
  unfold orderInEffect
  split
  · split
    · exact .refl _
    · exact moved_inLine _ _
  · exact moved_eachLine _ moved_inLine _ _

theorem moved_proveEffect (src : Station) (duration : Nat) (n : Option LineNo) (s : State) : Moved s (proveEffect src duration n s).1 := by
  unfold proveEffect
  split
  · exact .refl _
  · split
    · exact .refl _
    · split
      · exact moved_setAsks _ _ _
      · exact moved_setAsks _ _ _
      all_goals exact .refl _

theorem moved_noticeEffect (i : Fin 8) (n : Option LineNo) (s : State) : Moved s (noticeEffect i n s).1 := by
  unfold noticeEffect
  split
  · split
    · exact moved_noticeText _ _ _
    · exact .refl _
  · exact moved_inFreeOrder _ (fun n u => moved_noticeText u n _) _ _

theorem moved_reportEffect (arg : BitVec 16) (n : Option LineNo) (s : State) : Moved s (reportEffect arg n s).1 := by
  unfold reportEffect
  split <;> exact .refl _

/-! ## One command -/

theorem moved_event {s : State} {t : Moment} {effect : State → State} (h : ∀ u : State, Moved u (effect u)) : Moved s (s.event t effect) :=
  ((moved_at s t).trans (h _)).trans (moved_settle _ _ _)

theorem moved_eventForAll {s : State} {t : Moment} {effect : State → State} (h : ∀ u : State, Moved u (effect u)) :
    Moved s (s.eventForAll t effect) := ((moved_at s t).trans (h _)).trans (moved_settle _ _ _)

/-- An event whose effect acts only under a condition. -/
theorem moved_ite {s u : State} {c : Prop} [Decidable c] (h : c → Moved s u) : Moved s (if c then u else s) := by
  split
  · next hc => exact h hc
  · exact .refl s

/-- The restart event before the level of the RESTART pin is noted. -/
def restartWith (pin : Bool) (s : State) : State := { s.restart with restartPin := pin }

/-- The closing work does nothing before the blocks are started. -/
theorem settle_of_not_started {s : State} (before : State) (every : Bool) (h : s.started = false) : s.settle before every = s := by
  unfold State.settle
  exact if_neg (Bool.eq_false_iff.mp h)

/-- What a command can do: a chain of elementary changes; after such a chain, a restart; a power-up; or the start of the other blocks. -/
inductive Reached (s : State) : State → Prop
  | moved {u : State} : Moved s u → Reached s u
  | restarted (v : State) (pin : Bool) : Moved s v → Reached s (restartWith pin v)
  | powered (v : State) (t : Moment) : vital v = vital s → Reached s (v.at t).powerUp
  | started (v : State) (t : Moment) (straps : BitVec 4) (store : StoreRead) :
      vital v = vital s → s.loader ≠ .running → Reached s (v.eventForAll t fun s => s.start straps store)

theorem Reached.after {s t u : State} (h : Reached t u) (k : vital t = vital s) : Reached s u := by
  have quiet : Moved s t := moved_of_vital k
  cases h with
  | moved hm => exact .moved (quiet.trans hm)
  | restarted v pin hm => exact .restarted v pin (quiet.trans hm)
  | powered v t hv => exact .powered v t (hv.trans k)
  | started v t straps store hv hl =>
    have loader : _ = s.loader := congrArg Vital.loader k
    exact .started v t straps store (hv.trans k) (loader ▸ hl)

theorem restart_pin (s : State) : s.restart = restartWith s.restartPin s := by
  have pin : s.restart.restartPin = s.restartPin := rfl
  unfold restartWith
  rw [← pin]

/-- A RESTART order, its sender heard, restarts or is refused. -/
theorem reached_takenRestart {s u : State} (h : Moved s u) (src : Station) (line : Byte) (before : State) :
    Reached s (State.settle (if u.entitled src then
      match orderLine line with
      | .bad => u.fillSlot src .restart line .refusedLine
      | .one n => fillOutcome src .restart line (restartEffect (some n) u)
      | .all => fillOutcome src .restart line (restartEffect none u)
    else u.fillSlot src .restart line .refusedEntitlement) before false) := by
  have refused (o : OrderOutcome) : Reached s (State.settle (u.fillSlot src .restart line o) before false) :=
    .moved ((h.trans (moved_fillSlot u src .restart line o)).trans (moved_settle _ _ _))
  have restarted : Reached s (u.restart.settle before false) := by
    rw [settle_of_not_started _ _ (show u.restart.started = false from rfl), restart_pin]
    exact Reached.restarted u u.restartPin h
  split
  · split
    · exact refused _
    · exact restarted
    · exact restarted
  · exact refused _

theorem reached_restartOrder (s before : State) (src : Station) (line : Byte) :
    Reached s ((s.order src .restart line restartEffect).settle before false) := by
  have settled (u : State) (h : Moved s u) : Reached s (u.settle before false) := .moved (h.trans (moved_settle u before false))
  have heard : Moved s (State.hear { s with echo := true } src) := (moved_hear _ src).after (moved_of_vital rfl)
  unfold State.order State.takeOwn
  split
  · split
    · exact reached_takenRestart heard src line before
    · exact settled _ (moved_of_vital rfl)
  · exact settled s (.refl s)

theorem reached_take {s u : State} {t : Moment} {effect : State → State} (hu : take s t effect = .next u)
    (he : ∀ u : State, Moved u (effect u)) : Reached s u := by
  cases hu
  exact .moved (moved_event he)

theorem reached_startOtherBlocks {s u : State} {t : Moment} {straps : BitVec 4} {store : StoreRead}
    (h : execStartOtherBlocks t straps store s = .next u) : Reached s u := by
  unfold execStartOtherBlocks at h
  split at h
  · cases h; exact .moved (moved_at s t)
  · next hl =>
    cases h
    exact .started s t straps store rfl fun e => hl (.inl e)

theorem reached_restartPin {s u : State} {t : Moment} (h : execRestartPinAsserted t s = .next u) : Reached s u := by
  unfold execRestartPinAsserted at h
  dsimp only at h
  split at h
  · cases h; exact .moved (moved_at s t)
  · split at h
    · cases h; exact .moved (moved_of_vital rfl)
    all_goals cases h; exact .restarted (s.at t) true (moved_at s t)

theorem reached_refresh {s u : State} {t : Moment} (h : execRefreshTimerExpiry t s = .next u) : Reached s u := by
  unfold execRefreshTimerExpiry at h
  split at h
  · obtain rfl := Host.Outcome.next.inj h
    exact .moved (moved_eventForAll moved_refresh)
  · exact reached_take h .refl

theorem reached_survey {s u : State} {t : Moment} {src : Station} (h : execSurvey t src s = .next u) : Reached s u := by
  unfold execSurvey at h
  split at h
  · cases h; exact .moved (moved_eventForAll fun u => moved_takeAll u fun v _ => moved_answerSurvey v)
  · exact reached_take h .refl

theorem reached_orderRestart {s u : State} {t : Moment} {src : Station} {line : Byte} {arg : BitVec 16}
    (h : execOrderRestart t src line arg s = .next u) : Reached s u := by
  cases h
  exact (reached_restartOrder (s.at t) (s.at t) src line).after rfl

theorem exec_cases {c : Instr} {s u : State} (h : exec c s = .next u) : Reached s u := by
  cases c with
  | powerUpReset t => cases h; exact .powered s t rfl
  | startOtherBlocks t straps store => exact reached_startOtherBlocks h
  | restartPinAsserted t => exact reached_restartPin h
  | restartPinReleased t => cases h; exact .moved (moved_of_vital rfl)
  | riRisingEdge t n => exact reached_take h fun u => moved_riRise u n
  | riFallingEdge t n => exact reached_take h fun u => moved_riFall u n
  | stuckRing t n => exact reached_take h fun u => moved_ite moved_stuckRing
  | ringSilenceExpiry t n => exact reached_take h fun u => moved_ringSilenceExpiry u n
  | cdRisingEdge t n => exact reached_take h fun u => moved_cdRise u n
  | cdFallingEdge t n => exact reached_take h fun u => moved_cdFall u n
  | carrierQualified t n => exact reached_take h fun u => moved_ite moved_enterSignOn
  | carrierWaitExpiry t n => exact reached_take h fun u => moved_ite fun hc => moved_carrierWait hc.1
  | disconnect t n => exact reached_take h fun u => moved_ite fun _ => moved_disconnect
  | drainLimitExpiry t n => exact reached_take h fun u => moved_ite fun hc => moved_hangup (by simp [hc.1, ofRecord])
  | hangupGuardExpiry t n => exact reached_take h fun u => moved_ite fun hc => moved_enterIdle _ (by simp [hc.1, ofRecord])
  | establish t n => exact reached_take h fun u => moved_takeEstablish u n
  | refuse t n => exact reached_take h fun u => moved_takeRefuse u n
  | close t n => exact reached_take h fun u => moved_takeClose u n
  | drained t n => exact reached_take h fun u => moved_takeDrained u n
  | beginProving t n => exact reached_take h fun u => moved_takeBegin u n
  | endProving t n => exact reached_take h fun u => moved_takeEnd u n
  | characterReceived t n data parity => exact reached_take h fun u => moved_receiveChar u n data parity
  | framingError t n => exact reached_take h fun u => moved_ite fun _ => moved_count u _
  | lineBreak t n => exact reached_take h fun u => moved_ite fun _ => moved_interrupt u n true
  | speedTry t n markMs width decoded stop => exact reached_take h fun u => moved_speedTry u n markMs width decoded stop
  | characterSent t n => exact reached_take h fun u => moved_charSent u n
  | forwardingTimerExpiry t n => exact reached_take h fun u => moved_ite fun _ => moved_updPath fun _ => rfl
  | signOnTimerExpiry t n => exact reached_take h fun u => moved_signOnExpiry u n
  | replyWaitExpiry t n => exact reached_take h fun u => moved_replyWaitExpiry u n
  | confirmReplyWaitExpiry t n => exact reached_take h fun u => moved_confirmWaitExpiry u n
  | tbRisingEdge t => exact reached_take h moved_tbEdge
  | watchTimerExpiry t => exact reached_take h fun u => moved_ite fun _ => moved_failReference u
  | internalDividerTick t => exact reached_take h fun u => moved_ite fun _ => moved_dividerTick u
  | idleTimerExpiry t n => exact reached_take h fun u => moved_closeAt u n _ _
  | graceExpiry t n => exact reached_take h fun u => moved_closeAt u n _ _
  | channelLossLimit t n => exact reached_take h fun u => moved_closeAt u n _ _
  | refreshTimerExpiry t => exact reached_refresh h
  | beaconPeriodExpiry t => exact reached_take h fun u => moved_ite fun _ => moved_beaconPeriod u
  | ackWaitExpiry t serial =>
    exact reached_take h fun u => moved_ite fun _ => (moved_restartAck u serial).trans (moved_raise _ _)
  | clashTimerExpiry t => exact reached_take h fun u => moved_ite fun _ => moved_of_vital rfl
  | quietIntervalExpiry t => exact reached_take h fun u => moved_ite fun _ => (moved_raise _ _).after (moved_of_vital rfl)
  | busIdle t => exact reached_take h fun u => moved_ite fun _ => moved_select _ u
  | arbitrationLost t =>
    refine reached_take h fun u => ?_
    split
    · exact moved_repend (.inr rfl)
    · exact .refl u
  | strike t =>
    refine reached_take h fun u => ?_
    split
    · exact moved_struck u _
    · exact .refl u
  | dataInEchoed t =>
    refine reached_take h fun u => ?_
    split
    · split
      · exact (moved_delivered u _).trans (moved_dataInEchoed _ _)
      · exact .refl u
    · exact .refl u
  | claimEchoed t =>
    refine reached_take h fun u => ?_
    split
    · split
      · split
        · exact (moved_delivered u _).trans (moved_newClaimEchoed _ _ _ _)
        · exact moved_delivered u _
      · exact .refl u
    · exact .refl u
  | releaseEchoed t =>
    refine reached_take h fun u => ?_
    split
    · split
      · exact (moved_delivered u _).trans (moved_endRelease _ _ _)
      · exact .refl u
    · exact .refl u
  | chargeEchoed t =>
    refine reached_take h fun u => ?_
    split
    · split
      · next w _ _ c _ => exact (moved_delivered u w).trans (moved_restartAck (u.delivered w) c.serial)
      · exact .refl u
    · exact .refl u
  | joiningBeaconEchoed t =>
    refine reached_take h fun u => ?_
    split
    · split
      · exact moved_ite fun _ => (moved_delivered u _).trans (moved_joined _ _)
      · exact .refl u
    · exact .refl u
  | resultEchoed t =>
    refine reached_take h fun u => ?_
    split
    · split
      · exact (moved_delivered u _).trans (moved_orderResultEchoed _ _ _)
      · exact (moved_delivered u _).congr rfl
      · exact .refl u
    · exact .refl u
  | ownFrameOnBus t =>
    refine reached_take h fun u => ?_
    split
    · exact moved_ite fun _ => moved_delivered u _
    · exact .refl u
  | receiveFault t f cutShort own => exact reached_take h fun u => moved_ite fun _ => moved_of_vital rfl
  | numberClash t => exact reached_take h fun u => moved_ite fun _ => moved_clash u
  | frameOnBus t src dest => exact reached_take h fun u => moved_frameOnBus u src dest
  | beacon t src p => exact reached_take h fun u => moved_takeBeacon u src p
  | claim t src p => exact reached_take h fun u => moved_takeAll u fun v hv => moved_noteClaim hv p
  | release t src p => exact reached_take h fun u => moved_takeAll u fun v _ => moved_noteRelease v src p
  | survey t src => exact reached_survey h
  | time t src minute second => exact reached_take h fun u => moved_takeAll u fun v _ => moved_setClock v src minute second
  | lineState t src tag signals =>
    refine reached_take h fun u => ?_
    split
    · exact moved_ownLineState u
    · exact moved_takeAll u fun v _ => moved_of_vital rfl
  | flow t src line state => exact reached_take h fun u => moved_takeOwn u fun v _ => moved_noteFlow v src line state
  | dataOut t src line flags chars => exact reached_take h fun u => moved_dataOut u src line flags _
  | admitReply t src p => exact reached_take h fun u => moved_takeOwn u fun v _ => moved_takeReply v src p
  | chargeAck t src serial => exact reached_take h fun u => moved_takeOwn u fun v _ => moved_acknowledge v src serial
  | orderForceOff t src line arg => exact reached_take h fun u => moved_order u src _ line moved_forceOff
  | orderOut t src line arg => exact reached_take h fun u => moved_order u src _ line moved_orderOutEffect
  | orderIn t src line arg => exact reached_take h fun u => moved_order u src _ line moved_orderInEffect
  | orderProve t src line arg => exact reached_take h fun u => moved_order u src _ line (moved_proveEffect src _)
  | orderDrain t src line arg => exact reached_take h fun u => moved_order u src _ line fun _ _ => moved_of_vital rfl
  | orderUndrain t src line arg => exact reached_take h fun u => moved_order u src _ line fun _ _ => moved_of_vital rfl
  | orderNotice t src line arg => exact reached_take h fun u => moved_order u src _ line (moved_noticeEffect _)
  | orderRestart t src line arg => exact reached_orderRestart (arg := arg) h
  | orderReport t src line arg => exact reached_take h fun u => moved_order u src _ line (moved_reportEffect arg)
  | provingCarrierQualified t n => exact reached_take h fun u => moved_ite fun _ => moved_beginRunning u n
  | provingCarrierWaitExpiry t n => exact reached_take h fun u => moved_ite fun _ => moved_finishRun u n _
  | provingCharacterReceived t n data badlyFramed => exact reached_take h fun u => moved_ite fun _ => moved_setRun u n _
  | provingCarrierLost t n => exact reached_take h fun u => moved_ite fun _ => moved_finishRun u n _
  | runTimerExpiry t n => exact reached_take h fun u => moved_ite fun _ => moved_finishRun u n _

/-- The same for one step, which idles on an empty queue. -/
theorem step_cases {s u : State} (h : step s = .next u) : Reached s u := by
  unfold step at h
  split at h
  · cases h; exact .moved (.refl s)
  · next c rest _ => exact (exec_cases h).after rfl

end Sys2Proof.Proofs.Commands
end

section
/-! What a step keeps, reduced once: what every elementary change keeps, and what holds after a restart, a power-up and the loading of the other blocks.
Then the invariants of one part of the state each: the Presence Table (R76), the meters and the clock (R97, R102 to R106), the line records and the
requests (R5, R155, R156), and the Buffer Pool (R31). -/

namespace Sys2Proof.Proofs.Steps

open Sys2Proof Sys2Proof.Machine Sys2Proof.Proofs.Moves Sys2Proof.Proofs.Pool Sys2Proof.Proofs.SessionMoves Sys2Proof.Proofs.LineMoves
open Sys2Proof.Proofs.Commands

/-! ## The steps of a state -/

/-- The other blocks with their configuration, started but for the joining beacon (R166 to R169). -/
def loaded (s : State) (straps : BitVec 4) (store : StoreRead) : State :=
  { s with
    loader := .running
    station := ⟨straps.toNat, straps.isLt⟩
    cfg := (readStore store).val
    configClamped := (readStore store).clamped
    sup := mapTable s.sup (placeLine (readStore store).val s.loader s.now)
    refreshTimer := some (s.now + 1000 * (readStore store).val.refreshPeriod)
    beaconTimer := some (s.now + 10000)
    bus := .joining }

theorem start_eq (s : State) (straps : BitVec 4) (store : StoreRead) : s.start straps store = (loaded s straps store).raise .beacon := rfl

theorem moved_started (s : State) (t : Moment) (straps : BitVec 4) (store : StoreRead) :
    Moved (loaded (s.at t) straps store) (s.eventForAll t fun s => s.start straps store) :=
  (moved_raise _ _).trans (moved_settle _ _ _)

/-- What every elementary change keeps, and what a restart, a power-up and the loading make true, every step keeps. -/
theorem step_keeps {P : State → Prop} (move : ∀ {s u : State}, Move s u → P s → P u) (restarted : ∀ s, P s → P s.restart)
    (pin : ∀ s b, P s → P { s with restartPin := b }) (powered : ∀ s : State, P s.powerUp) {s : State}
    (started : ∀ v straps store, vital v = vital s → s.loader ≠ .running → P (loaded v straps store)) {u : State} (hs : P s)
    (h : step s = .next u) : P u := by
  cases step_cases h with
  | moved moved => exact moved.keeps move hs
  | restarted v b moved => exact pin _ b (restarted v (moved.keeps move hs))
  | powered v t same => exact powered (v.at t)
  | started v t straps store same loading =>
    exact (moved_started v t straps store).keeps move (started (v.at t) straps store same loading)

/-! ## Presence Table -/

theorem presenceOk_congr {s u : State} (hp : u.presence = s.presence) (hn : u.station = s.station) (hl : u.loader = s.loader)
    (h : PresenceOk s) : PresenceOk u := by
  unfold PresenceOk at h ⊢
  rw [hp, hn, hl]
  exact h

theorem presenceOk_of_nil {s : State} (h : s.presence = []) : PresenceOk s := by
  unfold PresenceOk
  rw [h]
  exact ⟨.nil, fun e he => absurd he List.not_mem_nil, fun _ => rfl⟩

theorem move_presenceOk {s u : State} (h : Move s u) (hs : PresenceOk s) : PresenceOk u := by
  cases h with
  | quiet same => exact presenceOk_congr (congrArg Vital.presence same) (congrArg Vital.station same) (congrArg Vital.loader same) hs
  | presence ps keeps => exact keeps hs
  | line | pool | signOn | signOff | admission | establish | sessions | ended | clock | queue | request | streak => exact hs

/-- Settles O54: while the loader works the table is empty, and so it is when the other blocks start. -/
theorem presenceTableStaysSound : Obligations.PresenceTableStaysSound := by
  intro s u hs
  refine step_keeps move_presenceOk (fun s _ => presenceOk_of_nil rfl) (fun s b h => h) (fun s => presenceOk_of_nil rfl) ?_ hs
  intro v straps store same loading
  have presence : v.presence = s.presence := congrArg Vital.presence same
  exact presenceOk_of_nil (presence.trans (hs.2.2 loading))

/-! ## Meters and clock -/

/-- The clock and every meter in their ranges, an exhausted allowance with its grace counter or its close reason (R97, R102 to R106). -/
def TimesOk (s : State) : Prop := ClockOk s ∧ ∀ n : LineNo, ∀ x ∈ s.sess[n], SoundMeter x

theorem timesOk_iff (s : State) : TimesOk s ↔ ClockOk s ∧ MetersOk s ∧ GraceOk s := by
  constructor
  · rintro ⟨clock, sound⟩
    exact ⟨clock, fun n x hx => ⟨(sound n x hx).1, (sound n x hx).2.1⟩, fun n x hx => (sound n x hx).2.2⟩
  · rintro ⟨clock, meters, grace⟩
    exact ⟨clock, fun n x hx => ⟨(meters n x hx).1, (meters n x hx).2, grace n x hx⟩⟩

theorem timesOk_congr {s u : State} (hc : u.clock = s.clock) (hx : u.sess = s.sess) (h : TimesOk s) : TimesOk u := by
  unfold TimesOk ClockOk at h ⊢
  rw [hc, hx]
  exact h

theorem noSession (n : LineNo) : (Vector.replicate 16 (none : Option Session))[n] = none := by simp

theorem timesOk_of_no_session {s : State} (hc : ClockOk s) (h : s.sess = Vector.replicate 16 none) : TimesOk s := by
  refine ⟨hc, fun n x hx => ?_⟩
  rw [h, noSession] at hx
  cases hx

/-- One line's session record replaced. -/
theorem sound_setSess {s : State} {n : LineNo} {y : Option Session} (h : ∀ m : LineNo, ∀ x ∈ s.sess[m], SoundMeter x)
    (hy : ∀ x ∈ y, SoundMeter x) : ∀ m : LineNo, ∀ x ∈ (s.setSess n y).sess[m], SoundMeter x := by
  intro m x hx
  rw [setSess_sess, vector_set_get] at hx
  split at hx
  · exact hy x hx
  · exact h m x hx

theorem move_timesOk {s u : State} (h : Move s u) (hs : TimesOk s) : TimesOk u := by
  obtain ⟨clock, sound⟩ := hs
  cases h with
  | quiet same => exact timesOk_congr (congrArg Vital.clock same) (congrArg Vital.sess same) ⟨clock, sound⟩
  | clock c keeps => exact ⟨keeps clock, sound⟩
  | sessions v each => exact ⟨clock, fun n y hy => (each n).2 y hy (sound n)⟩
  | establish n l c x _ _ _ _ _ meter =>
    refine ⟨clock, sound_setSess (s := (s.setSup n l).setSign n none) sound fun y hy => ?_⟩
    cases hy
    exact meter
  | ended n l x r => exact ⟨clock, sound_setSess (s := s.appendCharge n x r) sound fun y hy => by cases hy⟩
  | line | pool | signOn | signOff | admission | presence | queue | request | streak => exact ⟨clock, sound⟩

/-- Settles O59: by the elementary changes; a restart keeps the clock and leaves no session. -/
theorem metersStayInRange : Obligations.MetersStayInRange := by
  intro s u clock meters grace h
  have hs : TimesOk s := (timesOk_iff s).mpr ⟨clock, meters, grace⟩
  refine (timesOk_iff u).mp (step_keeps move_timesOk (fun s hs => timesOk_of_no_session hs.1 rfl) (fun s b h => h)
    (fun s => timesOk_of_no_session ⟨Nat.zero_lt_succ _, Nat.zero_lt_succ _⟩ rfl) (fun v straps store same _ => ?_) hs h)
  exact timesOk_congr (s := s) (congrArg Vital.clock same) (congrArg Vital.sess same) hs

/-! ## Line records and requests -/

/-- The line records and the requests as R5, R155 and R156 give them. -/
def RecordsOk (s : State) : Prop := LinesOk s ∧ RequestsOk s

theorem recordsOk_congr {s u : State} (hl : u.sup = s.sup) (hk : u.streak = s.streak) (hr : u.reqs = s.reqs) (h : RecordsOk s) :
    RecordsOk u := by
  unfold RecordsOk LinesOk RequestsOk at h ⊢
  rw [hl, hk, hr]
  exact h

/-- One line record replaced. -/
theorem linesOk_setSup {s : State} {n : LineNo} {l : LineRec} (hs : LinesOk s) (hl : s.sup[n].timersOk → l.timersOk) :
    LinesOk (s.setSup n l) := by
  intro m
  rw [setSup_sup, vector_set_get]
  split
  · exact hl (hs n)
  · exact hs m

theorem mem_putReq {q : List (ReqId × Req)} {i : ReqId} {r : Req} {p : ReqId × Req} (h : p ∈ putReq q i r) : p = (i, r) ∨ p ∈ q := by
  unfold putReq at h
  split at h
  · exact .inr (List.mem_of_mem_filter h)
  · exact (List.mem_cons.mp h).imp_right List.mem_of_mem_filter

/-- A request is listed once whatever is put in its place. -/
theorem pairwise_putReq {q : List (ReqId × Req)} (i : ReqId) (r : Req) (h : q.Pairwise fun a b => a.1 ≠ b.1) :
    (putReq q i r).Pairwise fun a b => a.1 ≠ b.1 := by
  have rest : (q.filter fun p => p.1 ≠ i).Pairwise fun a b => a.1 ≠ b.1 := h.filter _
  unfold putReq
  split
  · exact rest
  · exact List.pairwise_cons.mpr ⟨fun p hp same => of_decide_eq_true (List.mem_filter.mp hp).2 same.symm, rest⟩

theorem reqOf_strikes {q : List (ReqId × Req)} (h : ∀ p ∈ q, p.2.strikes ≤ 7) (i : ReqId) : (reqOf q i).strikes ≤ 7 := by
  induction q with
  | nil => exact Nat.zero_le 7
  | cons p rest ih =>
    obtain ⟨j, r⟩ := p
    unfold reqOf
    split
    · exact h (j, r) List.mem_cons_self
    · exact ih fun p hp => h p (List.mem_cons_of_mem _ hp)

theorem requestsOk_setReq {s : State} {i : ReqId} {r : Req} (hs : RequestsOk s) (hr : r.strikes ≤ 7 ∨ r.strikes = (s.req i).strikes) :
    RequestsOk (s.setReq i r) := by
  obtain ⟨streak, once, strikes⟩ := hs
  refine ⟨streak, pairwise_putReq i r once, fun p hp => ?_⟩
  rcases mem_putReq hp with rfl | hp
  · exact hr.elim id fun e => e.trans_le (reqOf_strikes strikes i)
  · exact strikes p hp

theorem requestsOk_of_nil {s : State} (hk : s.streak = 0) (hr : s.reqs = []) : RequestsOk s := by
  unfold RequestsOk
  rw [hk, hr]
  exact ⟨Nat.zero_le 2, .nil, fun p hp => absurd hp List.not_mem_nil⟩

theorem move_recordsOk {s u : State} (h : Move s u) (hs : RecordsOk s) : RecordsOk u := by
  obtain ⟨lines, requests⟩ := hs
  cases h with
  | quiet same => exact recordsOk_congr (congrArg Vital.sup same) (congrArg Vital.streak same) (congrArg Vital.reqs same) ⟨lines, requests⟩
  | line n l _ timers => exact ⟨linesOk_setSup lines timers, requests⟩
  | signOn n l c _ _ timers => exact ⟨linesOk_setSup lines timers, requests⟩
  | signOff n l _ _ timers => exact ⟨linesOk_setSup lines timers, requests⟩
  | establish n l c x _ _ _ _ timers => exact ⟨linesOk_setSup lines timers, requests⟩
  | ended n l x r _ _ timers =>
    have dropped : RequestsOk (s.setReq (.charge (freeSerial s.queue 33 s.recordSerial)) Req.idle) :=
      requestsOk_setReq requests (.inl (Nat.zero_le 7))
    exact ⟨linesOk_setSup (s := (s.appendCharge n x r).setSess n none) lines timers, dropped⟩
  | request i r strikes => exact ⟨lines, requestsOk_setReq requests strikes⟩
  | streak k hk => exact ⟨lines, hk, requests.2⟩
  | pool | admission | sessions | presence | clock | queue => exact ⟨lines, requests⟩

/-- The start of the other blocks places a line that rests in OUT or HANGUP (R6, R25). -/
theorem timersOk_placeLine (cfg : Configuration) (loader : Loader) (now : Moment) (n : LineNo) {l : LineRec} (hl : l.timersOk)
    (hst : loader = .restart → l.st = .hangup) : (placeLine cfg loader now n l).timersOk := by
  unfold placeLine
  dsimp only
  split
  · split
    · exact timersOk_enterIdle l now
    · exact hl
  · obtain ⟨ringing, burst, answering, dropout, closing, -⟩ := hl
    exact ⟨ringing, burst, answering, dropout, closing, fun other => absurd (hst rfl) other⟩
  · exact hl

/-- While the loader works after a restart, every line rests in HANGUP. -/
theorem hangup_of_loadingOk {s : State} (h : LoadingOk s) (hl : s.loader = .restart) (n : LineNo) : s.sup[n].st = .hangup := by
  have loading : s.loader ≠ .running := by simp [hl]
  obtain ⟨record, -⟩ := (h loading).1 n
  rw [record, hl]
  rfl

theorem linesOk_fresh {s : State} (st : LineState) (r : Vector LineRec 16) (h : s.sup = mapTable r fun _ l => LineRec.fresh st l.ri l.cd) :
    LinesOk s := by
  intro n
  rw [h, mapTable_get]
  exact timersOk_fresh st _ _

/-- Settles O60: by the elementary changes; a restart and a power-up leave no timer and no request, and the start places resting lines. -/
theorem timersAndStrikesStayInTheirStates : Obligations.TimersAndStrikesStayInTheirStates := by
  intro s u loadingOk lines requests
  refine step_keeps move_recordsOk (fun s _ => ⟨linesOk_fresh .hangup s.sup rfl, requestsOk_of_nil rfl rfl⟩) (fun s b h => h)
    (fun s => ⟨linesOk_fresh .out s.sup rfl, requestsOk_of_nil rfl rfl⟩) (fun v straps store same loading => ?_) ⟨lines, requests⟩
  have sup : v.sup = s.sup := congrArg Vital.sup same
  have loader : v.loader = s.loader := congrArg Vital.loader same
  have kept : RecordsOk v := recordsOk_congr sup (congrArg Vital.streak same) (congrArg Vital.reqs same) ⟨lines, requests⟩
  refine ⟨fun n => ?_, kept.2⟩
  show (mapTable v.sup (placeLine _ v.loader v.now))[n].timersOk
  rw [mapTable_get, loader, sup]
  exact timersOk_placeLine _ _ _ n (lines n) fun hl => hangup_of_loadingOk loadingOk hl n

/-! ## Buffer Pool -/

theorem poolOk_congr {s u : State} (hq : u.path.map queuesOf = s.path.map queuesOf) (hf : u.free = s.free) (hc : u.cfg = s.cfg)
    (h : PoolOk s) : PoolOk u := by
  have queues (n : LineNo) : queuesOf u.path[n] = queuesOf s.path[n] := by
    have := congrArg (fun v : Vector (Queue × Queue) 16 => v[n]) hq
    simpa using this
  have inQ (n : LineNo) : u.path[n].inQ = s.path[n].inQ := congrArg Prod.fst (queues n)
  have outQ (n : LineNo) : u.path[n].outQ = s.path[n].outQ := congrArg Prod.snd (queues n)
  unfold PoolOk State.heldBlocks Path.held State.group at h ⊢
  simp only [inQ, outQ, hf, hc]
  exact h

/-- With every queue empty all the blocks are free, whatever the allowances (R31). -/
theorem poolOk_of_empty {s : State} (hq : ∀ n : LineNo, queuesOf s.path[n] = (Queue.empty, Queue.empty)) (hf : s.free = poolBlocks) :
    PoolOk s := by
  have inQ (n : LineNo) : s.path[n].inQ = Queue.empty := congrArg Prod.fst (hq n)
  have outQ (n : LineNo) : s.path[n].outQ = Queue.empty := congrArg Prod.snd (hq n)
  unfold PoolOk State.heldBlocks Path.held
  simp only [inQ, outQ, empty_blocks, hf]
  exact ⟨by decide, fun n => ⟨Nat.zero_le _, Nat.zero_le _, empty_ok, empty_ok⟩⟩

theorem freshPath (n : LineNo) : (Vector.replicate 16 Path.fresh)[n] = Path.fresh := by simp

theorem move_poolOk {s u : State} (h : Move s u) (hs : PoolOk s) : PoolOk u := by
  cases h with
  | quiet same => exact poolOk_congr (congrArg Vital.queues same) (congrArg Vital.free same) (congrArg Vital.cfg same) hs
  | pool n p k keeps => exact keeps hs
  | line | signOn | signOff | admission | establish | sessions | ended | presence | clock | queue | request | streak => exact hs

/-- Settles O58: by the elementary changes; a restart and a power-up empty every queue, and the start finds them empty. -/
theorem bufferPoolIsConserved : Obligations.BufferPoolIsConserved := by
  intro s u loadingOk
  have reset {v : State} (hp : v.path = Vector.replicate 16 Path.fresh) (hf : v.free = poolBlocks) : PoolOk v :=
    poolOk_of_empty (fun n => by rw [hp, freshPath]; rfl) hf
  refine step_keeps move_poolOk (fun s _ => reset rfl rfl) (fun s b h => h) (fun s => reset rfl rfl) fun v straps store same loading => ?_
  obtain ⟨lines, free, -⟩ := loadingOk loading
  have queues : v.path.map queuesOf = s.path.map queuesOf := congrArg Vital.queues same
  refine poolOk_of_empty (fun n => ?_) ((congrArg Vital.free same : v.free = s.free).trans free)
  have at_n : queuesOf v.path[n] = queuesOf s.path[n] := by
    have := congrArg (fun w : Vector (Queue × Queue) 16 => w[n]) queues
    simpa using this
  obtain ⟨-, -, path, -⟩ := lines n
  show queuesOf v.path[n] = _
  rw [at_n, path]
  rfl

end Sys2Proof.Proofs.Steps
end

section
/-! The calls, their charge slots and the Charge Queue (R50, R66, R67, R115, R116, R124). `Reserved` says of a queue of given length, and of the lines
in SESSION and the admitted contexts, that they fit; a call takes a slot when its context is admitted, keeps it as a session, and hands it to its record. -/

namespace Sys2Proof.Proofs.Charges

open Sys2Proof Sys2Proof.Machine Sys2Proof.Proofs.Moves Sys2Proof.Proofs.SessionMoves Sys2Proof.Proofs.Commands Sys2Proof.Proofs.Steps
open Sys2Proof.Proofs.RecordSerial

/-! ## Line states and call records -/

/-- A line's state agrees with its records (R50, R67). -/
def CallOk (st : LineState) (context record : Bool) : Prop := (st = .signon ↔ context = true) ∧ (st = .session ↔ record = true)

theorem callOk_of_not_ofRecord {st : LineState} (h : ¬ofRecord st) : CallOk st false false := by
  rw [ofRecord, not_or] at h
  simp [CallOk, h.1, h.2]

theorem admitted_isSome {v : Vector (Option Context) 16} {n : LineNo} : (v.map (Option.map Context.admitted))[n].isSome = v[n].isSome := by
  simp

theorem hangup_not_ofRecord : ¬ofRecord .hangup := by simp [ofRecord]

theorem out_not_ofRecord : ¬ofRecord .out := by simp [ofRecord]

theorem callsOk_congr {s u : State} (hst : u.sup = s.sup) (hsign : u.sign.map (Option.map Context.admitted) = s.sign.map (Option.map Context.admitted))
    (hsess : u.sess = s.sess) (h : CallsOk s) : CallsOk u := by
  intro n
  have context : u.sign[n].isSome = s.sign[n].isSome := by rw [← admitted_isSome, hsign, admitted_isSome]
  have state : u.st n = s.st n := by rw [State.st, State.st, hst]
  rw [state, context, hsess]
  exact h n

/-- One line's state and records replaced. -/
theorem callsOk_replace {s u : State} {n : LineNo} (hs : CallsOk s) (hn : CallOk (u.st n) u.sign[n].isSome u.sess[n].isSome)
    (others : ∀ m : LineNo, n ≠ m → u.st m = s.st m ∧ u.sign[m] = s.sign[m] ∧ u.sess[m] = s.sess[m]) : CallsOk u := by
  intro m
  by_cases same : n = m
  · subst same; exact hn
  · obtain ⟨st, sign, sess⟩ := others m same
    rw [st, sign, sess]
    exact hs m

/-- A line in neither state of a call has no record (R50, R67). -/
theorem unrecorded_records {s : State} {n : LineNo} (hs : CallsOk s) (h : Unrecorded s n) : s.sign[n] = none ∧ s.sess[n] = none := by
  obtain ⟨signon, session⟩ := hs n
  constructor
  · by_contra some
    have : s.sign[n].isSome = true := Option.isSome_iff_ne_none.mpr some
    exact some (h.1 (signon.mpr this))
  · by_contra some
    have : s.sess[n].isSome = true := Option.isSome_iff_ne_none.mpr some
    exact some (h.2 (session.mpr this))

theorem setSup_st_self (s : State) (n : LineNo) (l : LineRec) : (s.setSup n l).st n = l.st := by simp [State.st]

theorem setSup_st_ne {s : State} {n m : LineNo} (l : LineRec) (h : n ≠ m) : (s.setSup n l).st m = s.st m :=
  congrArg LineRec.st (vector_set_get_ne s.sup l h)

theorem move_callsOk {s u : State} (h : Move s u) (hs : CallsOk s) : CallsOk u := by
  cases h with
  | quiet same => exact callsOk_congr (congrArg Vital.sup same) (congrArg Vital.admitted same) (congrArg Vital.sess same) hs
  | line n l change =>
    refine callsOk_replace hs ?_ fun m hm => ⟨setSup_st_ne l hm, rfl, rfl⟩
    rw [setSup_st_self]
    rcases change with same | ⟨unrecorded, rest⟩
    · rw [same]; exact hs n
    · obtain ⟨sign, sess⟩ := unrecorded_records hs unrecorded
      show CallOk l.st s.sign[n].isSome s.sess[n].isSome
      rw [sign, sess]
      exact callOk_of_not_ofRecord rest
  | signOn n l c rest signon =>
    have none : s.sess[n] = none := (unrecorded_records hs (unrecorded_of_not_ofRecord rest)).2
    refine callsOk_replace hs ?_ fun m hm => ⟨setSup_st_ne l hm, vector_set_get_ne _ _ hm, rfl⟩
    show CallOk ((s.setSup n l).st n) (s.sign.set n (some c))[n].isSome s.sess[n].isSome
    rw [setSup_st_self, vector_set_get_self, signon, none]
    exact ⟨by simp, by simp⟩
  | signOff n l signon rest =>
    have none : s.sess[n].isSome = false := by
      have := (hs n).2
      rw [signon] at this
      simpa using this
    refine callsOk_replace hs ?_ fun m hm => ⟨setSup_st_ne l hm, vector_set_get_ne _ _ hm, rfl⟩
    show CallOk ((s.setSup n l).st n) (s.sign.set n Option.none)[n].isSome s.sess[n].isSome
    rw [setSup_st_self, vector_set_get_self, none]
    exact callOk_of_not_ofRecord rest
  | admission n c d hc =>
    refine callsOk_replace hs ?_ fun m hm => ⟨rfl, vector_set_get_ne _ _ hm, rfl⟩
    show CallOk (s.st n) (s.sign.set n (some d))[n].isSome s.sess[n].isSome
    have before := hs n
    rw [hc] at before
    rw [vector_set_get_self]
    exact before
  | establish n l c x _ _ _ session =>
    refine callsOk_replace hs ?_ fun m hm => ⟨setSup_st_ne l hm, vector_set_get_ne _ _ hm, vector_set_get_ne _ _ hm⟩
    show CallOk ((s.setSup n l).st n) (s.sign.set n none)[n].isSome (s.sess.set n (some x))[n].isSome
    rw [setSup_st_self, vector_set_get_self, vector_set_get_self, session]
    exact ⟨by simp, by simp⟩
  | sessions v each =>
    intro n
    show CallOk (s.st n) s.sign[n].isSome v[n].isSome
    rw [(each n).1]
    exact hs n
  | ended n l x r session rest =>
    have none : s.sign[n].isSome = false := by
      have := (hs n).1
      rw [session] at this
      simpa using this
    refine callsOk_replace hs ?_ fun m hm => ⟨setSup_st_ne (s := (s.appendCharge n x r).setSess n Option.none) l hm, rfl, vector_set_get_ne _ _ hm⟩
    rw [setSup_st_self]
    show CallOk l.st s.sign[n].isSome (s.sess.set n Option.none)[n].isSome
    rw [none, vector_set_get_self]
    exact callOk_of_not_ofRecord rest
  | pool | presence | clock | queue | request | streak => exact hs

/-- No line in a state of a call and no record (R6, R25). -/
theorem callsOk_of_no_call {s : State} (hst : ∀ n : LineNo, ¬ofRecord (s.st n)) (hsign : ∀ n : LineNo, s.sign[n].isSome = false)
    (hsess : ∀ n : LineNo, s.sess[n] = none) : CallsOk s := by
  intro n
  show CallOk (s.st n) s.sign[n].isSome s.sess[n].isSome
  rw [hsign, hsess]
  exact callOk_of_not_ofRecord (hst n)

theorem freshLine_st {s : State} {r : Vector LineRec 16} {st : LineState} (h : s.sup = mapTable r fun _ l => LineRec.fresh st l.ri l.cd)
    (n : LineNo) : s.st n = st := by
  show s.sup[n].st = st
  rw [h, mapTable_get]
  rfl

theorem noContext (n : LineNo) : (Vector.replicate 16 (none : Option Context))[n] = none := by simp

/-- A restart and a power-up leave no call. -/
theorem callsOk_reset {s : State} {r : Vector LineRec 16} {st : LineState} (h : s.sup = mapTable r fun _ l => LineRec.fresh st l.ri l.cd)
    (hst : ¬ofRecord st) (hsign : s.sign = Vector.replicate 16 none) (hsess : s.sess = Vector.replicate 16 none) : CallsOk s :=
  callsOk_of_no_call (fun n => (freshLine_st h n).symm ▸ hst) (fun n => by rw [hsign, noContext]; rfl) fun n => by rw [hsess, noSession]

/-- The lines that the start places are in no call (R6, R25). -/
theorem not_ofRecord_placeLine (cfg : Configuration) (loader : Loader) (now : Moment) (n : LineNo) {l : LineRec} (hl : ¬ofRecord l.st) :
    ¬ofRecord (placeLine cfg loader now n l).st := by
  unfold placeLine
  dsimp only
  split
  · split
    · exact LineMoves.not_ofRecord_enterIdle l now
    · exact hl
  · exact hl
  · exact hl

/-- While the loader works no line is in a call (R6, R25). -/
theorem not_ofRecord_loading {s : State} (h : LoadingOk s) (hl : s.loader ≠ .running) (n : LineNo) : ¬ofRecord (s.st n) := by
  obtain ⟨record, -⟩ := (h hl).1 n
  show ¬ofRecord s.sup[n].st
  rw [record]
  unfold LineRec.fresh ofRecord
  dsimp only
  split <;> decide

theorem loaded_not_ofRecord {s v : State} (h : LoadingOk s) (hl : s.loader ≠ .running) (hsup : v.sup = s.sup) (straps : BitVec 4)
    (store : StoreRead) (n : LineNo) : ¬ofRecord ((loaded v straps store).st n) := by
  show ¬ofRecord ((mapTable v.sup (placeLine (readStore store).val v.loader v.now))[n]).st
  rw [mapTable_get, hsup]
  exact not_ofRecord_placeLine _ _ _ n (not_ofRecord_loading h hl n)

theorem loaded_sign {s v : State} (h : LoadingOk s) (hl : s.loader ≠ .running) (same : vital v = vital s) (straps : BitVec 4)
    (store : StoreRead) (n : LineNo) : (loaded v straps store).sign[n].isSome = false := by
  obtain ⟨-, -, -, sign, -⟩ := (h hl).1 n
  have marks : v.sign.map (Option.map Context.admitted) = s.sign.map (Option.map Context.admitted) := congrArg Vital.admitted same
  show v.sign[n].isSome = false
  rw [← admitted_isSome, marks, admitted_isSome, sign]
  rfl

theorem loaded_callsOk {s v : State} (h : LoadingOk s) (hl : s.loader ≠ .running) (same : vital v = vital s) (straps : BitVec 4)
    (store : StoreRead) : CallsOk (loaded v straps store) := by
  refine callsOk_of_no_call (fun n => loaded_not_ofRecord h hl (congrArg Vital.sup same) straps store n) (loaded_sign h hl same straps store)
    fun n => ?_
  obtain ⟨-, -, -, -, sess, -⟩ := (h hl).1 n
  have records : v.sess = s.sess := congrArg Vital.sess same
  show v.sess[n] = none
  rw [records, sess]

/-- Settles O55: by the elementary changes; a restart, a power-up and the start leave no call. -/
theorem callStatesMatchTheirRecords : Obligations.CallStatesMatchTheirRecords := by
  intro s u loadingOk
  exact step_keeps move_callsOk (fun s _ => callsOk_reset (st := .hangup) rfl hangup_not_ofRecord rfl rfl) (fun s b h => h)
    (fun s => callsOk_reset (st := .out) rfl out_not_ofRecord rfl rfl) fun v straps store same loading => loaded_callsOk loadingOk loading same straps store

/-! ## Counting lines -/

theorem countLines_eq_card (p : LineNo → Bool) : countLines p = (Finset.univ.filter fun n => p n = true).card := by
  have all : (allLines.filter p).toFinset = Finset.univ.filter fun n => p n = true := by
    ext n
    simp [mem_allLines]
  rw [countLines, ← all, List.toFinset_card_of_nodup (allLines_nodup.filter _)]

theorem countLines_le {p q : LineNo → Bool} (h : ∀ n, p n = true → q n = true) : countLines p ≤ countLines q := by
  rw [countLines_eq_card, countLines_eq_card]
  exact Finset.card_le_card fun n hn => by simpa using h n (by simpa using hn)

/-- One line more counted. -/
theorem countLines_le_succ {p q : LineNo → Bool} (n : LineNo) (h : ∀ m, m ≠ n → q m = true → p m = true) : countLines q ≤ countLines p + 1 := by
  rw [countLines_eq_card, countLines_eq_card]
  refine (Finset.card_le_card fun m hm => ?_).trans (Finset.card_insert_le n _)
  by_cases same : m = n
  · exact Finset.mem_insert.mpr (.inl same)
  · exact Finset.mem_insert_of_mem (by simpa using h m same (by simpa using hm))

/-- One line fewer counted. -/
theorem countLines_succ_le {p q : LineNo → Bool} (n : LineNo) (hn : p n = false) (hq : q n = true) (h : ∀ m, p m = true → q m = true) :
    countLines p + 1 ≤ countLines q := by
  rw [countLines_eq_card, countLines_eq_card, ← Finset.card_insert_of_notMem (a := n) (by simp [hn])]
  refine Finset.card_le_card fun m hm => ?_
  rcases Finset.mem_insert.mp hm with rfl | hm
  · simpa using hq
  · simpa using h m (by simpa using hm)

/-! ## Charge slots -/

/-- Line `n` holds an admitted context. -/
def admittedAt (s : State) (n : LineNo) : Bool := (s.sign[n].map Context.admitted).getD false

theorem admitted_eq (s : State) : s.admitted = countLines (admittedAt s) := by
  refine congrArg countLines (funext fun n => ?_)
  unfold admittedAt
  cases s.sign[n] <;> rfl

theorem otherAdmitted_eq (s : State) (n : LineNo) : s.otherAdmitted n = countLines fun m => decide (m ≠ n) && admittedAt s m := by
  refine congrArg countLines (funext fun m => ?_)
  unfold admittedAt
  cases s.sign[m] <;> rfl

theorem admittedAt_congr {s u : State} (h : u.sign.map (Option.map Context.admitted) = s.sign.map (Option.map Context.admitted)) (n : LineNo) :
    admittedAt u n = admittedAt s n := by
  have at_n := congrArg (fun v : Vector (Option Bool) 16 => v[n]) h
  have at_n : u.sign[n].map Context.admitted = s.sign[n].map Context.admitted := by simpa using at_n
  rw [admittedAt, admittedAt, at_n]

/-- The records, the lines in SESSION and the admitted contexts fit the Charge Queue if they did before and are together no more. -/
theorem slotsOk_of_le {s u : State} (hs : SlotsOk s) (h : u.queue.length + u.linesIn .session + u.admitted ≤ s.queue.length + s.linesIn .session + s.admitted) :
    SlotsOk u := h.trans hs

theorem linesIn_le {s u : State} {x : LineState} (h : ∀ n, u.st n = x → s.st n = x) : u.linesIn x ≤ s.linesIn x :=
  countLines_le fun n hn => decide_eq_true (h n (of_decide_eq_true hn))

theorem admitted_le {s u : State} (h : ∀ n, admittedAt u n = true → admittedAt s n = true) : u.admitted ≤ s.admitted := by
  rw [admitted_eq, admitted_eq]
  exact countLines_le h

/-- A line that goes to a state which is not SESSION leaves no more lines in SESSION. -/
theorem linesIn_session_setSup_le {s : State} {n : LineNo} {l : LineRec} (h : l.st = .session → s.st n = .session) :
    (s.setSup n l).linesIn .session ≤ s.linesIn .session := by
  refine linesIn_le fun m hm => ?_
  by_cases same : n = m
  · subst same
    rw [setSup_st_self] at hm
    exact h hm
  · rwa [setSup_st_ne l same] at hm

theorem admittedAt_setSign (s : State) (n m : LineNo) (c : Option Context) :
    admittedAt (s.setSign n c) m = if n = m then (c.map Context.admitted).getD false else admittedAt s m := by
  unfold admittedAt
  rw [setSign_sign, vector_set_get]
  split <;> rfl

/-- A context that is not admitted, or none, leaves no more admitted contexts. -/
theorem admitted_setSign_le {s : State} {n : LineNo} {c : Option Context} (h : (c.map Context.admitted).getD false = false) :
    (s.setSign n c).admitted ≤ s.admitted := by
  refine admitted_le fun m hm => ?_
  rw [admittedAt_setSign, h] at hm
  split at hm
  · cases hm
  · exact hm

theorem move_slotsOk {s u : State} (h : Move s u) (hs : SlotsOk s) : SlotsOk u := by
  cases h with
  | quiet same =>
    have sup : u.sup = s.sup := congrArg Vital.sup same
    have queue : u.queue.map markOf = s.queue.map markOf := congrArg Vital.queue same
    have length : u.queue.length = s.queue.length := by simpa using congrArg List.length queue
    have lines : u.linesIn .session ≤ s.linesIn .session := linesIn_le fun n hn => by rwa [State.st, sup] at hn
    have contexts : u.admitted ≤ s.admitted := admitted_le fun n hn => by rwa [admittedAt_congr (congrArg Vital.admitted same)] at hn
    exact slotsOk_of_le hs (by omega)
  | line n l change =>
    have lines := linesIn_session_setSup_le (s := s) (n := n) (l := l) fun e =>
      change.elim (fun same => same ▸ e) fun ⟨_, rest⟩ => absurd (.inr e) rest
    exact slotsOk_of_le hs (Nat.add_le_add_right (Nat.add_le_add_left lines _) _)
  | signOn n l c _ signon _ admitted =>
    have lines := linesIn_session_setSup_le (s := s) (n := n) (l := l) fun e => absurd (signon.symm.trans e) (by decide)
    have contexts := admitted_setSign_le (s := s.setSup n l) (n := n) (c := some c) admitted
    exact slotsOk_of_le hs (Nat.add_le_add (Nat.add_le_add_left lines _) contexts)
  | signOff n l _ rest =>
    have lines := linesIn_session_setSup_le (s := s) (n := n) (l := l) fun e => absurd (.inr e) rest
    have contexts := admitted_setSign_le (s := s.setSup n l) (n := n) (c := none) rfl
    exact slotsOk_of_le hs (Nat.add_le_add (Nat.add_le_add_left lines _) contexts)
  | admission n c d _ free =>
    have contexts : (s.setSign n (some d)).admitted ≤ s.otherAdmitted n + 1 := by
      rw [admitted_eq, otherAdmitted_eq]
      refine countLines_le_succ n fun m hm admitted => ?_
      rw [admittedAt_setSign, if_neg (Ne.symm hm)] at admitted
      simp [hm, admitted]
    show s.queue.length + s.linesIn .session + (s.setSign n (some d)).admitted ≤ chargeSlots
    omega
  | establish n l c x signon hc admitted session =>
    have lines : (s.setSup n l).linesIn .session ≤ s.linesIn .session + 1 := by
      refine countLines_le_succ n fun m hm inSession => ?_
      rwa [setSup_st_ne l (Ne.symm hm)] at inSession
    have contexts : ((s.setSup n l).setSign n none).admitted + 1 ≤ s.admitted := by
      rw [admitted_eq, admitted_eq]
      refine countLines_succ_le n ?_ ?_ fun m hm => ?_
      · rw [admittedAt_setSign, if_pos rfl]; rfl
      · simp [admittedAt, hc, admitted]
      · rw [admittedAt_setSign] at hm
        split at hm
        · cases hm
        · exact hm
    refine slotsOk_of_le hs ?_
    show s.queue.length + (s.setSup n l).linesIn .session + ((s.setSup n l).setSign n none).admitted ≤ _
    omega
  | ended n l x r session rest =>
    have lines : (s.setSup n l).linesIn .session + 1 ≤ s.linesIn .session := by
      refine countLines_succ_le n ?_ (decide_eq_true session) fun m hm => decide_eq_true ?_
      · rw [setSup_st_self]; exact decide_eq_false fun e => rest (.inr e)
      · have hm := of_decide_eq_true hm
        by_cases same : n = m
        · subst same; exact session
        · rwa [setSup_st_ne l same] at hm
    refine slotsOk_of_le hs ?_
    show (s.queue ++ [_]).length + (s.setSup n l).linesIn .session + s.admitted ≤ _
    rw [List.length_append, List.length_singleton]
    omega
  | queue q shorter => exact slotsOk_of_le hs (Nat.add_le_add_right (Nat.add_le_add_right shorter _) _)
  | pool | sessions | presence | clock | request | streak => exact hs

theorem linesIn_eq_zero {s : State} {x : LineState} (h : ∀ n, s.st n ≠ x) : s.linesIn x = 0 := by
  rw [State.linesIn, countLines_eq_card]
  simp [h]

theorem admitted_eq_zero {s : State} (h : ∀ n : LineNo, s.sign[n].isSome = false) : s.admitted = 0 := by
  rw [admitted_eq, countLines_eq_card]
  have none (n : LineNo) : admittedAt s n = false := by
    have context : s.sign[n] = Option.none := Option.isSome_eq_false_iff.mp (h n) |> Option.isNone_iff_eq_none.mp
    rw [admittedAt, context]
    rfl
  simp [none]

/-- With no line in a call the records alone count. -/
theorem slotsOk_of_no_call {s : State} (hst : ∀ n : LineNo, ¬ofRecord (s.st n)) (hsign : ∀ n : LineNo, s.sign[n].isSome = false)
    (hq : s.queue.length ≤ chargeSlots) : SlotsOk s := by
  unfold SlotsOk
  rw [linesIn_eq_zero fun n e => hst n (.inr e), admitted_eq_zero hsign]
  exact hq

/-! ## The sessions that a restart ends -/

/-- A line's session at a restart: its record stands in the queue, and the others' session records as they stood (R25). -/
theorem restartSession_cases (n : LineNo) (s : State) :
    (s.sess[n] = none ∧ s.restartSession n = s) ∨
      ∃ x r, s.sess[n] = some x ∧ s.restartSession n = (s.appendCharge n (x.finish s.cfg) r).setSess n none := by
  cases h : s.sess[n] with
  | none => exact .inl ⟨rfl, restartSession_of_none h⟩
  | some x =>
    refine .inr ⟨x, x.reason.getD .restart, rfl, ?_⟩
    unfold State.restartSession
    rw [h]

theorem restartSession_sess_ne {n m : LineNo} (h : n ≠ m) (s : State) : (s.restartSession n).sess[m] = s.sess[m] := by
  rcases restartSession_cases n s with ⟨-, e⟩ | ⟨x, r, -, e⟩
  · rw [e]
  · rw [e, setSess_sess]
    exact vector_set_get_ne _ _ h

/-- The queue grows by one record for each session that ends. -/
theorem restartSessions_length {ls : List LineNo} (nodup : ls.Nodup) (s : State) :
    (eachLine ls State.restartSession s).queue.length = s.queue.length + (ls.filter fun n => s.sess[n].isSome).length := by
  induction ls generalizing s with
  | nil => rfl
  | cons n ls ih =>
    obtain ⟨fresh, nodup⟩ := List.nodup_cons.mp nodup
    have rest : (ls.filter fun m => (s.restartSession n).sess[m].isSome) = ls.filter fun m => s.sess[m].isSome :=
      List.filter_congr fun m hm => by rw [restartSession_sess_ne fun (e : n = m) => fresh (e ▸ hm)]
    show (eachLine ls State.restartSession (s.restartSession n)).queue.length = _
    rw [ih nodup, rest]
    rcases restartSession_cases n s with ⟨none, e⟩ | ⟨x, r, some, e⟩
    · rw [e, List.filter_cons_of_neg (by simp [none])]
    · rw [e, List.filter_cons_of_pos (by simp [some]), List.length_cons]
      show (s.queue ++ [_]).length + _ = _
      rw [List.length_append, List.length_singleton]
      omega

/-- Every session has its slot, so the records that a restart appends fit (R124). -/
theorem restartSessions_fit {s : State} (calls : CallsOk s) (hs : SlotsOk s) :
    (eachLine allLines State.restartSession s).queue.length ≤ chargeSlots := by
  have sessions : (allLines.filter fun n => s.sess[n].isSome).length = s.linesIn .session := by
    refine congrArg List.length (List.filter_congr fun n _ => ?_)
    have := (calls n).2
    by_cases inSession : s.st n = .session
    · rw [this.mp inSession]; exact (decide_eq_true inSession).symm
    · rw [Bool.eq_false_iff.mpr fun some => inSession (this.mpr some)]; exact (decide_eq_false inSession).symm
  rw [restartSessions_length allLines_nodup, sessions]
  exact (Nat.le_add_right _ _).trans hs

theorem restart_queue (s : State) : s.restart.queue = (eachLine allLines State.restartSession s).queue.map Queued.unoffer := by
  simp only [State.restart]

theorem restart_slotsOk {s : State} (calls : CallsOk s) (hs : SlotsOk s) : SlotsOk s.restart := by
  refine slotsOk_of_no_call (fun n => ?_) (fun n => ?_) ?_
  · rw [freshLine_st (s := s.restart) (r := s.sup) (st := .hangup) rfl]; exact hangup_not_ofRecord
  · show (Vector.replicate 16 (none : Option Context))[n].isSome = false
    rw [noContext]; rfl
  · rw [restart_queue, List.length_map]
    exact restartSessions_fit calls hs

theorem powerUp_slotsOk (s : State) : SlotsOk s.powerUp := by
  refine slotsOk_of_no_call (fun n => ?_) (fun n => ?_) (Nat.zero_le _)
  · rw [freshLine_st (s := s.powerUp) (r := s.sup) (st := .out) rfl]; exact out_not_ofRecord
  · show (Vector.replicate 16 (none : Option Context))[n].isSome = false
    rw [noContext]; rfl

theorem loaded_slotsOk {s v : State} (h : LoadingOk s) (hl : s.loader ≠ .running) (same : vital v = vital s) (hs : SlotsOk s)
    (straps : BitVec 4) (store : StoreRead) : SlotsOk (loaded v straps store) := by
  have queue : v.queue.map markOf = s.queue.map markOf := congrArg Vital.queue same
  have length : v.queue.length = s.queue.length := by simpa using congrArg List.length queue
  refine slotsOk_of_no_call (fun n => loaded_not_ofRecord h hl (congrArg Vital.sup same) straps store n) (loaded_sign h hl same straps store) ?_
  show v.queue.length ≤ chargeSlots
  rw [length]
  unfold SlotsOk at hs
  omega

/-- Settles O56: a slot is taken by an admission, which finds one free, and then handed on to the session and its record. -/
theorem everySessionHasAChargeSlot : Obligations.EverySessionHasAChargeSlot := by
  intro s u loadingOk calls hs h
  have both : CallsOk u ∧ SlotsOk u :=
    step_keeps (P := fun s => CallsOk s ∧ SlotsOk s) (fun h ⟨calls, hs⟩ => ⟨move_callsOk h calls, move_slotsOk h hs⟩)
      (fun s ⟨calls, hs⟩ => ⟨callsOk_reset (s := s.restart) (st := .hangup) rfl hangup_not_ofRecord rfl rfl, restart_slotsOk calls hs⟩) (fun s b h => h)
      (fun s => ⟨callsOk_reset (s := s.powerUp) (st := .out) rfl out_not_ofRecord rfl rfl, powerUp_slotsOk s⟩)
      (fun v straps store same loading =>
        ⟨loaded_callsOk loadingOk loading same straps store, loaded_slotsOk loadingOk loading same hs straps store⟩) ⟨calls, hs⟩ h
  exact both.2

end Sys2Proof.Proofs.Charges
end

section
/-! The Charge Queue stays ordered (R115, R116): a record that joins it takes a serial that no other bears, and joins unoffered behind the others. -/

namespace Sys2Proof.Proofs.ChargeOrder

open Sys2Proof Sys2Proof.Machine Sys2Proof.Proofs.Moves Sys2Proof.Proofs.SessionMoves Sys2Proof.Proofs.Commands Sys2Proof.Proofs.Steps
open Sys2Proof.Proofs.RecordSerial Sys2Proof.Proofs.Charges

/-! ## The order, of a queue's serials and marks -/

/-- R116, of the serials and offered marks alone. -/
def MarksOk (q : List (BitVec 8 × Bool)) : Prop :=
  q.Pairwise (fun a b => a.1 ≠ b.1) ∧ (q.filter Prod.snd).length ≤ offerWindow ∧ q.Pairwise fun a b => b.2 = true → a.2 = true

theorem queueOk_iff (s : State) : QueueOk s ↔ MarksOk (s.queue.map markOf) := by
  have count : ((s.queue.map markOf).filter Prod.snd).length = offeredCount s.queue := by
    rw [List.filter_map, List.length_map]
    rfl
  unfold QueueOk MarksOk
  rw [count, offeredFirst_iff, List.pairwise_map, List.pairwise_map]
  rfl

theorem queueOk_congr {s u : State} (h : u.queue.map markOf = s.queue.map markOf) (hs : QueueOk s) : QueueOk u := by
  rw [queueOk_iff] at hs ⊢
  rwa [h]

/-- With every offer ended the order stands (R123). -/
theorem marksOk_unoffer {q : List Queued} (hq : MarksOk (q.map markOf)) : MarksOk ((q.map Queued.unoffer).map markOf) :=
  (queueOk_iff { State.reset with queue := q.map Queued.unoffer }).mp
    (queueOk_unoffer (s := { State.reset with queue := q }) ((queueOk_iff { State.reset with queue := q }).mpr hq))

/-- An unoffered record with a serial of its own joins the back of the queue. -/
theorem marksOk_append {q : List (BitVec 8 × Bool)} {v : BitVec 8} (hq : MarksOk q) (hv : ∀ m ∈ q, m.1 ≠ v) : MarksOk (q ++ [(v, false)]) := by
  obtain ⟨serials, count, first⟩ := hq
  refine ⟨List.pairwise_append.mpr ⟨serials, List.pairwise_singleton _ _, fun m hm r hr => ?_⟩, ?_,
    List.pairwise_append.mpr ⟨first, List.pairwise_singleton _ _, fun m _ r hr offered => ?_⟩⟩
  · rw [List.mem_singleton.mp hr]
    exact hv m hm
  · rw [List.filter_append, List.length_append]
    exact count
  · rw [List.mem_singleton.mp hr] at offered
    cases offered

/-- A queue with at most 32 records leaves a serial to find for the record that joins it (R115). -/
theorem freeSerial_not_bears {q : List Queued} (hq : q.length ≤ 32) (c : BitVec 8) : ¬Bears q (freeSerial q 33 c) := by
  obtain ⟨k, hk, run, free⟩ := exists_first_free hq c
  rwa [freeSerial_eq_first_free (Nat.lt_succ_of_le hk) run free]

theorem queueOk_appendCharge {s : State} (n : LineNo) (x : Session) (r : CloseReason) (hlen : s.queue.length ≤ 32) (hs : QueueOk s) :
    QueueOk (s.appendCharge n x r) := by
  rw [queueOk_iff] at hs ⊢
  rw [appendCharge_queue, List.map_append]
  refine marksOk_append hs fun m hm => ?_
  obtain ⟨q, hq, rfl⟩ := List.mem_map.mp hm
  exact (not_bears_iff _ _).mp (freeSerial_not_bears hlen s.recordSerial) q hq

theorem move_queueOk {s u : State} (h : Move s u) (slots : SlotsOk s) (hs : QueueOk s) : QueueOk u := by
  cases h with
  | quiet same => exact queueOk_congr (congrArg Vital.queue same) hs
  | ended n l x r =>
    have length : s.queue.length ≤ 32 := (Nat.le_add_right _ _).trans ((Nat.le_add_right _ _).trans slots)
    exact queueOk_congr (s := s.appendCharge n x r) rfl (queueOk_appendCharge n x r length hs)
  | queue q _ keeps => exact keeps hs
  | line | pool | signOn | signOff | admission | establish | sessions | presence | clock | request | streak => exact hs

/-! ## The sessions that a restart ends -/

theorem restartSession_length_le (n : LineNo) (s : State) : s.queue.length ≤ (s.restartSession n).queue.length := by
  rcases restartSession_cases n s with ⟨-, e⟩ | ⟨x, r, -, e⟩
  · rw [e]
  · rw [e, setSess_queue, appendCharge_queue, List.length_append]
    exact Nat.le_add_right _ _

/-- One session's end, with room left in the queue after it. -/
theorem queueOk_restartSession {n : LineNo} {s : State} (hlen : (s.restartSession n).queue.length ≤ 32) (hs : QueueOk s) :
    QueueOk (s.restartSession n) := by
  have before := (restartSession_length_le n s).trans hlen
  rcases restartSession_cases n s with ⟨-, e⟩ | ⟨x, r, -, e⟩
  · rwa [e]
  · rw [e]
    exact queueOk_congr (s := s.appendCharge n (x.finish s.cfg) r) rfl (queueOk_appendCharge n _ r before hs)

theorem restartSessions_length_le (ls : List LineNo) (s : State) : s.queue.length ≤ (eachLine ls State.restartSession s).queue.length :=
  eachLine_induction (fun u => s.queue.length ≤ u.queue.length) State.restartSession
    (fun n u h => h.trans (restartSession_length_le n u)) ls s le_rfl

theorem queueOk_restartSessions (ls : List LineNo) (s : State) (hlen : (eachLine ls State.restartSession s).queue.length ≤ 32) (hs : QueueOk s) :
    QueueOk (eachLine ls State.restartSession s) := by
  induction ls generalizing s with
  | nil => exact hs
  | cons n ls ih =>
    have here := (restartSessions_length_le ls (s.restartSession n)).trans hlen
    exact ih (s.restartSession n) hlen (queueOk_restartSession here hs)

theorem restart_queueOk {s : State} (calls : CallsOk s) (slots : SlotsOk s) (hs : QueueOk s) : QueueOk s.restart := by
  have ended := queueOk_restartSessions allLines s (restartSessions_fit calls slots) hs
  rw [queueOk_iff] at ended ⊢
  rw [restart_queue]
  exact marksOk_unoffer ended

theorem powerUp_queueOk (s : State) : QueueOk s.powerUp := ⟨.nil, Nat.zero_le _, rfl⟩

/-- Settles O57: a record joins the queue with a charge slot free for it, so among 33 serials one is left for it. -/
theorem chargeQueueStaysOrdered : Obligations.ChargeQueueStaysOrdered := by
  intro s u loadingOk calls slots hs h
  have all : CallsOk u ∧ SlotsOk u ∧ QueueOk u :=
    step_keeps (P := fun s => CallsOk s ∧ SlotsOk s ∧ QueueOk s)
      (fun h ⟨calls, slots, hs⟩ => ⟨move_callsOk h calls, move_slotsOk h slots, move_queueOk h slots hs⟩)
      (fun s ⟨calls, slots, hs⟩ =>
        ⟨callsOk_reset (s := s.restart) (st := .hangup) rfl hangup_not_ofRecord rfl rfl, restart_slotsOk calls slots, restart_queueOk calls slots hs⟩)
      (fun s b h => h)
      (fun s => ⟨callsOk_reset (s := s.powerUp) (st := .out) rfl out_not_ofRecord rfl rfl, powerUp_slotsOk s, powerUp_queueOk s⟩)
      (fun v straps store same loading =>
        ⟨loaded_callsOk loadingOk loading same straps store, loaded_slotsOk loadingOk loading same slots straps store,
          queueOk_congr (s := s) (congrArg Vital.queue same) hs⟩) ⟨calls, slots, hs⟩ h
  obtain ⟨-, -, queue⟩ := all
  exact queue

end Sys2Proof.Proofs.ChargeOrder
end

section
/-! While the Start-Up Loader works nothing acts (R6, R25, R126, R154, R158). Every line rests in OUT or HANGUP with no call, no request and no timer, so
every command but the edges of pins and of the timebase, the power-up, the restart and the start finds nothing to do. -/

namespace Sys2Proof.Proofs.Loading

open Sys2Proof Sys2Proof.Machine Sys2Proof.Proofs.Moves Sys2Proof.Proofs.Commands Sys2Proof.Proofs.Steps

/-! ## The station while it loads -/

/-- What the loading leaves of a line for a command to find: it is in no state in which an event acts, and has no record, request or timer. -/
structure RestingLine (s : State) (n : LineNo) : Prop where
  st : s.st n = .out ∨ s.st n = .hangup
  burst : s.sup[n].burst = none
  guard : s.sup[n].hangupGuard = none
  asks : s.asks[n] = Asks.fresh
  path : s.path[n] = Path.fresh
  sign : s.sign[n] = none
  sess : s.sess[n] = none
  phase : s.run[n].phase = .none

/-- The station while the loader works. -/
structure Loads (s : State) : Prop where
  ok : LoadingOk s
  loading : s.loader ≠ .running

variable {s : State}

theorem Loads.line (h : Loads s) (n : LineNo) : RestingLine s n := by
  obtain ⟨record, asks, path, sign, sess, -, phase, -⟩ := (h.ok h.loading).1 n
  have st : s.st n = if s.loader = .powerUp then .out else .hangup := congrArg LineRec.st record
  refine ⟨?_, congrArg LineRec.burst record, congrArg LineRec.hangupGuard record, asks, path, sign, sess, phase⟩
  rw [st]
  split
  · exact .inl rfl
  · exact .inr rfl

theorem Loads.wire (h : Loads s) : s.wire = none := by
  obtain ⟨-, -, -, -, -, wire, -⟩ := h.ok h.loading
  exact wire

theorem Loads.not_started (h : Loads s) : s.started = false := decide_eq_false h.loading

theorem Loads.hears (h : Loads s) (src : Station) : s.hears src = false := by simp [State.hears, h.not_started]

/-- A line in OUT or HANGUP is in no other state. -/
theorem Loads.st_ne (h : Loads s) (n : LineNo) {x : LineState} (out : x ≠ .out) (hangup : x ≠ .hangup) : s.st n ≠ x := by
  rcases (h.line n).st with e | e <;> rw [e]
  · exact out.symm
  · exact hangup.symm

theorem Loads.at (h : Loads s) (t : Moment) : Loads (s.at t) := ⟨h.ok, h.loading⟩

/-- The levels of a line's input pins change, and nothing else of its record. -/
theorem Loads.setLevels (h : Loads s) (n : LineNo) (a b : Bool) : Loads (s.setSup n { s.sup[n] with ri := a, cd := b }) := by
  refine ⟨fun _ => ?_, h.loading⟩
  obtain ⟨lines, rest⟩ := h.ok h.loading
  refine ⟨fun m => ?_, rest⟩
  obtain ⟨record, others⟩ := lines m
  refine ⟨?_, others⟩
  rw [setSup_sup, vector_set_get]
  split
  · next same =>
    subst same
    rw [record]
    rfl
  · exact record

/-! ## Events that find nothing to do -/

/-- The closing work does nothing while the loader works. -/
theorem loadingOk_take {u : State} {t : Moment} {effect : State → State} (h : take s t effect = .next u)
    (loads : Loads (effect (s.at t))) : LoadingOk u := by
  have same : s.event t effect = effect (s.at t) := settle_of_not_started _ _ loads.not_started
  cases h
  rw [same]
  exact loads.ok

/-- An event that changes nothing. -/
theorem loadingOk_of_still {u : State} {t : Moment} {effect : State → State} (h : take s t effect = .next u) (hs : Loads s)
    (still : effect (s.at t) = s.at t) : LoadingOk u :=
  loadingOk_take h (still.symm ▸ hs.at t)

/-! ## Lines -/

theorem Loads.riRise (h : Loads s) (n : LineNo) : Loads (s.riRise n) := by
  have raised := h.setLevels n true s.sup[n].cd
  unfold State.riRise
  split
  · exact h
  · rcases (h.line n).st with e | e <;> rw [e] <;> exact raised

theorem Loads.riFall (h : Loads s) (n : LineNo) : Loads (s.riFall n) := by
  have fallen := h.setLevels n false s.sup[n].cd
  have burst := (h.line n).burst
  have same : s.updSup n (fun l => { l with ri := false, burst := none }) = s.setSup n { s.sup[n] with ri := false } :=
    congrArg (s.setSup n) (by rw [← burst])
  unfold State.riFall
  split
  · rw [burst]
    dsimp only
    rw [same]
    exact fallen
  · exact h

theorem Loads.cdRise (h : Loads s) (n : LineNo) : Loads (s.cdRise n) := by
  have raised := h.setLevels n s.sup[n].ri true
  unfold State.cdRise
  split
  · exact h
  · rcases (h.line n).st with e | e <;> rw [e] <;> exact raised

theorem Loads.cdFall (h : Loads s) (n : LineNo) : Loads (s.cdFall n) := by
  have fallen := h.setLevels n s.sup[n].ri false
  unfold State.cdFall
  split
  · rcases (h.line n).st with e | e <;> rw [e] <;> exact fallen
  · exact h

theorem Loads.ringStuck (h : Loads s) (n : LineNo) : s.ringStuck n = false := by
  unfold State.ringStuck
  rw [(h.line n).burst]
  simp [ranFor]

theorem Loads.receiving (h : Loads s) (n : LineNo) : s.receiving n = false := by
  unfold State.receiving
  rw [(h.line n).path]
  simp [Path.fresh]

theorem Loads.loopGood (h : Loads s) (n : LineNo) : s.loopGood n = false := by
  have phase : s.run[(n : Nat)].phase = .none := (h.line n).phase
  simp [State.loopGood, phase]

theorem Loads.loopGone (h : Loads s) (n : LineNo) : s.loopGone n = false := by
  have phase : s.run[(n : Nat)].phase = .none := (h.line n).phase
  simp [State.loopGone, phase]

theorem Loads.carrierGood (h : Loads s) (n : LineNo) : s.carrierGood n = false := by
  simp [State.carrierGood, h.st_ne n (x := .answering) (by decide) (by decide)]

theorem Loads.carrierGone (h : Loads s) (n : LineNo) : s.carrierGone n = false := by
  unfold State.carrierGone
  rcases (h.line n).st with e | e <;> rw [e] <;> rfl

/-! ## Frames -/

theorem Loads.takeAll (h : Loads s) (src : Station) (effect : State → State) : s.takeAll src effect = s :=
  if_neg (Bool.eq_false_iff.mp (h.hears src))

theorem Loads.takeOwn (h : Loads s) (src : Station) (effect : State → State) : s.takeOwn src effect = s :=
  if_neg (Bool.eq_false_iff.mp (h.hears src))

theorem Loads.frameOnBus (h : Loads s) (src : Station) (dest : BitVec 5) : s.frameOnBus src dest = s := by
  unfold State.frameOnBus
  rw [h.takeOwn, h.takeAll, h.hears]
  simp

theorem Loads.dataOut (h : Loads s) (src : Station) (line flags : Byte) (chars : List Char7) : s.dataOut src line flags chars = s := by
  unfold State.dataOut
  dsimp only
  split
  · rw [h.hears, if_neg (by simp)]
    exact h.takeOwn src _
  · exact h.takeOwn src _

/-! ## Time -/

theorem Loads.flagTimebase (h : Loads s) : Loads s.flagTimebase := by
  have same : s.flagTimebase = s := by
    have sess : mapTable s.sess (fun _ x => x.map fun x => { x with timebase := true }) = s.sess :=
      vector_ext_fin fun n => by rw [mapTable_get, (h.line n).sess]; rfl
    unfold State.flagTimebase
    rw [sess]
  rw [same]
  exact h

/-- A tick finds no session, and advances the clock. -/
theorem tick_of_no_session (h : ∀ n : LineNo, s.sess[n] = none) : s.tick = { s with clock := s.clock.advance } := by
  have none (n : LineNo) : s.tickLine n = none := by rw [State.tickLine, h n]; rfl
  have sess : mapTable s.sess (fun n x => match s.tickLine n with | some m => some m.sess | Option.none => x) = s.sess :=
    vector_ext_fin fun n => by rw [mapTable_get, none n]
  have lines : (allLines.filter fun n => noticesOf (s.tickLine n) ≠ []) = [] := List.filter_eq_nil_iff.mpr fun n _ => by simp [none n, noticesOf]
  have closes (u : State) : eachLine allLines (fun n => State.closeBy n (s.tickLine n)) u = u :=
    eachLine_induction (· = u) _ (fun n v e => by rw [none n]; exact e) allLines u rfl
  unfold State.tick
  dsimp only
  rw [lines, closes]
  exact congrArg (fun v : Vector (Option Session) 16 => { s with sess := v, clock := s.clock.advance }) sess

theorem Loads.takeTick (h : Loads s) : Loads s.takeTick := by
  have tick : s.takeTick = { s with timebase := { s.timebase with lastTick := some s.now }, clock := s.clock.advance } :=
    tick_of_no_session (s := { s with timebase := { s.timebase with lastTick := some s.now } }) fun n => (h.line n).sess
  rw [tick]
  exact ⟨h.ok, h.loading⟩

theorem Loads.setTimebase (h : Loads s) (b : Timebase) : Loads { s with timebase := b } := ⟨h.ok, h.loading⟩

theorem Loads.tbEdge (h : Loads s) : Loads s.tbEdge := by
  unfold State.tbEdge
  split
  · split
    · exact (h.setTimebase _).takeTick
    · exact h
  · split
    · dsimp only
      split
      · exact (h.setTimebase _).takeTick
      · exact h.setTimebase _
    · exact h.setTimebase _

theorem Loads.failReference (h : Loads s) : Loads s.failReference := (h.setTimebase _).flagTimebase.takeTick

theorem Loads.dividerTick (h : Loads s) : Loads s.dividerTick := (h.setTimebase _).takeTick

theorem Loads.ite {u : State} (h : Loads s) {c : Prop} [Decidable c] (k : Loads u) : Loads (if c then u else s) := by
  split
  · exact k
  · exact h

/-! ## Power-up, restart and start -/

theorem replicate_get {α : Type} (x : α) (n : LineNo) : (Vector.replicate 16 x)[n] = x := by simp

theorem loadingOk_powerUp (s : State) : LoadingOk s.powerUp := by
  refine fun _ => ⟨fun n => ⟨?_, replicate_get _ n, replicate_get _ n, replicate_get _ n, replicate_get _ n, replicate_get _ n, ?_, replicate_get _ n⟩,
    rfl, rfl, fun r hr => absurd hr List.not_mem_nil, rfl, rfl, rfl, rfl, rfl, rfl, rfl⟩
  · show (mapTable s.sup fun _ l => LineRec.fresh .out l.ri l.cd)[n] = LineRec.fresh .out _ _
    rw [mapTable_get]
    exact congrArg₂ (LineRec.fresh .out) (by show _ = (mapTable s.sup fun _ l => LineRec.fresh .out l.ri l.cd)[n].ri; rw [mapTable_get]; rfl)
      (by show _ = (mapTable s.sup fun _ l => LineRec.fresh .out l.ri l.cd)[n].cd; rw [mapTable_get]; rfl)
  · show (Vector.replicate 16 Run.fresh)[n].phase = .none
    rw [replicate_get]
    rfl

theorem loadingOk_restart (s : State) : LoadingOk s.restart := by
  refine fun _ => ⟨fun n => ⟨?_, replicate_get _ n, replicate_get _ n, replicate_get _ n, replicate_get _ n, replicate_get _ n, ?_, replicate_get _ n⟩,
    rfl, rfl, fun r hr => ?_, rfl, rfl, rfl, rfl, rfl, rfl, rfl⟩
  · show (mapTable s.sup fun _ l => LineRec.fresh .hangup l.ri l.cd)[n] = LineRec.fresh .hangup _ _
    rw [mapTable_get]
    exact congrArg₂ (LineRec.fresh .hangup) (by show _ = (mapTable s.sup fun _ l => LineRec.fresh .hangup l.ri l.cd)[n].ri; rw [mapTable_get]; rfl)
      (by show _ = (mapTable s.sup fun _ l => LineRec.fresh .hangup l.ri l.cd)[n].cd; rw [mapTable_get]; rfl)
  · show (Vector.replicate 16 Run.fresh)[n].phase = .none
    rw [replicate_get]
    rfl
  · rw [Charges.restart_queue] at hr
    obtain ⟨q, -, rfl⟩ := List.mem_map.mp hr
    rfl

theorem loadingOk_setPin (b : Bool) (h : LoadingOk s) : LoadingOk { s with restartPin := b } := h

theorem loadingOk_restartWith (b : Bool) (s : State) : LoadingOk (restartWith b s) := loadingOk_setPin b (loadingOk_restart s)

/-! ## Every command -/

theorem Loads.closeAt (h : Loads s) (n : LineNo) (limit : Session → Bool) (r : CloseReason) : s.closeAt n limit r = s := by
  unfold State.closeAt
  rw [(h.line n).sess]

theorem Loads.confirmWaitExpiry (h : Loads s) (n : LineNo) : s.confirmWaitExpiry n = s := by
  unfold State.confirmWaitExpiry State.updSess
  rw [(h.line n).sess]

theorem Loads.ackWait (h : Loads s) (serial : BitVec 8) : ackWaitOf s.queue serial = none := by
  obtain ⟨-, -, -, unoffered, -⟩ := h.ok h.loading
  unfold ackWaitOf
  split
  · next r found => rw [unoffered r (List.mem_of_find?_eq_some found), if_neg Bool.false_ne_true]
  · rfl

theorem Loads.timers (h : Loads s) : s.bus = .silent ∧ s.quietTimer = none ∧ s.refreshTimer = none ∧ s.beaconTimer = none ∧ s.clashTimer = none := by
  obtain ⟨-, -, -, -, -, -, timers⟩ := h.ok h.loading
  exact timers

/-- An event that acts on the frame on the wire finds none. -/
theorem loadingOk_wire {u : State} {t : Moment} {effect : WireFrame → State → State} (hs : Loads s)
    (h : take s t (fun s => match s.wire with | some w => effect w s | none => s) = .next u) : LoadingOk u :=
  loadingOk_of_still h hs (by rw [(hs.at t).wire])

/-- A command that acts if its condition holds, which it does not. -/
theorem loadingOk_idle {u : State} {t : Moment} {c : State → Prop} [DecidablePred c] {effect : State → State} (hs : Loads s)
    (h : take s t (fun s => if c s then effect s else s) = .next u) (no : ¬c (s.at t)) : LoadingOk u :=
  loadingOk_of_still h hs (if_neg no)

theorem loadingOk_start {u : State} {t : Moment} {straps : BitVec 4} {store : StoreRead} (hs : LoadingOk s)
    (h : execStartOtherBlocks t straps store s = .next u) : LoadingOk u := by
  unfold execStartOtherBlocks at h
  split at h
  · cases h; exact hs
  · cases h
    have running : (s.eventForAll t fun s => s.start straps store).loader = .running := by
      rw [State.eventForAll, settle_loader, start_eq, raise_loader]
      rfl
    exact fun loading => absurd running loading

theorem loadingOk_pin {u : State} {t : Moment} (hs : LoadingOk s) (h : execRestartPinAsserted t s = .next u) : LoadingOk u := by
  unfold execRestartPinAsserted at h
  dsimp only at h
  split at h
  · cases h; exact hs
  · split at h
    · cases h; exact hs
    all_goals cases h; exact loadingOk_restartWith true (s.at t)

theorem loadingOk_exec {c : Instr} {u : State} (hs : Loads s) (h : exec c s = .next u) : LoadingOk u := by
  have fresh (n : LineNo) : s.asks[n] = Asks.fresh := (hs.line n).asks
  cases c with
  | powerUpReset t => cases h; exact loadingOk_powerUp (s.at t)
  | startOtherBlocks t straps store => exact loadingOk_start hs.ok h
  | restartPinAsserted t => exact loadingOk_pin hs.ok h
  | restartPinReleased t => cases h; exact hs.ok
  | riRisingEdge t n => exact loadingOk_take h ((hs.at t).riRise n)
  | riFallingEdge t n => exact loadingOk_take h ((hs.at t).riFall n)
  | stuckRing t n => exact loadingOk_idle hs h (Bool.eq_false_iff.mp ((hs.at t).ringStuck n))
  | ringSilenceExpiry t n =>
    exact loadingOk_of_still h hs (if_neg fun ⟨ringing, _⟩ => (hs.at t).st_ne n (by decide) (by decide) ringing)
  | cdRisingEdge t n => exact loadingOk_take h ((hs.at t).cdRise n)
  | cdFallingEdge t n => exact loadingOk_take h ((hs.at t).cdFall n)
  | carrierQualified t n => exact loadingOk_idle hs h (Bool.eq_false_iff.mp ((hs.at t).carrierGood n))
  | carrierWaitExpiry t n => exact loadingOk_idle hs h fun ⟨answering, _⟩ => (hs.at t).st_ne n (by decide) (by decide) answering
  | disconnect t n => exact loadingOk_idle hs h (Bool.eq_false_iff.mp ((hs.at t).carrierGone n))
  | drainLimitExpiry t n => exact loadingOk_idle hs h fun ⟨closing, _⟩ => (hs.at t).st_ne n (by decide) (by decide) closing
  | hangupGuardExpiry t n => exact loadingOk_idle hs h fun ⟨_, due⟩ => by rw [((hs.at t).line n).guard] at due; cases due
  | establish t n => exact loadingOk_of_still h hs (if_neg (by rw [((hs.at t).line n).asks]; exact Bool.false_ne_true))
  | refuse t n => exact loadingOk_of_still h hs (by unfold State.takeRefuse; rw [((hs.at t).line n).asks]; rfl)
  | close t n => exact loadingOk_of_still h hs (if_neg (by rw [((hs.at t).line n).asks]; exact Bool.false_ne_true))
  | drained t n => exact loadingOk_of_still h hs (if_neg (by rw [((hs.at t).line n).asks]; exact Bool.false_ne_true))
  | beginProving t n => exact loadingOk_of_still h hs (by unfold State.takeBegin; rw [((hs.at t).line n).asks]; rfl)
  | endProving t n => exact loadingOk_of_still h hs (by unfold State.takeEnd; rw [((hs.at t).line n).asks]; rfl)
  | characterReceived t n data parity => exact loadingOk_of_still h hs (if_neg (Bool.eq_false_iff.mp ((hs.at t).receiving n)))
  | framingError t n => exact loadingOk_idle hs h (Bool.eq_false_iff.mp ((hs.at t).receiving n))
  | lineBreak t n => exact loadingOk_idle hs h fun ⟨receiving, _⟩ => Bool.eq_false_iff.mp ((hs.at t).receiving n) receiving
  | speedTry t n markMs width decoded stop =>
    refine loadingOk_of_still h hs ?_
    unfold State.speedTry
    rw [((hs.at t).line n).sign]
    split
    · next none => cases none
    · rfl
  | characterSent t n => exact loadingOk_of_still h hs (if_pos (by rw [((hs.at t).line n).path]; rfl))
  | forwardingTimerExpiry t n => exact loadingOk_idle hs h fun due => by rw [((hs.at t).line n).path] at due; cases due
  | signOnTimerExpiry t n => exact loadingOk_of_still h hs (by unfold State.signOnExpiry; rw [((hs.at t).line n).sign])
  | replyWaitExpiry t n => exact loadingOk_of_still h hs (by unfold State.replyWaitExpiry; rw [((hs.at t).line n).sign])
  | confirmReplyWaitExpiry t n => exact loadingOk_of_still h hs ((hs.at t).confirmWaitExpiry n)
  | tbRisingEdge t => exact loadingOk_take h (hs.at t).tbEdge
  | watchTimerExpiry t => exact loadingOk_take h ((hs.at t).ite (hs.at t).failReference)
  | internalDividerTick t => exact loadingOk_take h ((hs.at t).ite (hs.at t).dividerTick)
  | idleTimerExpiry t n => exact loadingOk_of_still h hs ((hs.at t).closeAt n _ _)
  | graceExpiry t n => exact loadingOk_of_still h hs ((hs.at t).closeAt n _ _)
  | channelLossLimit t n => exact loadingOk_of_still h hs ((hs.at t).closeAt n _ _)
  | refreshTimerExpiry t =>
    obtain ⟨-, -, refresh, -⟩ := hs.timers
    have idle : execRefreshTimerExpiry t s = take s t id := if_neg (by rw [refresh]; exact Bool.false_ne_true)
    exact loadingOk_of_still (idle.symm.trans h) hs rfl
  | beaconPeriodExpiry t =>
    obtain ⟨-, -, -, beacon, -⟩ := (hs.at t).timers
    exact loadingOk_idle hs h (by rw [beacon]; exact Bool.false_ne_true)
  | ackWaitExpiry t serial => exact loadingOk_idle hs h (by rw [(hs.at t).ackWait]; exact Bool.false_ne_true)
  | clashTimerExpiry t =>
    obtain ⟨-, -, -, -, clash⟩ := (hs.at t).timers
    exact loadingOk_idle hs h (by rw [clash]; exact Bool.false_ne_true)
  | quietIntervalExpiry t =>
    obtain ⟨-, quiet, -⟩ := (hs.at t).timers
    exact loadingOk_idle hs h fun ⟨_, due⟩ => by rw [quiet] at due; cases due
  | busIdle t =>
    obtain ⟨-, -, -, -, requests, wire, -⟩ := (hs.at t).ok hs.loading
    exact loadingOk_of_still h hs (by rw [if_pos wire, requests]; rfl)
  | arbitrationLost t => exact loadingOk_wire hs h
  | strike t => exact loadingOk_wire hs h
  | dataInEchoed t => exact loadingOk_wire hs h
  | claimEchoed t => exact loadingOk_wire hs h
  | releaseEchoed t => exact loadingOk_wire hs h
  | chargeEchoed t => exact loadingOk_wire hs h
  | joiningBeaconEchoed t => exact loadingOk_wire hs h
  | resultEchoed t => exact loadingOk_wire hs h
  | ownFrameOnBus t => exact loadingOk_wire hs h
  | receiveFault t f cutShort own => exact loadingOk_idle hs h fun ⟨started, _⟩ => Bool.eq_false_iff.mp (hs.at t).not_started started
  | numberClash t => exact loadingOk_idle hs h (Bool.eq_false_iff.mp (hs.at t).not_started)
  | frameOnBus t src dest => exact loadingOk_of_still h hs ((hs.at t).frameOnBus src dest)
  | beacon t src p => exact loadingOk_of_still h hs (if_neg (Bool.eq_false_iff.mp ((hs.at t).hears src)))
  | claim t src p => exact loadingOk_of_still h hs ((hs.at t).takeAll src _)
  | release t src p => exact loadingOk_of_still h hs ((hs.at t).takeAll src _)
  | survey t src =>
    have idle : execSurvey t src s = take s t id := if_neg (Bool.eq_false_iff.mp (hs.hears src))
    exact loadingOk_of_still (idle.symm.trans h) hs rfl
  | time t src minute second => exact loadingOk_of_still h hs ((hs.at t).takeAll src _)
  | lineState t src tag signals =>
    refine loadingOk_of_still h hs ?_
    split
    · unfold State.ownLineState
      rw [(hs.at t).wire]
    · exact (hs.at t).takeAll src _
  | flow t src line state => exact loadingOk_of_still h hs ((hs.at t).takeOwn src _)
  | dataOut t src line flags chars => exact loadingOk_of_still h hs ((hs.at t).dataOut src line flags _)
  | admitReply t src p => exact loadingOk_of_still h hs ((hs.at t).takeOwn src _)
  | chargeAck t src serial => exact loadingOk_of_still h hs ((hs.at t).takeOwn src _)
  | orderForceOff t src line arg => exact loadingOk_of_still h hs ((hs.at t).takeOwn src _)
  | orderOut t src line arg => exact loadingOk_of_still h hs ((hs.at t).takeOwn src _)
  | orderIn t src line arg => exact loadingOk_of_still h hs ((hs.at t).takeOwn src _)
  | orderProve t src line arg => exact loadingOk_of_still h hs ((hs.at t).takeOwn src _)
  | orderDrain t src line arg => exact loadingOk_of_still h hs ((hs.at t).takeOwn src _)
  | orderUndrain t src line arg => exact loadingOk_of_still h hs ((hs.at t).takeOwn src _)
  | orderNotice t src line arg => exact loadingOk_of_still h hs ((hs.at t).takeOwn src _)
  | orderRestart t src line arg => exact loadingOk_of_still h hs ((hs.at t).takeOwn src _)
  | orderReport t src line arg => exact loadingOk_of_still h hs ((hs.at t).takeOwn src _)
  | provingCarrierQualified t n => exact loadingOk_idle hs h (Bool.eq_false_iff.mp ((hs.at t).loopGood n))
  | provingCarrierWaitExpiry t n => exact loadingOk_idle hs h fun ⟨phase, _⟩ => by rw [((hs.at t).line n).phase] at phase; cases phase
  | provingCharacterReceived t n data badlyFramed => exact loadingOk_idle hs h fun phase => by rw [((hs.at t).line n).phase] at phase; cases phase
  | provingCarrierLost t n => exact loadingOk_idle hs h (Bool.eq_false_iff.mp ((hs.at t).loopGone n))
  | runTimerExpiry t n => exact loadingOk_idle hs h fun ⟨phase, _⟩ => by rw [((hs.at t).line n).phase] at phase; cases phase

/-- A running station stays running until it restarts or powers up. -/
theorem moved_loader {u : State} (h : Moved s u) : u.loader = s.loader := by
  refine h.keeps (P := fun v => v.loader = s.loader) (fun {v w} k e => Eq.trans ?_ e) rfl
  cases k with
  | quiet same => exact congrArg Vital.loader same
  | line | pool | signOn | signOff | admission | establish | sessions | ended | presence | clock | queue | request | streak => rfl

/-- Settles O53: a command at work on a loading station finds nothing to do, and one on a running station leaves it running or begins the loading. -/
theorem nothingActsWhileLoading : Obligations.NothingActsWhileLoading := by
  intro s u hs h
  by_cases running : s.loader = .running
  · cases step_cases h with
    | moved moved => exact fun loading => absurd ((moved_loader moved).trans running) loading
    | restarted v pin => exact loadingOk_restartWith pin v
    | powered v t => exact loadingOk_powerUp (v.at t)
    | started v t straps store _ loading => exact absurd running loading
  · unfold step at h
    split at h
    · cases h; exact hs
    · next c rest _ =>
      have popped : Loads { s with pending := rest } := ⟨hs, running⟩
      exact loadingOk_exec popped h

end Sys2Proof.Proofs.Loading
end

section
/-! The invariants at reset, and the built-in configuration in its ranges (R169, Table 10-1). -/

namespace Sys2Proof.Proofs.Reset

open Sys2Proof Sys2Proof.Machine Sys2Proof.Proofs.Steps Sys2Proof.Proofs.Charges Sys2Proof.Proofs.ChargeOrder Sys2Proof.Proofs.Loading

/-! ## The built-in configuration -/

theorem builtIn_groupInRange : ∀ g : Fin 4, groupInRange Configuration.builtIn.groups[g] := by unfold groupInRange; decide

theorem builtIn_timesInRange : timesInRange Configuration.builtIn.times := by unfold timesInRange; decide

theorem builtIn_tariffInRange : ∀ k : Fin 4, tariffInRange Configuration.builtIn.tariffs[k] := by unfold tariffInRange; decide

/-- No line has a forward tag, and no slot a source. -/
theorem builtIn_crossOk : crossOk Configuration.builtIn :=
  ⟨fun n _ _ => .inl (replicate_get none n), fun i _ _ watches => by simp [Configuration.builtIn] at watches⟩

theorem builtIn_ok : ConfigurationOk Configuration.builtIn :=
  ⟨builtIn_groupInRange, builtIn_timesInRange, by decide, by decide, by decide, by decide, by decide, by decide, by decide, by decide,
    builtIn_tariffInRange, by decide, by decide, by decide, by decide, by decide, by decide, by decide, by decide, builtIn_crossOk⟩

/-! ## Reset -/

/-- The reset state is what a power-up makes of itself, its moment and pins apart. -/
theorem reset_path (n : LineNo) : State.reset.path[n] = Path.fresh := replicate_get _ n

theorem reset_sup (n : LineNo) : State.reset.sup[n] = LineRec.fresh .out false false := replicate_get _ n

theorem reset_st (n : LineNo) : State.reset.st n = .out := congrArg LineRec.st (reset_sup n)

theorem reset_loading : State.reset.loader ≠ .running := by decide

theorem reset_loadingOk : LoadingOk State.reset := by
  refine fun _ => ⟨fun n => ?_, rfl, rfl, fun r hr => absurd hr List.not_mem_nil, rfl, rfl, rfl, rfl, rfl, rfl, rfl⟩
  refine ⟨?_, replicate_get _ n, reset_path n, replicate_get _ n, replicate_get _ n, replicate_get _ n, ?_, replicate_get _ n⟩
  · rw [reset_sup]; rfl
  · exact congrArg Run.phase (replicate_get Run.fresh n)

theorem reset_no_session (n : LineNo) : State.reset.sess[n] = none := replicate_get _ n

theorem reset_no_context (n : LineNo) : State.reset.sign[n].isSome = false := congrArg Option.isSome (replicate_get none n)

theorem reset_no_call (n : LineNo) : ¬Moves.ofRecord (State.reset.st n) := reset_st n ▸ out_not_ofRecord

theorem reset_timesOk : TimesOk State.reset := timesOk_of_no_session ⟨Nat.zero_lt_succ _, Nat.zero_lt_succ _⟩ rfl

/-- Settles O52: no call, no record and every block free, and the loader at work. -/
theorem invariantsHoldAtReset : Obligations.InvariantsHoldAtReset := by
  obtain ⟨clock, meters, grace⟩ := (timesOk_iff _).mp reset_timesOk
  exact ⟨reset_loadingOk, presenceOk_of_nil rfl, callsOk_of_no_call reset_no_call reset_no_context reset_no_session,
    slotsOk_of_no_call reset_no_call reset_no_context (Nat.zero_le _), ⟨.nil, Nat.zero_le _, rfl⟩,
    poolOk_of_empty (fun n => congrArg Moves.queuesOf (reset_path n)) rfl, grace, meters, clock,
    fun n => reset_sup n ▸ LineMoves.timersOk_fresh .out false false, requestsOk_of_nil rfl rfl, builtIn_ok,
    fun running => absurd running reset_loading, fun running => absurd running reset_loading, fun running => absurd running reset_loading,
    fun running => absurd running reset_loading⟩

end Sys2Proof.Proofs.Reset
end

section
/-! The machine and the lines (Chapter 1): the front command, power-up, and the commands of the Line Supervisor that end no session. Each `_eq` lemma
says of an effect what its obligation says, in the state at the moment of the command. -/

namespace Sys2Proof.Proofs.Lines

open Sys2Proof Sys2Proof.Machine Sys2Proof.Proofs.Loading

/-! ## One event -/

/-- A command that is one event gives what its effect gives. -/
theorem gives_of_event {c : Instr} {s v : State} {t : Moment} {effect : State → State} (h : exec c s = take s t effect)
    (e : (effect (s.at t)).kept = v.kept) : Gives c s v :=
  ⟨s.event t effect, h, (event_kept s t effect).trans e⟩

/-- The same where the effect is the state claimed. -/
theorem gives_of_eq {c : Instr} {s v : State} {t : Moment} {effect : State → State} (h : exec c s = take s t effect)
    (e : effect (s.at t) = v) : Gives c s v :=
  gives_of_event h (congrArg State.kept e)

/-! ## The front command, and power-up -/

/-- Settles O1: by the two branches of `step`. -/
theorem stepTakesTheFrontCommand : Obligations.StepTakesTheFrontCommand := by
  refine ⟨fun c rest s h => ?_, fun s h => ?_⟩ <;>
  · unfold step
    rw [h]

/-- Settles O2: the power-up state is the reset state with the levels of the pins and the waiting commands. -/
theorem powerUpResetsEveryBlock : Obligations.PowerUpResetsEveryBlock := by
  intro t s
  refine ⟨(s.at t).powerUp, rfl, rfl, rfl, fun n => ?_, rfl, rfl, rfl, rfl, rfl, fun i => replicate_get _ i, rfl, rfl, rfl, rfl, rfl,
    fun i => ?_, rfl, rfl, rfl, rfl, rfl, rfl, rfl, rfl, rfl, rfl, fun i => ?_, rfl, rfl⟩
  · exact ⟨mapTable_get _ _ n, replicate_get _ n, replicate_get _ n, replicate_get _ n, replicate_get _ n, replicate_get _ n, replicate_get _ n,
      replicate_get _ n⟩
  · show (Vector.replicate 32 SlotState.fresh)[i] = _
    simp [SlotState.fresh]
  · show (Vector.replicate 17 (none : Option OrderResult))[i] = none
    simp

/-! ## Line records -/

/-- Of two records written for a line the second stands. -/
@[simp] theorem setSup_setSup (s : State) (n : LineNo) (a b : LineRec) : (s.setSup n a).setSup n b = s.setSup n b := by
  simp only [State.setSup, Vector.set_set]

theorem setSup_get (s : State) (n : LineNo) (a : LineRec) : (s.setSup n a).sup[n] = a := vector_set_get_self _ _ _

/-- A change of a record just written. -/
theorem updSup_setSup (s : State) (n : LineNo) (a : LineRec) (f : LineRec → LineRec) : (s.setSup n a).updSup n f = s.setSup n (f a) := by
  rw [State.updSup, setSup_get, setSup_setSup]

theorem updSup_updSup (s : State) (n : LineNo) (f g : LineRec → LineRec) : (s.updSup n f).updSup n g = s.updSup n fun l => g (f l) :=
  updSup_setSup s n _ g

/-! ## Ringing -/

theorem riRise_eq (s : State) (n : LineNo) :
    s.riRise n =
      if s.sup[n].ri = true then s
      else if s.st n = .idle ∨ s.st n = .ringing then s.setSup n { s.sup[n] with ri := true, burst := some s.now }
      else if s.st n = .proving ∧ s.run[n].phase ≠ .none then (s.setSup n { s.sup[n] with ri := true }).count .ringsWhileBusy
      else s.setSup n { s.sup[n] with ri := true } := by
  unfold State.riRise
  dsimp only
  rw [updSup_updSup]
  split
  · rfl
  · cases hst : s.st n with
    | idle => rfl
    | ringing => rfl
    | proving =>
      simp only [reduceCtorEq, or_self, if_false, true_and, ite_not]
      rfl
    | out | answering | signon | session | closing | hangup => rfl

theorem stuckRing_eq (s : State) (n : LineNo) :
    (if s.ringStuck n then s.updSup n LineRec.stuck else s) =
      if (s.st n = .idle ∨ s.st n = .ringing) ∧ s.sup[n].ri = true ∧ ranFor s.sup[n].burst (2 * s.cfg.times.ringMax + 1) s.now = true then
        s.setSup n { LineRec.fresh .out s.sup[n].ri s.sup[n].cd with fault := true }
      else s := by
  have measured : (s.st n).measured = true ↔ s.st n = .idle ∨ s.st n = .ringing := by cases s.st n <;> decide
  simp only [State.ringStuck, Bool.and_eq_true, measured, and_assoc]
  rfl

/-- Settles O6: by the cases of a rising edge and of a stuck ring. -/
theorem ringingBeginsAndSticks : Obligations.RingingBeginsAndSticks :=
  fun t n s => ⟨gives_of_eq rfl (riRise_eq (s.at t) n), gives_of_eq rfl (stuckRing_eq (s.at t) n)⟩

/-- A burst outside the valid range of Table 1-7. -/
theorem burstValid_eq_false {times : LineTimes} {d : Nat} (h : d < times.ringMin ∨ times.ringMax < d) : burstValid times d = false := by
  simp only [burstValid, Bool.and_eq_false_iff, decide_eq_false_iff_not]
  omega

theorem burstValid_eq_true {times : LineTimes} {d : Nat} (lo : times.ringMin ≤ d) (hi : d ≤ times.ringMax) : burstValid times d = true := by
  simp [burstValid, lo, hi]

/-- A burst that counts nothing ends the measurement alone. -/
theorem riFall_of_not_valid {s : State} {n : LineNo} (hri : s.sup[n].ri = true)
    (h : ∀ b ∈ s.sup[n].burst, s.now - b < s.cfg.times.ringMin ∨ s.cfg.times.ringMax < s.now - b) :
    s.riFall n = s.setSup n { s.sup[n] with ri := false, burst := none } := by
  unfold State.riFall
  rw [if_pos hri]
  dsimp only
  split
  · next b hb => rw [burstValid_eq_false (h b hb), if_neg Bool.false_ne_true]; rfl
  · rfl

theorem riFall_of_valid {s : State} {n : LineNo} {b : Nat} (hri : s.sup[n].ri = true) (hb : s.sup[n].burst = some b)
    (lo : s.cfg.times.ringMin ≤ s.now - b) (hi : s.now - b ≤ s.cfg.times.ringMax) :
    s.riFall n = (s.setSup n { s.sup[n] with ri := false, burst := none }).validBurst n (s.madeBusy n) := by
  unfold State.riFall
  rw [if_pos hri, hb]
  dsimp only
  rw [burstValid_eq_true lo hi, if_pos rfl]
  rfl

/-- A burst that counts toward answering: the count, the ring-silence timer, and at answer rings the blocking or the answer (R9 to R11). -/
theorem countBurst_eq (s : State) (n : LineNo) (count : Nat) (busy : Bool) :
    (s.updSup n fun l => l.countBurst s n count busy).noteBusyRing n count busy =
      if count < (s.group n).answerRings then
        s.setSup n { s.sup[n] with
          st := .ringing, burstCount := count, blocked := false, ringSilence := some (s.now + 1000 * s.cfg.times.ringSilence) }
      else if busy = true then
        (s.setSup n { s.sup[n] with
          st := .ringing, burstCount := count, blocked := true, ringSilence := some (s.now + 1000 * s.cfg.times.ringSilence) }).count .ringsWhileBusy
      else s.setSup n (s.sup[n].enterAnswering s.now s.cfg.times.carrierWait) := by
  have record : (s.updSup n fun l => l.countBurst s n count busy) = s.setSup n (s.sup[n].countBurst s n count busy) := rfl
  have group (l : LineRec) : (s.setSup n l).group n = s.group n := rfl
  rw [record]
  unfold State.noteBusyRing LineRec.countBurst
  rw [group]
  by_cases short : count < (s.group n).answerRings
  · rw [if_neg fun ⟨reached, _⟩ => absurd short (Nat.not_lt.mpr reached), if_pos short, if_pos short]
  · rw [if_neg short, if_neg short]
    cases busy with
    | true => rw [if_pos ⟨Nat.not_lt.mp short, rfl⟩]; rfl
    | false => rw [if_neg fun ⟨_, held⟩ => Bool.false_ne_true held]; rfl

/-- Settles O7: a burst outside the valid range ends its measurement alone, and a valid one counts in IDLE and in RINGING. -/
theorem ringBurstsAreClassed : Obligations.RingBurstsAreClassed := by
  intro t n s hri
  refine ⟨fun notValid => gives_of_eq rfl (riFall_of_not_valid (s := s.at t) hri notValid), fun b hb lo hi => ?_⟩
  have valid := riFall_of_valid (s := s.at t) hri hb lo hi
  let fallen : LineRec := { s.sup[n] with ri := false, burst := none }
  have st : State.st ((s.at t).setSup n fallen) n = s.st n :=
    (congrArg LineRec.st (setSup_get (s.at t) n fallen)).trans rfl
  refine ⟨fun count counted => gives_of_eq rfl (valid.trans ?_), fun ringing blocked => gives_of_eq rfl (valid.trans ?_)⟩
  · have counts : State.validBurst ((s.at t).setSup n fallen) n ((s.at t).madeBusy n) =
        (State.updSup ((s.at t).setSup n fallen) n fun l => l.countBurst ((s.at t).setSup n fallen) n count ((s.at t).madeBusy n)).noteBusyRing n count
          ((s.at t).madeBusy n) := by
      unfold State.validBurst
      rw [st]
      rcases counted with ⟨idle, rfl⟩ | ⟨ringing, open_, rfl⟩
      · rw [idle]
      · rw [ringing]
        have record := setSup_get (s.at t) n fallen
        have blocked : (State.sup ((s.at t).setSup n fallen))[n].blocked = false := (congrArg LineRec.blocked record).trans open_
        have before : (State.sup ((s.at t).setSup n fallen))[n].burstCount = s.sup[n].burstCount :=
          (congrArg LineRec.burstCount record).trans rfl
        dsimp only
        rw [blocked, before, if_neg Bool.false_ne_true]
    show State.validBurst ((s.at t).setSup n fallen) n ((s.at t).madeBusy n) = _
    rw [counts, countBurst_eq, setSup_get]
    simp only [setSup_setSup]
    rfl
  · have record := setSup_get (s.at t) n fallen
    have held : (State.sup ((s.at t).setSup n fallen))[n].blocked = true := (congrArg LineRec.blocked record).trans blocked
    show State.validBurst ((s.at t).setSup n fallen) n ((s.at t).madeBusy n) = _
    unfold State.validBurst
    rw [st, ringing]
    dsimp only
    rw [held, if_pos rfl, updSup_setSup]
    rfl

/-! ## Back to IDLE or to OUT -/

theorem ringSilenceExpiry_eq (s : State) (n : LineNo) :
    s.ringSilenceExpiry n =
      if s.st n = .ringing ∧ fallenDue s.sup[n].ringSilence s.now = true then
        if s.sup[n].blocked = true then s.setSup n (s.sup[n].enterIdle s.now)
        else (s.setSup n (s.sup[n].enterIdle s.now)).count .abandonedRings
      else s := by
  unfold State.ringSilenceExpiry
  refine if_congr Iff.rfl ?_ rfl
  dsimp only
  split <;> rfl

/-- Settles O8: both timers enter IDLE, or OUT where out-pending is set. -/
theorem lineReturnsToIdleOrToOut : Obligations.LineReturnsToIdleOrToOut :=
  fun t n s => ⟨gives_of_eq rfl rfl, gives_of_eq rfl (ringSilenceExpiry_eq (s.at t) n)⟩

/-! ## Carrier -/

theorem cdRise_eq (s : State) (n : LineNo) :
    s.cdRise n =
      if s.sup[n].cd = true then s
      else if s.st n = .answering then s.setSup n { s.sup[n] with cd := true, qual := some s.now }
      else if (s.st n = .signon ∨ s.st n = .session ∨ s.st n = .closing) ∧ s.sup[n].dropout.isSome = true then
        (s.setSup n { s.sup[n] with cd := true, dropout := none }).count .carrierHits
      else if s.st n = .proving ∧ s.run[n].phase = .waiting then
        (s.setSup n { s.sup[n] with cd := true }).setRun n { s.run[n] with qual := some s.now }
      else if s.st n = .proving ∧ s.run[n].phase = .running then
        (s.setSup n { s.sup[n] with cd := true }).setRun n { s.run[n] with dropout := none }
      else s.setSup n { s.sup[n] with cd := true } := by
  have call : (match s.sup[n].dropout with
      | some _ => ((s.updSup n fun l => { l with cd := true }).updSup n fun l => { l with dropout := none }).count .carrierHits
      | none => s.updSup n fun l => { l with cd := true }) =
      if s.sup[n].dropout.isSome = true then (s.setSup n { s.sup[n] with cd := true, dropout := none }).count .carrierHits
      else s.setSup n { s.sup[n] with cd := true } := by
    rw [updSup_updSup]
    cases s.sup[n].dropout <;> rfl
  unfold State.cdRise
  refine if_congr Iff.rfl rfl ?_
  dsimp only
  cases hst : s.st n with
  | answering => rw [updSup_updSup]; rfl
  | signon | session | closing =>
    refine call.trans ?_
    simp
  | proving => cases hphase : s.run[n].phase <;> simp <;> rfl
  | out | idle | ringing | hangup => simp; rfl

theorem cdFall_eq (s : State) (n : LineNo) :
    s.cdFall n =
      if s.sup[n].cd = false then s
      else if s.st n = .answering then s.setSup n { s.sup[n] with cd := false, qual := none }
      else if s.st n = .signon ∨ s.st n = .session ∨ s.st n = .closing then s.setSup n { s.sup[n] with cd := false, dropout := some s.now }
      else if s.st n = .proving ∧ s.run[n].phase = .waiting then
        (s.setSup n { s.sup[n] with cd := false }).setRun n { s.run[n] with qual := none }
      else if s.st n = .proving ∧ s.run[n].phase = .running then
        (s.setSup n { s.sup[n] with cd := false }).setRun n { s.run[n] with dropout := some s.now }
      else s.setSup n { s.sup[n] with cd := false } := by
  unfold State.cdFall
  dsimp only
  rw [updSup_updSup, updSup_updSup]
  cases s.sup[n].cd with
  | false => rfl
  | true =>
    rw [if_pos rfl, if_neg (by decide)]
    cases hst : s.st n with
    | proving => cases hphase : s.run[n].phase <;> simp <;> rfl
    | answering | signon | session | closing | out | idle | ringing | hangup => simp; rfl

theorem carrierQualified_eq (s : State) (n : LineNo) :
    (if s.carrierGood n then s.enterSignOn n else s) =
      if s.st n = .answering ∧ s.sup[n].cd = true ∧ ranFor s.sup[n].qual s.cfg.times.carrierQualify s.now = true then
        (s.setSup n { LineRec.fresh .signon s.sup[n].ri s.sup[n].cd with
          fault := s.sup[n].fault, outPending := s.sup[n].outPending, dropout := s.sup[n].dropout }).setSign n
          (some (Context.create (s.now + 1000 * s.cfg.signOnTime)))
      else s := by
  simp only [State.carrierGood, Bool.and_eq_true, decide_eq_true_eq, and_assoc]
  rfl

/-- Settles O9: by the cases of the two edges and of a qualification. -/
theorem carrierEdgesAndQualification : Obligations.CarrierEdgesAndQualification := fun t n s =>
  ⟨gives_of_eq rfl (cdRise_eq (s.at t) n), gives_of_eq rfl (cdFall_eq (s.at t) n), gives_of_eq rfl (carrierQualified_eq (s.at t) n)⟩

end Sys2Proof.Proofs.Lines
end

section
/-! The ways into HANGUP without a session (R14, R16, R18, R19), the parity check (R27, R28), the allowance test and the finished meter (R105, R106,
R112), and the checker of a proving run (R147, R148). -/

namespace Sys2Proof.Proofs.HangUp

open Sys2Proof Sys2Proof.Machine Sys2Proof.Proofs.Lines

/-! ## Entry to HANGUP -/

/-- A change of the requests for a line's call is lost at its hang-up, which drops them (R17). -/
theorem hangup_setAsks (s : State) (n : LineNo) (x : Asks) (h : x.begin = s.asks[n].begin) : (s.setAsks n x).hangup n = s.hangup n := by
  have begin : (s.setAsks n x).asks[n].begin = s.asks[n].begin := (congrArg Asks.begin (vector_set_get_self s.asks n x)).trans h
  unfold State.hangup
  rw [begin]
  simp only [State.updSup, State.setSup, State.setAsks, Vector.set_set]

/-- A drained request taken leaves nothing that `State.kept` sees but the hang-up (R18). -/
theorem takeDrained_kept (s : State) (n : LineNo) :
    (s.takeDrained n).kept = State.kept (if s.asks[n].drained = true ∧ s.st n = .closing then s.hangup n else s) := by
  unfold State.takeDrained
  by_cases asked : s.asks[n].drained = true
  · rw [if_pos asked]
    by_cases closing : s.st n = .closing
    · rw [if_pos closing, if_pos ⟨asked, closing⟩, hangup_setAsks s n { s.asks[n] with drained := false } rfl]
    · rw [if_neg closing, if_neg fun ⟨_, c⟩ => closing c]
      exact kept_setAsks s n _ rfl
  · rw [if_neg asked, if_neg fun ⟨a, _⟩ => asked a]

theorem disconnect_closing_eq {s : State} {n : LineNo} (h : s.st n = .closing) :
    (if s.carrierGone n then s.disconnect n else s) =
      if s.sup[n].cd = false ∧ ranFor s.sup[n].dropout s.cfg.times.carrierLoss s.now = true then s.hangup n else s := by
  have gone : s.carrierGone n = true ↔ s.sup[n].cd = false ∧ ranFor s.sup[n].dropout s.cfg.times.carrierLoss s.now = true := by
    simp [State.carrierGone, h, LineState.onCall]
  refine if_congr gone ?_ rfl
  unfold State.disconnect
  rw [h]

theorem hangup_sup_self (s : State) (n : LineNo) :
    (s.hangup n).sup[n] =
      { LineRec.fresh .hangup s.sup[n].ri s.sup[n].cd with
        fault := s.sup[n].fault
        outPending := s.sup[n].outPending
        hangupGuard := some (s.now + 1000 * s.cfg.times.hangupGuard) } := vector_set_get_self _ _ _

theorem hangup_free (s : State) (n : LineNo) : (s.hangup n).free = s.free + s.path[n].inQ.blocks + s.path[n].outQ.blocks :=
  (Nat.add_assoc _ _ _).symm

theorem hangup_others (s : State) {n m : LineNo} (h : m ≠ n) :
    (s.hangup n).sup[m] = s.sup[m] ∧ (s.hangup n).path[m] = s.path[m] ∧ (s.hangup n).asks[m] = s.asks[m] :=
  ⟨hangup_sup_ne s h, vector_set_get_ne _ _ (Ne.symm h), vector_set_get_ne _ _ (Ne.symm h)⟩

/-- Settles O10: three moves hang the line up under their conditions, and so does a disconnect in CLOSING. -/
theorem callsWithoutASessionHangUp : Obligations.CallsWithoutASessionHangUp := by
  intro t n s
  have leads : (s.hangup n).dtr n = false ∧ (s.hangup n).tst n = false ∧ (s.hangup n).mb n = true := by
    unfold State.dtr State.tst State.mb
    rw [hangup_st]
    exact ⟨rfl, rfl, rfl⟩
  obtain ⟨dtr, tst, mb⟩ := leads
  exact ⟨gives_of_eq rfl rfl, gives_of_eq rfl rfl, gives_of_event rfl (takeDrained_kept (s.at t) n),
    fun closing => gives_of_eq rfl (disconnect_closing_eq (s := s.at t) closing), hangup_sup_self s n, hangup_path_self s n, hangup_free s n,
    dtr, tst, mb, fun m hm => hangup_others s hm⟩

/-! ## Parity -/

/-- The parity of the data bits is the parity of the count of ones (R28). -/
theorem evenParity_eq (c : Char7) : evenParity c = decide (((List.range 7).filter fun i => c.getLsbD i).length % 2 = 1) := by
  have fold (ls : List Nat) (p : Bool) :
      ls.foldl (fun p i => p ^^ c.getLsbD i) p = (p ^^ decide ((ls.filter fun i => c.getLsbD i).length % 2 = 1)) := by
    induction ls generalizing p with
    | nil => simp
    | cons i ls ih =>
      rw [List.foldl_cons, ih]
      cases bit : c.getLsbD i with
      | false => simp [bit]
      | true =>
        rw [List.filter_cons_of_pos (by simpa using bit), List.length_cons]
        rcases Nat.mod_two_eq_zero_or_one (ls.filter fun i => c.getLsbD i).length with even | odd
        · simp [even, Nat.add_mod]
        · simp [odd, Nat.add_mod]
  exact (fold _ false).trans (Bool.false_xor _)

/-- A character passes unless its count of ones, the parity bit with it, is odd under even checking or even under odd checking (R28). -/
theorem parityPasses_iff (p : Parity) (c : Char7) (bit : Bool) :
    parityPasses p c bit = true ↔
      ¬(p = .even ∧ (((List.range 7).filter fun i => c.getLsbD i).length + if bit then 1 else 0) % 2 = 1 ∨
        p = .odd ∧ (((List.range 7).filter fun i => c.getLsbD i).length + if bit then 1 else 0) % 2 = 0) := by
  unfold parityPasses
  rw [evenParity_eq]
  generalize ((List.range 7).filter fun i => c.getLsbD i).length = ones
  rcases Nat.mod_two_eq_zero_or_one ones with even | odd
  · cases p <;> cases bit <;> simp [even, Nat.add_mod]
  · cases p <;> cases bit <;> simp [odd, Nat.add_mod]

theorem receiving_iff (s : State) (n : LineNo) : s.receiving n = true ↔ (s.st n).onCall = true ∧ s.path[n].speed.isSome = true := by
  simp [State.receiving]

/-- Settles O14: an active receiver checks the character's parity, and an inactive one does nothing. -/
theorem receiverChecksParityAndFraming : Obligations.ReceiverChecksParityAndFraming := by
  intro t n data parity s
  have passes := parityPasses_iff (s.group n).parity data parity
  refine ⟨fun active => ?_, fun inactive => ?_, passes⟩
  · have receiving : (s.at t).receiving n = true := (receiving_iff s n).mpr active
    refine ⟨fun good => gives_of_eq rfl ?_, fun error => gives_of_eq rfl ?_, gives_of_eq rfl (if_pos receiving)⟩
    · exact (if_pos receiving).trans (if_pos (passes.mpr good))
    · exact (if_pos receiving).trans (if_neg fun good => passes.mp good error)
  · have idle : ¬(s.at t).receiving n = true := fun r => inactive ((receiving_iff s n).mp r)
    exact ⟨gives_of_eq rfl (if_neg idle), gives_of_eq rfl (if_neg idle)⟩

/-! ## Allowance and meter -/

theorem satTo_eq (top k : Nat) : satTo top k = min top (k + 1) := by
  unfold satTo
  split <;> omega

/-- Settles O31: by the cases of the remaining allowance; the finished units are rounded half up and raised to the minimum charge. -/
theorem allowanceIsTestedAndMeterFinished : Obligations.AllowanceIsTestedAndMeterFinished := by
  intro cfg x
  refine ⟨fun unlimited => ?_, fun zero fresh graced => ?_, fun zero fresh none => ?_, fun zero graced => ?_, fun r left => ?_, fun units => ?_⟩
  · unfold Session.testAllowance; rw [unlimited]
  · unfold Session.testAllowance; rw [zero]; exact (if_pos fresh).trans (if_pos graced)
  · unfold Session.testAllowance; rw [zero]; exact (if_pos fresh).trans (if_neg (by omega))
  · unfold Session.testAllowance; rw [zero]; exact if_neg graced
  · unfold Session.testAllowance; rw [left]
  · unfold Session.finish
    by_cases half : 1800 ≤ x.residue
    · refine ⟨by simp [half, meterTop], rfl, ?_⟩
      have top : 16777215 ≤ x.units ↔ x.units = 16777215 := ⟨fun h => le_antisymm units h, fun h => h.ge⟩
      simp [half, meterTop, top]
    · refine ⟨?_, rfl, by simp [half]⟩
      simp only [half, if_false, Nat.add_zero]
      omega

/-! ## The checker -/

/-- A shift moves every stage up by one and puts the bit in stage 1 (R147). -/
theorem shiftIn_getLsbD (r : BitVec 9) (b : Bool) (j : Nat) :
    (shiftIn r b).getLsbD j = if j = 0 then b else decide (j < 9) && r.getLsbD (j - 1) := by
  cases j with
  | zero => cases b <;> simp [shiftIn]
  | succ j => cases b <;> simp [shiftIn]

/-- The bits of a character in the order in which they reach the checker. -/
def bitsOf (data : Byte) : List Bool := (List.range 8).map fun i => data.getLsbD i

/-- Every bit enters the register, loading or predicted (R147). -/
theorem bits_register (bs : List Bool) (k : Checking) : (bs.foldl Checking.bit k).register = bs.foldl shiftIn k.register := by
  induction bs generalizing k with
  | nil => rfl
  | cons b bs ih =>
    have step : (k.bit b).register = shiftIn k.register b := by unfold Checking.bit; split <;> rfl
    rw [List.foldl_cons, ih, step, List.foldl_cons]

/-- The bits count as loaded until nine stages are (R147). -/
theorem bits_loaded (bs : List Bool) (k : Checking) (h : k.loaded ≤ 9) : (bs.foldl Checking.bit k).loaded = min 9 (k.loaded + bs.length) := by
  induction bs generalizing k with
  | nil => simp [h]
  | cons b bs ih =>
    rw [List.foldl_cons, List.length_cons]
    by_cases loading : k.loaded < 9
    · have step : (k.bit b).loaded = k.loaded + 1 := by simp [Checking.bit, loading]
      rw [ih _ (by omega), step]
      omega
    · have step : (k.bit b).loaded = k.loaded := by simp [Checking.bit, loading]
      rw [ih _ (by omega), step]
      omega

/-- A bit once loaded leaves the character not classed, whatever its other bits (R147). -/
theorem bits_not_predicted (bs : List Bool) (k : Checking) (h : k.predicted = false) : (bs.foldl Checking.bit k).predicted = false := by
  induction bs generalizing k with
  | nil => exact h
  | cons b bs ih =>
    refine ih _ ?_
    unfold Checking.bit
    split
    · rfl
    · exact h

theorem check_eq (r : Run) (data : Byte) : r.check data = (bitsOf data).foldl Checking.bit ⟨r.checker, r.loaded, true, true⟩ := rfl

theorem check_loading {r : Run} (h : r.loaded < 9) (data : Byte) :
    (r.check data).predicted = false ∧ (r.check data).loaded = min 9 (r.loaded + 8) := by
  refine ⟨?_, bits_loaded _ _ h.le⟩
  have first : ((⟨r.checker, r.loaded, true, true⟩ : Checking).bit (data.getLsbD 0)).predicted = false := by simp [Checking.bit, h]
  have bits : bitsOf data = data.getLsbD 0 :: (bitsOf data).tail := rfl
  rw [check_eq, bits, List.foldl_cons]
  exact bits_not_predicted _ _ first

/-- With the register loaded every bit is predicted, and the predictions are right together or not (R147). -/
theorem check_loaded {r : Run} (h : 9 ≤ r.loaded) (data : Byte) :
    (r.check data).predicted = true ∧ (r.check data).loaded = r.loaded ∧
      ((r.check data).right = true ↔
        ∀ i : Fin 8, data.getLsbD i =
          (r.checker.getLsbD (8 - i) ^^ (if i.val < 5 then r.checker.getLsbD (4 - i) else data.getLsbD (i - 5)))) := by
  have full : ¬r.loaded < 9 := Nat.not_lt.mpr h
  simp only [Run.check, List.range, List.range.loop, List.map_cons, List.map_nil, List.foldl_cons, List.foldl_nil, Checking.bit, full, if_false,
    Bool.true_and, true_and, Fin.forall_fin_succ, Bool.and_eq_true, beq_iff_eq, feedback, shiftIn_getLsbD]
  simp [eq_comm, and_assoc]

theorem check_register (r : Run) (data : Byte) :
    (∀ i : Fin 8, (r.check data).register.getLsbD i = data.getLsbD (7 - i)) ∧ (r.check data).register.getLsbD 8 = r.checker.getLsbD 0 := by
  have register : (r.check data).register = (bitsOf data).foldl shiftIn r.checker := bits_register _ _
  rw [register]
  simp only [bitsOf, List.range, List.range.loop, List.map_cons, List.map_nil, List.foldl_cons, List.foldl_nil, Fin.forall_fin_succ, shiftIn_getLsbD]
  simp

/-! ## Classes -/

theorem character_loading {r : Run} (h : r.loaded < 9) (data : Byte) (bad : Bool) :
    r.character data bad = { r with checker := (r.check data).register, loaded := min 9 (r.loaded + 8) } := by
  obtain ⟨predicted, loaded⟩ := check_loading h data
  unfold Run.character
  dsimp only
  rw [predicted, loaded]
  rfl

theorem character_loaded {r : Run} (h : 9 ≤ r.loaded) (data : Byte) (bad : Bool) :
    r.character data bad =
      if r.locked then ({ r with checker := (r.check data).register } : Run).classLocked ((r.check data).right && !bad)
      else ({ r with checker := (r.check data).register } : Run).classUnlocked ((r.check data).right && !bad) := by
  obtain ⟨predicted, loaded, -⟩ := check_loaded h data
  unfold Run.character
  dsimp only
  rw [predicted, loaded]
  rfl

theorem classLocked_checker (r : Run) (clean : Bool) : (r.classLocked clean).checker = r.checker := by
  simp only [Run.classLocked, apply_ite Run.checker, ite_self]

theorem classUnlocked_checker (r : Run) (clean : Bool) : (r.classUnlocked clean).checker = r.checker := by
  simp only [Run.classUnlocked, apply_ite Run.checker, ite_self]

theorem character_checker (r : Run) (data : Byte) (bad : Bool) : (r.character data bad).checker = (r.check data).register := by
  by_cases full : 9 ≤ r.loaded
  · rw [character_loaded full]
    generalize (r.check data) = k
    split
    · rw [classLocked_checker]
    · rw [classUnlocked_checker]
  · rw [character_loading (Nat.not_le.mp full)]

/-- An unlocked run counts clean characters, of which the sixteenth brings lock (R148). -/
theorem classUnlocked_cases (r : Run) :
    (r.cleanRun + 1 < 16 → r.classUnlocked true = { r with cleanRun := r.cleanRun + 1 }) ∧
      (16 ≤ r.cleanRun + 1 → r.classUnlocked true = { r with locked := true, lockReached := true, cleanRun := 0, erroredRun := 0 }) ∧
      r.classUnlocked false = { r with cleanRun := 0 } :=
  ⟨fun few => if_pos few, fun many => if_neg (Nat.not_lt.mpr many), rfl⟩

/-- A locked run counts every character, and errored ones besides, of which the eighth in a row loses lock (R148). -/
theorem classLocked_cases (r : Run) :
    r.classLocked true = { r with checked := min 16777215 (r.checked + 1), erroredRun := 0 } ∧
      (r.erroredRun + 1 < 8 →
        r.classLocked false =
          { r with checked := min 16777215 (r.checked + 1), errored := min 255 (r.errored + 1), erroredRun := r.erroredRun + 1 }) ∧
      (8 ≤ r.erroredRun + 1 →
        r.classLocked false =
          { r with
            checked := min 16777215 (r.checked + 1), errored := min 255 (r.errored + 1), locked := false, lockLosses := min 15 (r.lockLosses + 1)
            erroredRun := 0, cleanRun := 0, loaded := 0 }) := by
  unfold Run.classLocked
  simp only [satTo_eq, meterTop, Bool.false_eq_true, if_false, if_true]
  exact ⟨trivial, fun few => if_pos few, fun many => if_neg (Nat.not_lt.mpr many)⟩

/-- Settles O40: by the bits of a character, loading or predicted, and the class that the predictions give it. -/
theorem checkerClassesCharacters : Obligations.CheckerClassesCharacters := by
  refine ⟨fun t n data bad s => gives_of_eq rfl rfl, fun data bad r => ?_⟩
  obtain ⟨low, top⟩ := check_register r data
  dsimp only
  rw [character_checker]
  refine ⟨low, top, fun loading => character_loading loading data bad, fun full unlocked => ?_, fun full locked => ?_⟩
  all_goals
    obtain ⟨-, -, right⟩ := check_loaded full data
    have classed := character_loaded full data bad
    rw [← right]
    generalize r.check data = k at classed ⊢
    have isClean (h : bad = false ∧ k.right = true) : (k.right && !bad) = true := by simp [h]
    have isErrored (h : ¬(bad = false ∧ k.right = true)) : (k.right && !bad) = false := by
      rw [Bool.and_comm, Bool.eq_false_iff]
      simpa using h
  · rw [if_neg (Bool.eq_false_iff.mp unlocked)] at classed
    obtain ⟨few, many, errored⟩ := classUnlocked_cases { r with checker := k.register }
    exact ⟨fun clean short => classed.trans (isClean clean ▸ few short), fun clean long => classed.trans (isClean clean ▸ many long),
      fun error => classed.trans (isErrored error ▸ errored)⟩
  · rw [if_pos locked] at classed
    obtain ⟨counted, few, many⟩ := classLocked_cases { r with checker := k.register }
    exact ⟨fun clean => classed.trans (isClean clean ▸ counted), fun error short => classed.trans (isErrored error ▸ few short),
      fun error long => classed.trans (isErrored error ▸ many long)⟩

end Sys2Proof.Proofs.HangUp
end

section
/-! What stands after every command: the closing work of an event leaves the offers, the holds, the FLOW states and the DATA-IN and LINE-STATE requests
as the state calls for them (R37, R42, R109, R118, R123, R129), whatever the effect of the command; and a command without closing work leaves them
alone or leaves the loader at work. `Closed` says what a command ends in. -/

namespace Sys2Proof.Proofs.Closing

open Sys2Proof Sys2Proof.Machine Sys2Proof.Proofs.SessionMoves Sys2Proof.Proofs.Commands Sys2Proof.Proofs.Charges

/-! ## How a command ends -/

/-- A command ends with the closing work of its event, or with the loader at work, or has moved no more than the clock and the level of the RESTART pin. -/
inductive Closed (s : State) : State → Prop
  | event (v : State) (t : Moment) (every : Bool) : Closed s (v.settle (s.at t) every)
  | loading {u : State} : u.loader ≠ .running → Closed s u
  | still (t : Moment) (b : Bool) : Closed s { s.at t with restartPin := b }

theorem closed_take {s u : State} {t : Moment} {effect : State → State} (h : take s t effect = .next u) : Closed s u := by
  cases h
  exact .event _ t false

theorem closed_eventForAll {s u : State} {t : Moment} {effect : State → State}
    (h : (Host.Outcome.next (s.eventForAll t effect) : Host.Outcome State Fault Refusal) = .next u) : Closed s u := by
  cases h
  exact .event _ t true

theorem closed_exec {c : Instr} {s u : State} (h : exec c s = .next u) : Closed s u := by
  cases c
  case powerUpReset t =>
    cases h
    exact .loading (by decide : (Loader.powerUp) ≠ .running)
  case startOtherBlocks t straps store =>
    change execStartOtherBlocks t straps store s = .next u at h
    unfold execStartOtherBlocks at h
    split at h
    · cases h; exact .still t s.restartPin
    · exact closed_eventForAll h
  case restartPinAsserted t =>
    change execRestartPinAsserted t s = .next u at h
    unfold execRestartPinAsserted at h
    dsimp only at h
    split at h
    · cases h; exact .still t s.restartPin
    · split at h
      · cases h; exact .still t true
      all_goals cases h; exact .loading (by decide : (Loader.restart) ≠ .running)
  case restartPinReleased t => cases h; exact .still t false
  case refreshTimerExpiry t =>
    change execRefreshTimerExpiry t s = .next u at h
    unfold execRefreshTimerExpiry at h
    split at h
    · exact closed_eventForAll h
    · exact closed_take h
  case survey t src =>
    change execSurvey t src s = .next u at h
    unfold execSurvey at h
    split at h
    · exact closed_eventForAll h
    · exact closed_take h
  all_goals exact closed_take h

/-- What the closing work makes true of a running station, and what does not depend on the clock and the pin, every command keeps. -/
theorem exec_keeps {P : State → Prop} (settled : ∀ (v before : State) (every : Bool), v.started = true → P (v.settle before every))
    (loading : ∀ u : State, u.loader ≠ .running → P u) (still : ∀ (s : State) (t : Moment) (b : Bool), P s → P { s.at t with restartPin := b })
    {c : Instr} {s u : State} (hs : P s) (h : exec c s = .next u) : P u := by
  cases closed_exec h with
  | event v t every =>
    cases started : v.started with
    | true => exact settled v _ every started
    | false => exact loading _ (by rw [settle_loader]; exact of_decide_eq_false started)
  | loading hl => exact loading u hl
  | still t b => exact still s t b hs

/-! ## The stages of the closing work -/

/-- The closing work up to the service of texts and transmitters. -/
def served (s : State) : State := State.serve serveRounds s.testHold.updateOffers

/-- Then the FLOW states. -/
def flowed (s : State) : State := eachLine allLines State.updateFlow (served s)

/-- Then the drained reports. -/
def reported (s : State) : State := eachLine allLines State.reportDrained (flowed s)

/-- Then the DATA-IN requests. -/
def forwarded (before s : State) : State := eachLine allLines (State.raiseDataIn before) (reported s)

theorem settle_of_started {s : State} (h : s.started = true) (before : State) (every : Bool) :
    s.settle before every = eachLine allLines (State.raiseLineState before every) (forwarded before s) := if_pos h

/-- What raising a request leaves alone. -/
theorem raiseDataIn_keeps {α : Type} {g : State → α} (hg : ∀ s i, g (State.raise s i) = g s) (before : State) (n : LineNo) (s : State) :
    g (State.raiseDataIn before n s) = g s := by
  unfold State.raiseDataIn
  split
  · exact hg s _
  · rfl

theorem raiseLineState_keeps {α : Type} {g : State → α} (hg : ∀ s i, g (State.raise s i) = g s) (before : State) (every : Bool) (n : LineNo)
    (s : State) : g (State.raiseLineState before every n s) = g s := by
  unfold State.raiseLineState
  split
  · split
    · exact hg s _
    · rfl
  · rfl

/-- What raising a request leaves alone, the last two stages leave alone. -/
theorem settle_eq_reported {α : Type} {g : State → α} (hg : ∀ s i, g (State.raise s i) = g s) {s : State} (h : s.started = true) (before : State)
    (every : Bool) : g (s.settle before every) = g (reported s) := by
  rw [settle_of_started h, eachLine_keeps g _ (raiseLineState_keeps hg before every)]
  exact eachLine_keeps g _ (raiseDataIn_keeps hg before) _ _

theorem reportDrained_keeps {α : Type} {g : State → α} (hclose : ∀ s n r, g (State.closeCause n r s) = g s)
    (hdrained : ∀ s n, g (State.setAsks s n { s.asks[n] with drained := true }) = g s) (n : LineNo) (s : State) :
    g (State.reportDrained n s) = g s := by
  unfold State.reportDrained
  split
  · split
    · exact hdrained s n
    · split
      · split
        · exact hclose s n _
        · rfl
      · rfl
    · rfl
  · rfl

/-- What neither a raised request, a drained report nor a close cause touches, the last three stages leave alone. -/
theorem settle_eq_flowed {α : Type} {g : State → α} (hg : ∀ s i, g (State.raise s i) = g s) (hclose : ∀ s n r, g (State.closeCause n r s) = g s)
    (hdrained : ∀ s n, g (State.setAsks s n { s.asks[n] with drained := true }) = g s) {s : State} (h : s.started = true) (before : State)
    (every : Bool) : g (s.settle before every) = g (flowed s) :=
  (settle_eq_reported hg h before every).trans (eachLine_keeps g _ (reportDrained_keeps hclose hdrained) _ _)

theorem updateFlow_keeps {α : Type} {g : State → α} (hg : ∀ s i, g (State.raise s i) = g s) (hpath : ∀ s n f, g (State.updPath s n f) = g s)
    (n : LineNo) (s : State) : g (State.updateFlow n s) = g s := by
  unfold State.updateFlow
  split
  · rfl
  · exact (hg _ _).trans (hpath s n _)

/-- What the closing work keeps true from the hold test on. -/
theorem settle_of_testHold {P : State → Prop} (m : ClosingMoves P) {s : State} (h : s.started = true) (before : State) (every : Bool)
    (hp : P s.testHold) : P (s.settle before every) := by
  rw [settle_of_started h]
  exact eachLine_induction P _ (m.raiseLineState before every) _ _ (eachLine_induction P _ (m.raiseDataIn before) _ _
    (eachLine_induction P _ m.reportDrained _ _ (eachLine_induction P _ m.updateFlow _ _ (m.serve _ _ (m.updateOffers _ hp)))))

theorem raise_fields (s : State) (i : ReqId) : ∃ q c, s.raise i = { s with reqs := q, counters := c } := by
  unfold State.raise
  split
  · exact ⟨s.reqs, _, rfl⟩
  · exact ⟨_, s.counters, rfl⟩

/-! ## Holds (R109, R111) -/

/-- R109, R111, by the model's hold condition. -/
def Held (s : State) : Prop := ∀ n : LineNo, ∀ x ∈ s.sess[n], x.reason = none → (x.hold.isSome = true ↔ s.holdCondition x = true)

theorem channel_iff (s : State) (i : Station) : s.roster[i].channel = true ↔ s.roster[i].age < 3 ∧ s.roster[i].roles.channel = true := by
  simp [RosterEntry.channel, RosterEntry.present]

theorem accountant_iff (s : State) (i : Station) : s.roster[i].accountant = true ↔ s.roster[i].age < 3 ∧ s.roster[i].roles.accountant = true := by
  simp [RosterEntry.accountant, RosterEntry.present]

theorem holdCondition_iff (s : State) (x : Session) :
    s.holdCondition x = true ↔ ¬(s.roster[x.channel].age < 3 ∧ s.roster[x.channel].roles.channel = true) ∨ s.bus ≠ .active := by
  rw [← channel_iff]
  unfold State.holdCondition
  simp

theorem holdOk_iff (s : State) : HoldOk s ↔ (s.loader = .running → Held s) := by
  unfold HoldOk Held
  simp only [holdCondition_iff]

theorem holdTest_cases (s : State) (x : Session) :
    (s.holdTest x).channel = x.channel ∧ (s.holdTest x).reason = x.reason ∧
      (x.reason = none → ((s.holdTest x).hold.isSome = true ↔ s.holdCondition x = true)) := by
  unfold State.holdTest
  split
  · split
    · next cond =>
      split
      · exact ⟨rfl, rfl, fun _ => ⟨fun _ => cond, fun _ => rfl⟩⟩
      · next held => exact ⟨rfl, rfl, fun _ => ⟨fun _ => cond, fun _ => Option.isSome_iff_ne_none.mpr held⟩⟩
    · next cond => exact ⟨rfl, rfl, fun _ => ⟨fun no => absurd no Bool.false_ne_true, fun yes => absurd yes cond⟩⟩
  · next closing => exact ⟨rfl, rfl, fun open_ => absurd open_ closing⟩

theorem held_tested (s : State) : Held { s with sess := mapTable s.sess fun _ x => x.map s.holdTest } := by
  intro n y hy open_
  have hy : y ∈ (mapTable s.sess fun _ x => x.map s.holdTest)[n] := hy
  rw [mapTable_get] at hy
  obtain ⟨x, hx, rfl⟩ := Option.mem_map.mp hy
  obtain ⟨channel, reason, hold⟩ := holdTest_cases s x
  have cond : s.holdCondition (s.holdTest x) = s.holdCondition x := by
    simp only [State.holdCondition, channel]
  refine (hold (reason ▸ open_)).trans ?_
  show _ ↔ s.holdCondition (s.holdTest x) = true
  rw [cond]

theorem closeCause_roster_bus (n : LineNo) (r : CloseReason) (s : State) : (s.closeCause n r).roster = s.roster ∧ (s.closeCause n r).bus = s.bus := by
  unfold State.closeCause
  repeat' split
  all_goals exact ⟨rfl, rfl⟩

theorem held_closeCause {s : State} (n : LineNo) (r : CloseReason) (h : Held s) : Held (s.closeCause n r) := by
  obtain ⟨roster, bus⟩ := closeCause_roster_bus n r s
  intro m y hy open_
  have cond : (s.closeCause n r).holdCondition y = s.holdCondition y := by unfold State.holdCondition; rw [roster, bus]
  rw [cond]
  by_cases same : n = m
  · subst same
    rw [closeCause_sess_self] at hy
    obtain ⟨x, hx, rfl⟩ := Option.mem_map.mp hy
    have := closedBy_reason r x
    rw [open_] at this
    cases this
  · rw [closeCause_sess_ne same] at hy
    exact h m y hy open_

theorem held_closingMoves : ClosingMoves Held where
  path _ _ _ _ _ h := h
  count _ _ _ h := h
  raise s i h := by
    obtain ⟨q, c, e⟩ := raise_fields s i
    rw [e]
    exact h
  close _ n _ _ _ h := held_closeCause n _ h
  hold s _ := held_tested s
  queue _ _ _ h := h
  drained _ _ h := h
  draws _ _ h := h

theorem testHold_held (s : State) : Held s.testHold :=
  freeLines_induction Held _ (fun n u h => held_closingMoves.noticeMessages _ n u h) held_closingMoves.draws _ _ _ (held_tested s)

/-- Every command leaves the holds as the roster and the bus state call for them. -/
theorem exec_holdOk {c : Instr} {s u : State} (hs : HoldOk s) (h : exec c s = .next u) : HoldOk u := by
  refine exec_keeps (fun v before every started => (holdOk_iff _).mpr fun _ => ?_) (fun u loading running => absurd running loading)
    (fun s t b h => h) hs h
  exact settle_of_testHold held_closingMoves started before every (testHold_held v)

/-! ## Offers (R118, R123) -/

theorem accountantPresent_iff (s : State) : s.accountantPresent = true ↔ ∃ i : Station, s.roster[i].accountant = true := by
  unfold State.accountantPresent
  rw [List.any_eq_true]
  constructor
  · rintro ⟨r, hr, accountant⟩
    obtain ⟨k, hk, rfl⟩ := List.mem_iff_getElem.mp hr
    exact ⟨⟨k, by simpa using hk⟩, by simpa using accountant⟩
  · rintro ⟨i, accountant⟩
    exact ⟨s.roster[i], by simp, accountant⟩

/-- One offer, of the queue alone (R118). -/
def offerNext (now : Moment) (q : List Queued) : List Queued :=
  if (oldestUnoffered q).isSome ∧ offeredCount q < offerWindow then offerOldest now q else q

theorem offerOne_queue (s : State) : s.offerOne.queue = offerNext s.now s.queue := by
  unfold State.offerOne offerNext
  cases h : oldestUnoffered s.queue with
  | none => simp
  | some r =>
    simp only [Option.isSome_some, true_and]
    split
    · rw [raise_queue]
    · rfl

theorem offerOne_now (s : State) : s.offerOne.now = s.now := by
  unfold State.offerOne
  split
  · split
    · rw [raise_now]
    · rfl
  · rfl

theorem updateOffers_queue (s : State) :
    s.updateOffers.queue =
      if s.accountantPresent then offerNext s.now (offerNext s.now (offerNext s.now (offerNext s.now s.queue)))
      else s.queue.map Queued.unoffer := by
  unfold State.updateOffers
  split
  · simp only [offerOne_queue, offerOne_now]
  · rfl

/-- No record is left to offer, or four are offered. -/
def Offered (q : List Queued) : Prop := (∀ r ∈ q, r.offered = true) ∨ offerWindow ≤ offeredCount q

theorem offeredCount_offerOldest_eq {now : Moment} {q : List Queued} (h : (oldestUnoffered q).isSome = true) :
    offeredCount (offerOldest now q) = offeredCount q + 1 := by
  induction q with
  | nil => cases h
  | cons r q ih =>
    unfold offerOldest
    cases hr : r.offered with
    | true =>
      have rest : (oldestUnoffered q).isSome = true := by simpa [oldestUnoffered, hr] using h
      simp only [if_true, offeredCount_cons, hr, ih rest]
    | false => simp [offeredCount_cons, hr]

theorem oldestUnoffered_none {q : List Queued} (h : ¬(oldestUnoffered q).isSome = true) : ∀ r ∈ q, r.offered = true := by
  intro r hr
  by_contra unoffered
  exact h (List.find?_isSome.mpr ⟨r, hr, by simpa using unoffered⟩)

/-- An offer more, or nothing left to offer. -/
theorem offerNext_cases (now : Moment) (q : List Queued) :
    Offered q ∧ offerNext now q = q ∨ offeredCount (offerNext now q) = offeredCount q + 1 := by
  unfold offerNext
  split
  · next h => exact .inr (offeredCount_offerOldest_eq h.1)
  · next h =>
    refine .inl ⟨?_, rfl⟩
    rw [not_and_or, Nat.not_lt] at h
    exact h.imp oldestUnoffered_none id

/-- Four offers are enough. -/
theorem offered_of_four (now : Moment) (q : List Queued) : Offered (offerNext now (offerNext now (offerNext now (offerNext now q)))) := by
  have settled {p : List Queued} (h : Offered p) : Offered (offerNext now p) := by
    rcases offerNext_cases now p with ⟨h, e⟩ | more
    · rwa [e]
    · rcases h with all | four
      · exact .inl fun r hr => by
          unfold offerNext at hr more
          split at more
          · next c =>
            have : ¬(oldestUnoffered p).isSome = true := fun some => by
              obtain ⟨r, hr, unoffered⟩ := List.find?_isSome.mp some
              rw [all r hr] at unoffered
              cases unoffered
            exact absurd c.1 this
          · next c => rw [if_neg c] at hr; exact all r hr
      · exact .inr (four.trans (more ▸ Nat.le_succ _))
  rcases offerNext_cases now q with ⟨h, e⟩ | h1
  · exact settled (settled (settled (settled h)))
  rcases offerNext_cases now (offerNext now q) with ⟨h, e⟩ | h2
  · exact settled (settled (settled h))
  rcases offerNext_cases now (offerNext now (offerNext now q)) with ⟨h, e⟩ | h3
  · exact settled (settled h)
  rcases offerNext_cases now (offerNext now (offerNext now (offerNext now q))) with ⟨h, e⟩ | h4
  · exact settled h
  · exact .inr (by show 4 ≤ _; omega)

/-- The service of texts and transmitters moves characters and blocks, texts and free choices alone. -/
theorem serve_keeps {α : Type} {g : State → α} (hpath : ∀ s n p k, g { State.setPath s n p with free := k } = g s)
    (hdraws : ∀ (s : State) k, g { s with draws := k } = g s) (k : Nat) (s : State) : g (State.serve k s) = g s := by
  have text (s : State) (n : LineNo) : g (s.serveText n) = g s := by
    unfold State.serveText
    split
    · rfl
    · exact (hpath _ n _ _).trans (hpath s n _ s.free)
  have start (n : LineNo) (s : State) : g (s.startTx n) = g s := by
    unfold State.startTx
    split
    · split
      · exact hpath s n _ s.free
      · split
        · rfl
        · exact (hpath _ n _ _).trans (hpath s n _ _)
    · rfl
  have once {s u : State} (h : s.serveOnce = some u) : g u = g s := by
    unfold State.serveOnce at h
    split at h
    · split at h
      · cases h
      · cases h; exact eachLine_keeps g _ start _ s
    · cases h; exact text s _
    · split at h
      · cases h
      · cases h; exact (text _ _).trans (hdraws s _)
  induction k generalizing s with
  | zero => rfl
  | succ k ih =>
    unfold State.serve
    split
    · rfl
    · next u hu => exact (ih u).trans (once hu)

theorem testHold_keeps {α : Type} {g : State → α} (hpath : ∀ s n p k, g { State.setPath s n p with free := k } = g s)
    (hdraws : ∀ (s : State) k, g { s with draws := k } = g s) (hcount : ∀ s : State, g (s.count .noticesReplaced) = g s)
    (hsess : ∀ (s : State) v, g { s with sess := v } = g s) (s : State) : g s.testHold = g s := by
  have text (s : State) (n : LineNo) (t : Text) : g (s.takeText n t) = g s := by
    unfold State.takeText
    split
    · exact (hcount _).trans (hpath s n _ s.free)
    · split
      · exact hpath s n _ _
      · exact hpath s n _ s.free
  have notices (ms : List (Fin 16)) (n : LineNo) (s : State) : g (State.noticeMessages ms n s) = g s := by
    unfold State.noticeMessages
    induction ms generalizing s with
    | nil => rfl
    | cons m ms ih =>
      refine (ih _).trans ?_
      show g (s.noticeText n (messageText [m])) = g s
      unfold State.noticeText
      split
      · exact text s n _
      · rfl
  exact (inFreeOrder_keeps g _ (notices [13]) hdraws _ _).trans (hsess s _)

/-- The queue after the closing work: the offers follow the accountants present, and nothing after them touches the queue. -/
theorem settle_queue {s : State} (h : s.started = true) (before : State) (every : Bool) :
    (s.settle before every).queue =
      if s.accountantPresent then offerNext s.now (offerNext s.now (offerNext s.now (offerNext s.now s.queue)))
      else s.queue.map Queued.unoffer := by
  have close (s : State) (n : LineNo) (r : CloseReason) : (s.closeCause n r).queue = s.queue := by
    unfold State.closeCause
    repeat' split
    all_goals rfl
  have late := settle_eq_flowed (g := State.queue) raise_queue close (fun _ _ => rfl) h before every
  have flow : (flowed s).queue = (served s).queue := eachLine_keeps State.queue _ (updateFlow_keeps raise_queue fun _ _ _ => rfl) _ _
  have service : (served s).queue = s.testHold.updateOffers.queue := serve_keeps (g := State.queue) (fun _ _ _ _ => rfl) (fun _ _ => rfl) _ _
  have tested := testHold_keeps (g := fun u : State => (u.queue, u.now, u.accountantPresent)) (fun _ _ _ _ => rfl) (fun _ _ => rfl) (fun _ => rfl)
    (fun _ _ => rfl) s
  obtain ⟨queue, now, present⟩ : s.testHold.queue = s.queue ∧ s.testHold.now = s.now ∧ s.testHold.accountantPresent = s.accountantPresent := by
    simpa only [Prod.mk.injEq] using tested
  rw [late, flow, service, updateOffers_queue, queue, now, present]

theorem settle_accountantPresent (s before : State) (every : Bool) : (s.settle before every).accountantPresent = s.accountantPresent := by
  unfold State.accountantPresent
  rw [settle_roster]

/-- Every command leaves the offers as the accountants present call for them. -/
theorem exec_offersOk {c : Instr} {s u : State} (hs : OffersOk s) (h : exec c s = .next u) : OffersOk u := by
  refine exec_keeps (P := OffersOk) (fun v before every started => ?_) (fun u loading running => absurd running loading) (fun s t b h => h) hs h
  intro _
  have queue := settle_queue started before every
  have present := accountantPresent_iff (v.settle before every)
  simp only [accountant_iff] at present
  rw [settle_accountantPresent] at present
  split
  · next some =>
    rw [if_pos (present.mpr some)] at queue
    rw [queue]
    exact offered_of_four _ _
  · next none =>
    rw [if_neg fun p => none (present.mp p)] at queue
    rw [queue]
    intro r hr
    obtain ⟨q, -, rfl⟩ := List.mem_map.mp hr
    exact ⟨rfl, rfl⟩

/-! ## FLOW states (R42) -/

/-- The FLOW state that a room calls for, of the room and the block allowance alone. -/
def flowFor (room allowance : Nat) : Option FlowState → Option FlowState
  | some .go => if room ≤ 16 then some .hold else some .go
  | some .hold => if 8 * allowance ≤ room then some .go else some .hold
  | none => none

theorem flowWanted_eq (s : State) (n : LineNo) : s.flowWanted n = flowFor (s.outRoom n) (s.group n).allowance s.path[n].flow := by
  unfold State.flowWanted flowFor
  cases s.path[n].flow with
  | none => rfl
  | some f => cases f <;> rfl

/-- What of a line its FLOW state goes by: the state, the room and the allowance. -/
def flowView (s : State) (n : LineNo) : Option FlowState × Nat × Nat := (s.path[n].flow, s.outRoom n, (s.group n).allowance)

theorem flowView_raise (s : State) (i : ReqId) : flowView (s.raise i) = flowView s := by
  obtain ⟨q, c, e⟩ := raise_fields s i
  rw [e]
  rfl

theorem updateFlow_view_self (n : LineNo) (s : State) :
    flowView (s.updateFlow n) n = (flowFor (s.outRoom n) (s.group n).allowance s.path[n].flow, s.outRoom n, (s.group n).allowance) := by
  rw [← flowWanted_eq]
  unfold State.updateFlow
  split
  · next same => rw [same]; rfl
  · rw [flowView_raise]
    simp [flowView, State.outRoom, Path.held, State.group, State.updPath]

theorem updateFlow_view_ne {n m : LineNo} (h : n ≠ m) (s : State) : flowView (s.updateFlow n) m = flowView s m := by
  unfold State.updateFlow
  split
  · rfl
  · rw [flowView_raise]
    have path : (s.updPath n fun p => { p with flow := s.flowWanted n }).path[m] = s.path[m] := vector_set_get_ne _ _ h
    simp only [flowView, State.outRoom, path]
    rfl

theorem closeCause_flowView (s : State) (n : LineNo) (r : CloseReason) : flowView (s.closeCause n r) = flowView s := by
  unfold State.closeCause
  repeat' split
  all_goals rfl

/-- After the closing work a FLOW state is the one that its room calls for. -/
theorem settle_flow {s : State} (h : s.started = true) (before : State) (every : Bool) (n : LineNo) :
    (s.settle before every).path[n].flow =
      flowFor ((s.settle before every).outRoom n) ((s.settle before every).group n).allowance (served s).path[n].flow := by
  have view : flowView (s.settle before every) n =
      (flowFor ((served s).outRoom n) ((served s).group n).allowance (served s).path[n].flow, (served s).outRoom n, ((served s).group n).allowance) := by
    rw [settle_eq_flowed flowView_raise closeCause_flowView (fun _ _ => rfl) h before every, flowed,
      eachLine_get flowView State.updateFlow (fun _ v => (flowFor v.2.1 v.2.2 v.1, v.2.1, v.2.2)) (fun n s => updateFlow_view_self n s)
        (fun n m s hne => updateFlow_view_ne hne s) allLines_nodup, if_pos (mem_allLines n)]
    rfl
  simp only [flowView, Prod.mk.injEq] at view
  obtain ⟨flow, room, allowance⟩ := view
  rw [flow, room, allowance]

theorem flowFor_go {room allowance : Nat} (h : 3 ≤ allowance) {f : Option FlowState} (go : flowFor room allowance f = some .go) : 16 < room := by
  match f with
  | none => cases go
  | some .go =>
    change (if room ≤ 16 then some FlowState.hold else some .go) = some .go at go
    split at go
    · cases go
    · omega
  | some .hold =>
    change (if 8 * allowance ≤ room then some FlowState.go else some .hold) = some .go at go
    split at go
    · omega
    · cases go

theorem flowFor_hold {room allowance : Nat} (h : 3 ≤ allowance) {f : Option FlowState} (hold : flowFor room allowance f = some .hold) :
    room < 8 * allowance := by
  match f with
  | none => cases hold
  | some .go =>
    change (if room ≤ 16 then some FlowState.hold else some .go) = some .hold at hold
    split at hold
    · omega
    · cases hold
  | some .hold =>
    change (if 8 * allowance ≤ room then some FlowState.go else some .hold) = some .hold at hold
    split at hold
    · cases hold
    · omega

/-- Every command leaves the FLOW states as the rooms call for them. -/
theorem exec_flowOk {c : Instr} {s u : State} (hs : FlowOk s) (h : exec c s = .next u) : FlowOk u := by
  refine exec_keeps (P := FlowOk) (fun v before every started => ?_) (fun u loading running => absurd running loading) (fun s t b h => h) hs h
  intro _ n allowance
  have flow := settle_flow started before every n
  exact ⟨fun go => flowFor_go allowance (flow ▸ go), fun hold => flowFor_hold allowance (flow ▸ hold)⟩

/-! ## DATA-IN requests (R37) -/

theorem any_cr_iff (cs : List Char7) : cs.contains chCR = true ↔ (0x0D : Char7) ∈ cs := List.contains_iff_mem

theorem trigger_iff (p : Path) :
    p.trigger = true ↔ (0x0D : Char7) ∈ p.inQ.chars ∨ 14 ≤ p.inQ.chars.length ∨ p.fwdDue = true ∨ p.attention = true ∨ p.brk = true := by
  simp only [Path.trigger, Path.flagWaits, Bool.or_eq_true, any_cr_iff, decide_eq_true_eq, or_assoc]

theorem forwardingBlocked_iff (s : State) (n : LineNo) :
    s.forwardingBlocked n = false ↔
      ∃ x ∈ s.sess[n], s.path[n].channelHold = false ∧ s.roster[x.channel].age < 3 ∧ s.roster[x.channel].roles.channel = true ∧ s.bus = .active := by
  unfold State.forwardingBlocked
  cases s.sess[n] with
  | none => simp
  | some x =>
    have channel := channel_iff s x.channel
    simp only [Bool.or_eq_false_iff, Bool.not_eq_false', channel, decide_eq_false_iff_not, not_not, and_assoc]
    simp

theorem wantsDataIn_iff (s : State) (n : LineNo) : s.wantsDataIn n = true ↔ s.forwardingDue n := by
  unfold State.wantsDataIn State.forwardingDue
  rw [Bool.and_eq_true, Bool.and_eq_true, decide_eq_true_eq, trigger_iff, Bool.not_eq_true', forwardingBlocked_iff]
  tauto

/-- A step of an operation for each line makes something true, and the others keep it. -/
theorem eachLine_makes {I Q : State → Prop} {f : LineNo → State → State} {n : LineNo} (inv : ∀ m s, I s → I (f m s)) (makes : ∀ s, I s → Q (f n s))
    (keeps : ∀ m s, I s → Q s → Q (f m s)) {ls : List LineNo} (mem : n ∈ ls) {s : State} (hs : I s) : Q (eachLine ls f s) := by
  induction ls generalizing s with
  | nil => cases mem
  | cons m ls ih =>
    show Q (eachLine ls f (f m s))
    by_cases rest : n ∈ ls
    · exact ih rest (inv m s hs)
    · have same : n = m := (List.mem_cons.mp mem).resolve_right rest
      subst same
      have both := eachLine_induction (fun u => I u ∧ Q u) f (fun m u ⟨hi, hq⟩ => ⟨inv m u hi, keeps m u hi hq⟩) ls (f n s) ⟨inv n s hs, makes s hs⟩
      exact both.2

theorem wantsDataIn_raise (s : State) (i : ReqId) : (s.raise i).wantsDataIn = s.wantsDataIn := by
  obtain ⟨q, c, e⟩ := raise_fields s i
  rw [e]
  rfl

theorem wire_raise (s : State) (i : ReqId) : (s.raise i).onWire = s.onWire := by
  obtain ⟨q, c, e⟩ := raise_fields s i
  rw [e]
  rfl

/-- A line that wants a DATA-IN frame has its request pending, or, if it wanted one before, its frame on the wire. -/
def Forwards (before : State) (n : LineNo) (u : State) : Prop :=
  u.wantsDataIn n = true → (u.req (.dataIn n)).pending = true ∨ before.wantsDataIn n = true ∧ u.onWire (.dataIn n) = true

theorem forwards_raise {before : State} {n : LineNo} {u : State} (i : ReqId) (h : Forwards before n u) : Forwards before n (u.raise i) := by
  unfold Forwards at h ⊢
  rw [wantsDataIn_raise, wire_raise]
  exact fun wants => (h wants).imp_left (raise_keeps_pending u i _)

theorem forwards_raiseDataIn (before : State) (n : LineNo) (u : State) : Forwards before n (State.raiseDataIn before n u) := by
  unfold State.raiseDataIn
  split
  · exact fun _ => .inl (raised_pending u _)
  · next no =>
    intro wants
    rw [wants, Bool.true_and] at no
    simp only [Bool.or_eq_true, Bool.not_eq_true', Bool.and_eq_true, not_or, not_and, Bool.not_eq_false] at no
    cases pending : (u.req (.dataIn n)).pending with
    | true => exact .inl rfl
    | false => exact .inr ⟨no.1, no.2 pending⟩

theorem settle_forwards {s : State} (h : s.started = true) (before : State) (every : Bool) (n : LineNo) :
    Forwards before n (s.settle before every) := by
  have keepDataIn (m : LineNo) (u : State) (k : Forwards before n u) : Forwards before n (State.raiseDataIn before m u) := by
    unfold State.raiseDataIn
    split
    · exact forwards_raise _ k
    · exact k
  have keepLineState (m : LineNo) (u : State) (k : Forwards before n u) : Forwards before n (State.raiseLineState before every m u) := by
    unfold State.raiseLineState
    split
    · split
      · exact forwards_raise _ k
      · exact k
    · exact k
  rw [settle_of_started h]
  exact eachLine_induction _ _ keepLineState _ _ (eachLine_makes (I := fun _ => True) (fun _ _ _ => trivial)
    (fun u _ => forwards_raiseDataIn before n u) (fun m u _ => keepDataIn m u) (mem_allLines n) trivial)

theorem onWire_iff (s : State) (i : ReqId) : s.onWire i = true ↔ ∃ w ∈ s.wire, w.req = i := by
  unfold State.onWire
  cases s.wire <;> simp

/-- Every command leaves the DATA-IN request of a line that is due to forward pending or its frame on the wire. -/
theorem exec_dataInOk {c : Instr} {s u : State} (hs : DataInOk s) (h : exec c s = .next u) : DataInOk u := by
  refine exec_keeps (P := DataInOk) (fun v before every started => ?_) (fun u loading running => absurd running loading) (fun s t b h => h) hs h
  intro _ n due
  exact (settle_forwards started before every n ((wantsDataIn_iff _ n).mpr due)).imp_right fun ⟨_, wire⟩ => (onWire_iff _ _).mp wire

/-- At the event that makes a line due to forward its DATA-IN request is pending. -/
theorem exec_newlyDue {c : Instr} {s u : State} (h : exec c s = .next u) (running : u.loader = .running) (n : LineNo) (was : ¬s.forwardingDue n)
    (due : u.forwardingDue n) : (u.req (.dataIn n)).pending = true := by
  cases closed_exec h with
  | event v t every =>
    have started : v.started = true := decide_eq_true ((settle_loader v _ every).symm.trans running)
    rcases settle_forwards started (s.at t) every n ((wantsDataIn_iff _ n).mpr due) with pending | ⟨wanted, -⟩
    · exact pending
    · exact absurd ((wantsDataIn_iff (s.at t) n).mp wanted) was
  | loading loading => exact absurd running loading
  | still t b => exact absurd due was

/-! ## LINE-STATE requests (R129) -/

theorem signals_raise (s : State) (i : ReqId) : (s.raise i).signals = s.signals ∧ (s.raise i).cfg = s.cfg := by
  obtain ⟨q, c, e⟩ := raise_fields s i
  rw [e]
  exact ⟨rfl, rfl⟩

/-- A forwarded line whose signals have changed since `before` has its LINE-STATE request pending. -/
def Announced (before : State) (n : LineNo) (u : State) : Prop :=
  ∀ tag ∈ u.cfg.tags[n], before.signals n ≠ u.signals n → (u.req (.lineState tag)).pending = true

theorem announced_raise {before : State} {n : LineNo} {u : State} (i : ReqId) (h : Announced before n u) : Announced before n (u.raise i) := by
  obtain ⟨signals, cfg⟩ := signals_raise u i
  unfold Announced at h ⊢
  rw [signals, cfg]
  exact fun tag htag changed => raise_keeps_pending u i _ (h tag htag changed)

theorem announced_raiseLineState (before : State) (every : Bool) (n : LineNo) (u : State) :
    Announced before n (State.raiseLineState before every n u) := by
  unfold State.raiseLineState
  split
  · next tag htag =>
    split
    · intro tag' htag'
      obtain ⟨-, cfg⟩ := signals_raise u (.lineState tag)
      rw [cfg, htag] at htag'
      cases htag'
      exact fun _ => raised_pending u _
    · next same =>
      intro tag' _ changed
      simp only [Bool.or_eq_true, decide_eq_true_eq, not_or] at same
      exact absurd changed same.2
  · next none => intro tag htag; rw [none] at htag; cases htag

theorem settle_announced {s : State} (h : s.started = true) (before : State) (every : Bool) (n : LineNo) :
    Announced before n (s.settle before every) := by
  rw [settle_of_started h]
  refine eachLine_makes (I := fun _ => True) (fun _ _ _ => trivial) (fun u _ => announced_raiseLineState before every n u) (fun m u _ k => ?_)
    (mem_allLines n) trivial
  unfold State.raiseLineState
  split
  · split
    · exact announced_raise _ k
    · exact k
  · exact k

/-- At whatever command changes the signals of a forwarded line, its LINE-STATE request is pending. -/
theorem exec_announced {c : Instr} {s u : State} (h : exec c s = .next u) (running : u.loader = .running) {n : LineNo} {tag : Fin 64}
    (htag : u.cfg.tags[n] = some tag) (changed : s.signals n ≠ u.signals n) : (u.req (.lineState tag)).pending = true := by
  cases closed_exec h with
  | event v t every =>
    have started : v.started = true := decide_eq_true ((settle_loader v _ every).symm.trans running)
    exact settle_announced started (s.at t) every n tag htag changed
  | loading loading => exact absurd running loading
  | still t b => exact absurd rfl changed

end Sys2Proof.Proofs.Closing
end

section
/-! Frames of other stations that change one table (R77, R84, R86, R121, R132). What a frame's effect does to the state with its sender heard is
read off once for each effect that respects `State.core`; a frame that is not heard has none. -/

namespace Sys2Proof.Proofs.Frames

open Sys2Proof Sys2Proof.Machine Sys2Proof.Proofs.Presence Sys2Proof.Proofs.Clock Sys2Proof.Proofs.Moves Sys2Proof.Proofs.Commands
open Sys2Proof.Proofs.Closing

/-! ## Taking a frame -/

/-- A command that is one event gives what its effect leaves. -/
theorem givesHeard_of_take {c : Instr} {s v : State} {t : Moment} {effect : State → State} (h : exec c s = take s t effect)
    (e : (s.event t effect).core = v.core) : GivesHeard c s v :=
  ⟨_, h, e⟩

theorem canEcho_eq {s : State} (hrun : s.loader = .running) : s.canEcho = decide (s.bus ≠ .silent) := by
  unfold State.canEcho State.started
  rw [hrun]
  cases s.bus <;> rfl

theorem takeOwn_of_hears {s : State} {src : Station} (h : s.hears src = true) (effect : State → State) :
    s.takeOwn src effect = if s.canEcho then effect (State.hear { s with echo := true } src) else { s with echo := false } :=
  if_pos h

theorem takeOwn_of_silent {s : State} {src : Station} (h : s.hears src = true) (silent : s.canEcho = false) (effect : State → State) :
    s.takeOwn src effect = { s with echo := false } := by
  rw [takeOwn_of_hears h, if_neg (Bool.eq_false_iff.mp silent)]

/-- The same frame addressed to this station alone, echoed. -/
theorem event_takeOwn_core (t : Moment) {src : Station} {s : State} (hrun : s.loader = .running) (hsrc : src ≠ s.station) (echoes : s.canEcho = true)
    {effect : State → State} (respects : ∀ {u v : State}, u.core = v.core → (effect u).core = (effect v).core) :
    (s.event t fun s => s.takeOwn src effect).core = (effect { (s.at t).heard src with echo := true }).core := by
  have hears : (s.at t).hears src = true := hears_of_running hrun hsrc
  have echoes : (s.at t).canEcho = true := echoes
  rw [event_core, takeOwn_of_hears hears, if_pos echoes, ← heard_setEcho]
  exact respects (hear_core _ src)

/-! ## What respects `State.core` -/

theorem core_noteClaim {u v : State} (h : u.core = v.core) (src : Station) (p : ClaimPayload) :
    (u.noteClaim src p).core = (v.noteClaim src p).core := by
  unfold State.noteClaim
  split
  · rw [eq_of_core_presence h]
    exact core_setPresence h _
  · exact h

theorem core_setSlots {u v : State} (h : u.core = v.core) (x : Vector SlotState 32) :
    State.core { u with slots := x } = State.core { v with slots := x } :=
  congrArg (fun w : State => { w with slots := x }) h

/-- The slots once a LINE-STATE is noted. -/
def noted (cfg : Configuration) (slots : Vector SlotState 32) (tag : Nat) (g : Signals) : Vector SlotState 32 :=
  mapTable slots fun i x =>
    match cfg.slots[i].source with
    | .tag k => if k.val = tag then ⟨g.value cfg.slots[i].signal, 0⟩ else x
    | .unused | .line _ => x

theorem noteLineState_eq (s : State) (tag : Nat) (g : Signals) : s.noteLineState tag g = { s with slots := noted s.cfg s.slots tag g } := rfl

theorem core_noteLineState {u v : State} (h : u.core = v.core) (tag : Nat) (g : Signals) :
    (u.noteLineState tag g).core = (v.noteLineState tag g).core := by
  have table : noted u.cfg u.slots tag g = noted v.cfg v.slots tag g := by rw [eq_of_core_slots h, eq_of_core_cfg h]
  rw [noteLineState_eq, noteLineState_eq, table]
  exact core_setSlots h _

/-- The counters less the two that the closing work can raise. -/
def Counters.settled (c : Counters) : Counters := { c with requestsCoalesced := 0, noticesReplaced := 0 }

theorem settled_rise {c d : Counters} (h : Counters.settled c = Counters.settled d) (i : CounterId) :
    Counters.settled (c.rise i) = Counters.settled (d.rise i) := by
  simp only [Counters.settled, Counters.mk.injEq] at h
  cases i <;> simp only [Counters.settled, Counters.rise, h]

theorem eq_of_core_counters {u v : State} (h : u.core = v.core) : Counters.settled u.counters = Counters.settled v.counters :=
  show u.core.counters = v.core.counters from h ▸ rfl

theorem core_count {u v : State} (h : u.core = v.core) (i : CounterId) : (u.count i).core = (v.count i).core := by
  have counters := settled_rise (eq_of_core_counters h) i
  calc (u.count i).core = { u.core with counters := Counters.settled (u.counters.rise i) } := rfl
    _ = { v.core with counters := Counters.settled (v.counters.rise i) } := by rw [h, counters]
    _ = (v.count i).core := rfl

theorem eq_of_core_queue {u v : State} (h : u.core = v.core) : u.queue.map Queued.unoffer = v.queue.map Queued.unoffer :=
  show u.core.queue = v.core.queue from h ▸ rfl

theorem any_unoffer (q : List Queued) (p : Charge → Bool) : (q.map Queued.unoffer).any (fun r => p r.charge) = q.any fun r => p r.charge := by
  rw [List.any_map]
  rfl

theorem filter_unoffer (q : List Queued) (p : Charge → Bool) :
    (q.filter fun r => p r.charge).map Queued.unoffer = (q.map Queued.unoffer).filter fun r => p r.charge := by
  rw [List.filter_map]
  rfl

/-- An acknowledgement reads the roster and the serials of the records, whether or not they are offered. -/
theorem core_acknowledge {u v : State} (h : u.core = v.core) (src : Station) (serial : BitVec 8) :
    (u.acknowledge src serial).core = (v.acknowledge src serial).core := by
  have queue := eq_of_core_queue h
  have borne : (u.queue.any fun r => r.charge.serial = serial) = v.queue.any fun r => r.charge.serial = serial := by
    rw [← any_unoffer u.queue fun c => c.serial = serial, queue, any_unoffer v.queue fun c => c.serial = serial]
  have left : (u.queue.filter fun r => r.charge.serial ≠ serial).map Queued.unoffer =
      (v.queue.filter fun r => r.charge.serial ≠ serial).map Queued.unoffer := by
    rw [filter_unoffer u.queue fun c => c.serial ≠ serial, queue, filter_unoffer v.queue fun c => c.serial ≠ serial]
  have entry : u.roster[src] = v.roster[src] := by rw [eq_of_core_roster h]
  unfold State.acknowledge
  rw [entry, borne]
  split
  · calc State.core { u with queue := u.queue.filter fun r => r.charge.serial ≠ serial }
        = { u.core with queue := (u.queue.filter fun r => r.charge.serial ≠ serial).map Queued.unoffer } := rfl
      _ = { v.core with queue := (v.queue.filter fun r => r.charge.serial ≠ serial).map Queued.unoffer } := by rw [h, left]
      _ = State.core { v with queue := v.queue.filter fun r => r.charge.serial ≠ serial } := rfl
  · exact core_count h _

@[simp] theorem heard_queue (s : State) (i : Station) : (s.heard i).queue = s.queue := by
  unfold State.heard; split <;> rfl

@[simp] theorem heard_slots (s : State) (i : Station) : (s.heard i).slots = s.slots := by
  unfold State.heard; split <;> rfl

@[simp] theorem heard_cfg (s : State) (i : Station) : (s.heard i).cfg = s.cfg := by
  unfold State.heard; split <;> rfl

/-- Settles O25: a claim of a known kind, line and user replaces the entry of its station and line. -/
theorem claimEntersThePresenceTable : Obligations.ClaimEntersThePresenceTable := by
  intro t src p s hrun hsrc
  refine givesHeard_of_take rfl ?_
  rw [event_takeAll_core t hrun hsrc fun h => core_noteClaim h src p]
  unfold State.noteClaim
  cases lineOf p.line with
  | none => exact rfl
  | some n =>
    cases userOf p.user with
    | none => exact rfl
    | some user =>
      cases claimKindOf p.kind with
      | none => exact rfl
      | some _ =>
        exact congrArg
          (fun ps => State.core { (s.at t).heard src with echo := (s.at t).canEcho, presence := putPresence ps ⟨src, n, user, p.serial, 0⟩ })
          (heard_presence (s.at t) src)

/-- Settles O35: the roles of a sender heard are those it had, and the queue is as it stood. -/
theorem acknowledgementRemovesItsRecord : Obligations.AcknowledgementRemovesItsRecord := by
  intro t src serial s hrun hsrc bus
  have echoes : s.canEcho = true := by
    rw [canEcho_eq hrun]
    rcases bus with bus | bus <;> rw [bus] <;> rfl
  refine givesHeard_of_take rfl ?_
  rw [event_takeOwn_core t hrun hsrc echoes fun h => core_acknowledge h src serial]
  have roles : ((s.at t).heard src).roster[src].roles = s.roster[src].roles := heard_roles (s.at t) src src
  unfold State.acknowledge
  rw [roles, heard_queue]
  rfl

/-! ## LINE-STATE frames (R132) -/

/-- Both the event and the echo of an own frame keep the request's strikes. -/
theorem event_strikes (s : State) (t : Moment) (effect : State → State) (i : ReqId) :
    ((s.event t effect).req i).strikes = ((effect (s.at t)).req i).strikes := settle_strikes _ _ _ _

theorem delivered_strikes (s : State) (w : WireFrame) : ((s.delivered w).req w.req).strikes = 0 := by
  unfold State.delivered
  rw [req_setReq_self]

theorem move_cfg {s u : State} (h : Move s u) : u.cfg = s.cfg := by
  cases h with
  | quiet same => exact congrArg Vital.cfg same
  | line | pool | signOn | signOff | admission | establish | sessions | ended | presence | clock | queue | request | streak => rfl

/-- A command between two running states keeps the configuration. -/
theorem exec_cfg {c : Instr} {s u : State} (h : exec c s = .next u) (hs : s.loader = .running) (hu : u.loader = .running) : u.cfg = s.cfg := by
  cases exec_cases h with
  | moved m =>
    exact m.keeps (P := fun v => v.cfg = s.cfg) (fun move e => Eq.trans (move_cfg move) e) rfl
  | restarted v pin m => cases hu
  | powered v t e => cases hu
  | started v t straps store e loading => exact absurd hs loading

theorem signals_ne_iff (s u : State) (n : LineNo) :
    s.signals n ≠ u.signals n ↔
      [decide (s.st n ≠ .idle ∧ s.st n ≠ .out), decide (s.st n = .out), decide (s.st n = .session), s.sup[n].fault, s.mb n] ≠
        [decide (u.st n ≠ .idle ∧ u.st n ≠ .out), decide (u.st n = .out), decide (u.st n = .session), u.sup[n].fault, u.mb n] := by
  simp only [State.signals, State.signalsWith, ne_eq, Signals.mk.injEq, List.cons.injEq, and_true, Bool.decide_and]

/-- Settles O37: the closing work of the event raises the request of the changed line, and a frame's values are noted once it is taken or echoed. -/
theorem lineStateSetsItsSlots : Obligations.LineStateSetsItsSlots := by
  refine ⟨?_, ?_⟩
  · intro c s u h hs hu signals n tag htag changed
    exact exec_announced h hu (by rw [exec_cfg h hs hu, htag]) ((signals_ne_iff s u n).mpr changed)
  · intro t s hrun
    refine ⟨fun src tag signals hsrc => ?_, fun tag signals w k g hw hbody => ?_⟩
    · have other : src ≠ (s.at t).station := hsrc
      have taken : exec (.lineState t src tag signals) s =
          take s t fun s => s.takeAll src fun s => s.noteLineState tag.toNat (signalsOf signals) := by
        refine congrArg Host.Outcome.next (congrArg (fun v : State => v.settle (s.at t) false) ?_)
        exact if_neg other
      refine givesHeard_of_take taken ?_
      have slots : ((s.at t).heard src).slots = s.slots := heard_slots (s.at t) src
      have cfg : ((s.at t).heard src).cfg = s.cfg := heard_cfg (s.at t) src
      have table : noted ((s.at t).heard src).cfg ((s.at t).heard src).slots tag.toNat (signalsOf signals) =
          noted s.cfg s.slots tag.toNat (signalsOf signals) := by rw [slots, cfg]
      rw [event_takeAll_core t hrun hsrc fun h => core_noteLineState h _ _]
      exact congrArg (fun x => State.core { (s.at t).heard src with echo := (s.at t).canEcho, slots := x }) table
    · have echoed : exec (.lineState t s.station tag signals) s = take s t fun s => (s.delivered w).noteLineState k.val g := by
        refine congrArg Host.Outcome.next (congrArg (fun v : State => v.settle (s.at t) false) ?_)
        refine (if_pos rfl).trans ?_
        have hw : (s.at t).wire = some w := hw
        unfold State.ownLineState
        rw [hw]
        simp only [hbody]
      refine ⟨_, echoed, ?_, ?_, ?_, ?_, ?_⟩
      · rw [State.event, settle_slots]; rfl
      · rw [State.event, settle_wire]; rfl
      · rw [event_strikes]; exact delivered_strikes _ w
      · rw [State.event, settle_sup]; rfl
      · rw [State.event, settle_streak]; rfl

end Sys2Proof.Proofs.Frames
end

section
/-! The roster and the frames that are not taken (R84, R86, R154, R159). The reaction of the other blocks to a roster change agrees with `State.core`
but for channel-hold; a frame that is not heard, or one to this station alone in SILENT, has an effect of its own for every command. -/

namespace Sys2Proof.Proofs.Roster

open Sys2Proof Sys2Proof.Machine Sys2Proof.Proofs.Presence Sys2Proof.Proofs.Clock Sys2Proof.Proofs.Commands Sys2Proof.Proofs.Frames
open Sys2Proof.Proofs.Closing

/-! ## Beacons (R84, R86, R88) -/

theorem reactRoster_core (s : State) (before : Vector RosterEntry 16) (returned : Option Station) :
    (s.reactRoster before returned).core = (s.clearChannelHold (s.channelTurnedAbsent before)).core := by
  have settled : ((s.clearChannelHold (s.channelTurnedAbsent before)).testHold.updateOffers).core =
      (s.clearChannelHold (s.channelTurnedAbsent before)).core := core_of_kept (by rw [kept_updateOffers, kept_testHold])
  unfold State.reactRoster
  dsimp only
  split
  · rw [core_raiseConfirms]; exact settled
  · exact settled

/-- The parts of the state that a beacon's roster change and a purge are told by. -/
def BeaconView (u s : State) (roster : Vector RosterEntry 16) (presence : List Presence) : Prop :=
  u.roster = roster ∧ u.presence = presence ∧ u.sup = s.sup ∧ u.sign = s.sign ∧ u.clock = s.clock ∧ u.slots = s.slots

theorem changeRoster_view {s : State} {i : Station} (other : i ≠ s.station) (f : RosterEntry → RosterEntry) (returned : Option Station) :
    BeaconView (s.changeRoster i f returned) s (s.roster.set i (f s.roster[i])) s.presence := by
  have core := reactRoster_core { s with roster := s.roster.set i (f s.roster[i]) } s.roster returned
  unfold State.changeRoster
  rw [if_neg other]
  exact ⟨eq_of_core_roster core, (eq_of_core_presence core).trans rfl, (eq_of_core_sup core).trans rfl, (eq_of_core_sign core).trans rfl,
    (eq_of_core_clock core).trans rfl, (eq_of_core_slots core).trans rfl⟩

theorem purge_view {u s : State} {roster : Vector RosterEntry 16} {presence : List Presence} (src : Station) (h : BeaconView u s roster presence) :
    BeaconView (u.purge src) s roster (presence.filter fun e => e.station ≠ src) := by
  obtain ⟨hroster, hpresence, rest⟩ := h
  exact ⟨hroster, congrArg (List.filter _) hpresence, rest⟩

theorem beaconEntry_eq (p : BeaconPayload) :
    beaconEntry p =
      ⟨⟨p.roles.getLsbD 0, p.roles.getLsbD 1, p.roles.getLsbD 2, p.roles.getLsbD 3⟩, 0, decide (p.freshStart ≠ 0),
        p.levelCeiling.toNat % 4096, min 16 p.signOns.toNat⟩ := by
  have ceiling : (p.levelCeiling.extractLsb' 0 12).toNat = p.levelCeiling.toNat % 4096 := by
    rw [BitVec.extractLsb'_toNat]
    simp
  unfold beaconEntry rolesOf flagByte
  rw [ceiling]

theorem takeBeacon_view {s : State} {src : Station} (hears : s.hears src = true) (p : BeaconPayload) :
    BeaconView (s.takeBeacon src p) s (s.roster.set src (beaconEntry p))
      (if p.freshStart ≠ 0 then s.presence.filter fun e => e.station ≠ src else s.presence) := by
  have other : src ≠ s.station := ((hears_iff s src).mp hears).2
  have changed (returned : Option Station) :
      BeaconView (State.changeRoster { s with echo := s.canEcho } src (fun _ => beaconEntry p) returned) s (s.roster.set src (beaconEntry p))
        s.presence := changeRoster_view (s := { s with echo := s.canEcho }) other (fun _ => beaconEntry p) returned
  unfold State.takeBeacon
  rw [if_pos hears]
  dsimp only
  by_cases fresh : p.freshStart ≠ 0
  · have flag : flagByte p.freshStart = true := decide_eq_true fresh
    rw [if_pos fresh, if_pos flag]
    exact purge_view src (changed _)
  · have flag : ¬flagByte p.freshStart = true := fun h => fresh (of_decide_eq_true h)
    rw [if_neg fresh, if_neg flag]
    exact changed _

theorem event_view {s u : State} {t : Moment} {effect : State → State} {roster : Vector RosterEntry 16} {presence : List Presence}
    (hu : u = s.event t effect) (h : BeaconView (effect (s.at t)) s roster presence) : BeaconView u s roster presence := by
  have kept := event_kept s t effect
  rw [← hu] at kept
  obtain ⟨hroster, hpresence, sup, sign, clock, slots⟩ := h
  exact ⟨(eq_of_kept_roster kept).trans hroster, (eq_of_kept_presence kept).trans hpresence, (eq_of_kept_sup kept).trans sup,
    (eq_of_kept_sign kept).trans sign, (eq_of_kept_clock kept).trans clock, (eq_of_kept_slots kept).trans slots⟩

/-! ## Frames that are not heard (R154, R160) -/

/-- A command is one event whose effect is nothing at all when the sender is not heard. -/
def Unheard (c : Instr) (t : Moment) (src : Station) : Prop :=
  ∀ s : State, s.hears src = false → ∃ effect, exec c s = take s t effect ∧ effect (s.at t) = s.at t

theorem takeAll_of_not_hears {s : State} {src : Station} (h : s.hears src = false) (effect : State → State) : s.takeAll src effect = s :=
  if_neg (Bool.eq_false_iff.mp h)

theorem takeOwn_of_not_hears {s : State} {src : Station} (h : s.hears src = false) (effect : State → State) : s.takeOwn src effect = s :=
  if_neg (Bool.eq_false_iff.mp h)

theorem frameOnBus_of_not_hears {s : State} {src : Station} (h : s.hears src = false) (dest : BitVec 5) : s.frameOnBus src dest = s := by
  unfold State.frameOnBus
  rw [takeOwn_of_not_hears h, takeAll_of_not_hears h, h, Bool.and_false]
  simp

theorem dataOut_of_not_hears {s : State} {src : Station} (h : s.hears src = false) (line flags : Byte) (chars : List Char7) :
    s.dataOut src line flags chars = s := by
  unfold State.dataOut
  dsimp only
  split
  · rw [h, Bool.false_and, Bool.false_and, if_neg Bool.false_ne_true, takeOwn_of_not_hears h]
  · rw [takeOwn_of_not_hears h]

theorem unheard_takeAll {c : Instr} {t : Moment} {src : Station} {effect : State → State} (h : ∀ s, exec c s = take s t fun s => s.takeAll src effect) :
    Unheard c t src := fun s hears => ⟨_, h s, takeAll_of_not_hears (s := s.at t) hears effect⟩

theorem unheard_takeOwn {c : Instr} {t : Moment} {src : Station} {effect : State → State} (h : ∀ s, exec c s = take s t fun s => s.takeOwn src effect) :
    Unheard c t src := fun s hears => ⟨_, h s, takeOwn_of_not_hears (s := s.at t) hears effect⟩

/-- An event without an effect, before the blocks are started, moves the clock alone. -/
theorem exec_of_still {c : Instr} {s : State} {t : Moment} {effect : State → State} (loading : s.loader ≠ .running)
    (e : exec c s = take s t effect) (same : effect (s.at t) = s.at t) : exec c s = .next (s.at t) := by
  have resting : (s.at t).settle (s.at t) false = s.at t := settle_of_not_started _ _ (decide_eq_false loading)
  rw [e]
  unfold take State.event
  rw [same, resting]

theorem exec_of_unheard {c : Instr} {t : Moment} {src : Station} (h : Unheard c t src) {s : State} (loading : s.loader ≠ .running) :
    exec c s = .next (s.at t) := by
  have deaf : s.hears src = false := Bool.eq_false_iff.mpr fun hears => loading ((hears_iff s src).mp hears).1
  obtain ⟨effect, e, same⟩ := h s deaf
  exact exec_of_still loading e same

theorem gives_of_unheard {c : Instr} {t : Moment} {src : Station} (h : Unheard c t src) {s : State} (own : src = s.station) : Gives c s (s.at t) := by
  have deaf : s.hears src = false := Bool.eq_false_iff.mpr fun hears => ((hears_iff s src).mp hears).2 own
  obtain ⟨effect, e, same⟩ := h s deaf
  exact ⟨_, e, by rw [event_kept, same]⟩

theorem unheard_survey (t : Moment) (src : Station) : Unheard (.survey t src) t src := fun _ hears =>
  ⟨id, if_neg (Bool.eq_false_iff.mp hears), rfl⟩

theorem unheard_beacon (t : Moment) (src : Station) (p : BeaconPayload) : Unheard (.beacon t src p) t src := fun s hears =>
  ⟨_, rfl, if_neg (Bool.eq_false_iff.mp (show (s.at t).hears src = false from hears))⟩

/-! ## Frames to this station alone in SILENT (R159) -/

/-- A command is one event that only withholds the echo when the bus is SILENT. -/
def Withheld (c : Instr) (t : Moment) (src : Station) : Prop :=
  ∀ s : State, s.hears src = true → s.canEcho = false → ∃ effect, exec c s = take s t effect ∧ effect (s.at t) = { s.at t with echo := false }

theorem withheld_takeOwn {c : Instr} {t : Moment} {src : Station} {effect : State → State} (h : ∀ s, exec c s = take s t fun s => s.takeOwn src effect) :
    Withheld c t src := fun s hears silent => ⟨_, h s, takeOwn_of_silent (s := s.at t) hears silent effect⟩

theorem dataOut_of_silent {s : State} {src : Station} (h : s.hears src = true) (silent : s.canEcho = false) (line flags : Byte)
    (chars : List Char7) : s.dataOut src line flags chars = { s with echo := false } := by
  unfold State.dataOut
  dsimp only
  split
  · rw [silent, Bool.and_false, Bool.false_and, if_neg Bool.false_ne_true, takeOwn_of_silent h silent]
  · rw [takeOwn_of_silent h silent]

theorem gives_of_withheld {c : Instr} {t : Moment} {src : Station} (h : Withheld c t src) {s : State} (hrun : s.loader = .running)
    (hsrc : src ≠ s.station) (silent : s.bus = .silent) : Gives c s { s.at t with echo := false } := by
  obtain ⟨effect, e, same⟩ := h s (hears_of_running hrun hsrc) (by rw [canEcho_eq hrun, silent]; rfl)
  exact ⟨_, e, by rw [event_kept, same]⟩

/-! ## Frames that no block takes -/

theorem frameOnBus_own (t : Moment) {src : Station} {dest : BitVec 5} {s : State} (hrun : s.loader = .running) (hsrc : src ≠ s.station)
    (own : dest.toNat = s.station.val) :
    GivesHeard (.frameOnBus t src dest) s
      (if s.bus = .silent then { s.at t with echo := false } else { (s.at t).heard src with echo := true }) := by
  have taken : (s.event t fun s => s.frameOnBus src dest).core = (s.event t fun s => s.takeOwn src id).core := by
    rw [event_core, event_core]
    exact congrArg State.core (if_pos (show dest.toNat = (s.at t).station.val from own))
  refine givesHeard_of_take rfl (taken.trans ?_)
  by_cases silent : s.bus = .silent
  · rw [if_pos silent, event_core, takeOwn_of_silent (hears_of_running (s := s.at t) hrun hsrc)]
    rw [canEcho_eq (s := s.at t) hrun]
    exact decide_eq_false fun h => h silent
  · rw [if_neg silent]
    exact event_takeOwn_core t hrun hsrc (by rw [canEcho_eq hrun]; exact decide_eq_true silent) fun h => h

theorem frameOnBus_others (t : Moment) {src : Station} {dest : BitVec 5} {s : State} (hrun : s.loader = .running) (hsrc : src ≠ s.station)
    (other : dest.toNat ≠ s.station.val) (valid : dest.toNat < 16 ∨ 30 ≤ dest.toNat) :
    GivesHeard (.frameOnBus t src dest) s { (s.at t).heard src with echo := decide (dest.toNat = 31 ∧ s.bus ≠ .silent) } := by
  have other : ¬dest.toNat = (s.at t).station.val := other
  refine givesHeard_of_take rfl ?_
  by_cases all : dest.toNat = 31
  · have taken : (s.event t fun s => s.frameOnBus src dest).core = (s.event t fun s => s.takeAll src id).core := by
      rw [event_core, event_core]
      exact congrArg State.core ((if_neg other).trans (if_pos all))
    rw [taken, event_takeAll_core (effect := id) t hrun hsrc fun h => h, canEcho_eq (s := s.at t) hrun]
    simp only [all, true_and]
    rfl
  · have allowed : (destValid dest && (s.at t).hears src) = true := by
      have small := dest.isLt
      rw [hears_of_running (s := s.at t) hrun hsrc, Bool.and_true]
      simp only [destValid, Bool.or_eq_true, decide_eq_true_eq]
      omega
    have taken : (s.at t).frameOnBus src dest = State.hear { s.at t with echo := false } src :=
      (if_neg other).trans ((if_neg all).trans (if_pos allowed))
    rw [event_core, taken, hear_core, heard_setEcho]
    simp only [all, false_and, decide_false]

/-- Settles O27. -/
theorem rosterFollowsFrames : Obligations.RosterFollowsFrames := by
  intro t src s
  refine ⟨fun p hrun hsrc => ?_, fun p hrun hsrc reserved => ?_, fun dest => ⟨frameOnBus_own t, frameOnBus_others t, ?_⟩⟩
  · refine ⟨_, rfl, ?_⟩
    rw [← beaconEntry_eq]
    exact event_view rfl (takeBeacon_view (s := s.at t) (hears_of_running hrun hsrc) p)
  · have ignored : State.noteRelease { (s.at t).heard src with echo := (s.at t).canEcho } src p =
        { (s.at t).heard src with echo := decide (s.bus ≠ .silent) } := by
      rw [canEcho_eq (s := s.at t) hrun]
      exact if_neg (by simpa [reasonKnown] using reserved)
    exact ignored ▸ release_gives_noteRelease t p hrun hsrc
  · intro line state flags minor serial arg minute chars beacon claim release reply f cut own
    refine ⟨fun c mem => ?_, fun hrun hsrc silent c mem => gives_of_withheld ?_ hrun hsrc silent, fun loading => ?_⟩
    · have unheard : Unheard c t src := by
        simp only [List.mem_cons, List.not_mem_nil, or_false] at mem
        rcases mem with rfl | rfl | rfl | rfl | rfl | rfl | rfl | rfl | rfl | rfl | rfl | rfl | rfl | rfl | rfl | rfl | rfl | rfl | rfl
        case inl => exact fun s hears => ⟨_, rfl, frameOnBus_of_not_hears (s := s.at t) hears dest⟩
        case inr.inl => exact unheard_beacon t src beacon
        case inr.inr.inr.inr.inl => exact unheard_survey t src
        case inr.inr.inr.inr.inr.inr.inr.inl => exact fun s hears => ⟨_, rfl, dataOut_of_not_hears (s := s.at t) hears line flags _⟩
        case inr.inr.inl | inr.inr.inr.inl | inr.inr.inr.inr.inr.inl => exact unheard_takeAll fun _ => rfl
        all_goals exact unheard_takeOwn fun _ => rfl
      exact ⟨exec_of_unheard unheard, gives_of_unheard unheard⟩
    · simp only [List.mem_cons, List.not_mem_nil, or_false] at mem
      rcases mem with rfl | rfl | rfl | rfl | rfl | rfl | rfl | rfl | rfl | rfl | rfl | rfl | rfl
      case inr.inl => exact fun s hears silent => ⟨_, rfl, dataOut_of_silent (s := s.at t) hears silent line flags _⟩
      all_goals exact withheld_takeOwn fun _ => rfl
    · have stopped : ¬(s.at t).started = true := fun h => loading (of_decide_eq_true h)
      refine ⟨fun foreign => exec_of_still loading rfl ?_, exec_of_still loading rfl (if_neg fun h => stopped h.1), exec_of_still loading rfl (if_neg stopped)⟩
      by_cases own : src = (s.at t).station
      · have idle : (s.at t).wire = none := foreign.resolve_left fun h => h own
        refine (if_pos own).trans ?_
        unfold State.ownLineState
        rw [idle]
      · refine (if_neg own).trans (takeAll_of_not_hears ?_ _)
        exact Bool.eq_false_iff.mpr fun hears => loading ((hears_iff _ src).mp hears).1

end Sys2Proof.Proofs.Roster
end

section
/-! Offers of charge records (R118, R120, R123). The closing work of an event only adds offers while an accountant is present, so a record offered keeps
its ack wait; from a queue without offers the oldest four are offered, each with its request. -/

namespace Sys2Proof.Proofs.Offers

open Sys2Proof Sys2Proof.Machine Sys2Proof.Proofs.Presence Sys2Proof.Proofs.Clock Sys2Proof.Proofs.Commands Sys2Proof.Proofs.Frames
open Sys2Proof.Proofs.Closing Sys2Proof.Proofs.Roster Sys2Proof.Proofs.SessionMoves

/-! ## What an offer keeps -/

theorem mem_offerOldest {now : Moment} {q : List Queued} {r : Queued} (h : r ∈ q) (offered : r.offered = true) : r ∈ offerOldest now q := by
  induction q with
  | nil => cases h
  | cons x q ih =>
    unfold offerOldest
    split
    · rcases List.mem_cons.mp h with rfl | h
      · exact List.mem_cons_self
      · exact List.mem_cons_of_mem _ (ih h)
    · next unoffered =>
      rcases List.mem_cons.mp h with rfl | h
      · exact absurd offered unoffered
      · exact List.mem_cons_of_mem _ h

theorem mem_offerNext {now : Moment} {q : List Queued} {r : Queued} (h : r ∈ q) (offered : r.offered = true) : r ∈ offerNext now q := by
  unfold offerNext
  split
  · exact mem_offerOldest h offered
  · exact h

/-- A record that is offered is not touched by the closing work while an accountant is present. -/
theorem settle_mem_offered {s : State} (started : s.started = true) (before : State) (every : Bool) (present : s.accountantPresent = true)
    {r : Queued} (h : r ∈ s.queue) (offered : r.offered = true) : r ∈ (s.settle before every).queue := by
  rw [settle_queue started, if_pos present]
  exact mem_offerNext (mem_offerNext (mem_offerNext (mem_offerNext h offered) offered) offered) offered

/-! ## From a queue without offers -/

/-- A record offered at a moment. -/
def offer (now : Moment) (r : Queued) : Queued := ⟨r.charge, true, some (now + ackWaitMs)⟩

/-- The oldest records of a queue offered at a moment, so many of them. -/
def offeredUpTo (now : Moment) (k : Nat) (q : List Queued) : List Queued := (q.take k).map (offer now) ++ q.drop k

theorem oldestUnoffered_offeredUpTo {q : List Queued} (h : ∀ r ∈ q, r.offered = false) (now : Moment) (k : Nat) :
    oldestUnoffered (offeredUpTo now k q) = q[k]? := by
  induction q generalizing k with
  | nil => simp [offeredUpTo, oldestUnoffered]
  | cons r q ih =>
    cases k with
    | zero => simp [offeredUpTo, oldestUnoffered, h r List.mem_cons_self]
    | succ k =>
      have tail := ih (fun x hx => h x (List.mem_cons_of_mem r hx)) k
      simpa [offeredUpTo, oldestUnoffered, offer] using tail

theorem offeredCount_offeredUpTo {q : List Queued} (h : ∀ r ∈ q, r.offered = false) (now : Moment) (k : Nat) :
    offeredCount (offeredUpTo now k q) = min k q.length := by
  induction q generalizing k with
  | nil => simp [offeredUpTo, offeredCount]
  | cons r q ih =>
    have rest : ∀ x ∈ q, x.offered = false := fun x hx => h x (List.mem_cons_of_mem r hx)
    cases k with
    | zero =>
      have none : q.filter Queued.offered = [] := List.filter_eq_nil_iff.mpr fun x hx => by simp [rest x hx]
      simp [offeredUpTo, offeredCount, h r List.mem_cons_self, none]
    | succ k =>
      have tail := ih rest k
      have cons : offeredUpTo now (k + 1) (r :: q) = offer now r :: offeredUpTo now k q := rfl
      rw [cons, offeredCount_cons, tail]
      simp only [offer, if_true, List.length_cons]
      omega

theorem offerOldest_offeredUpTo {q : List Queued} (h : ∀ r ∈ q, r.offered = false) (now : Moment) (k : Nat) :
    offerOldest now (offeredUpTo now k q) = offeredUpTo now (k + 1) q := by
  induction q generalizing k with
  | nil => simp [offeredUpTo, offerOldest]
  | cons r q ih =>
    cases k with
    | zero => simp [offeredUpTo, offerOldest, offer, h r List.mem_cons_self]
    | succ k =>
      have tail := ih (fun x hx => h x (List.mem_cons_of_mem r hx)) k
      have cons (j : Nat) : offeredUpTo now (j + 1) (r :: q) = offer now r :: offeredUpTo now j q := rfl
      rw [cons, cons, ← tail]
      rfl

theorem offeredUpTo_of_length_le {q : List Queued} {now : Moment} {k : Nat} (h : q.length ≤ k) : offeredUpTo now (k + 1) q = offeredUpTo now k q := by
  unfold offeredUpTo
  rw [List.take_of_length_le h, List.take_of_length_le (Nat.le_succ_of_le h), List.drop_of_length_le h, List.drop_of_length_le (Nat.le_succ_of_le h)]

/-- Below four offers, one more. -/
theorem offerNext_offeredUpTo {q : List Queued} (h : ∀ r ∈ q, r.offered = false) (now : Moment) {k : Nat} (hk : k < 4) :
    offerNext now (offeredUpTo now k q) = offeredUpTo now (k + 1) q := by
  unfold offerNext
  rw [oldestUnoffered_offeredUpTo h, offeredCount_offeredUpTo h, offerOldest_offeredUpTo h]
  by_cases more : k < q.length
  · have room : min k q.length < offerWindow := lt_of_le_of_lt (Nat.min_le_left _ _) hk
    rw [if_pos ⟨by simp [more], room⟩]
  · rw [if_neg fun c => more (by simpa using c.1), offeredUpTo_of_length_le (Nat.le_of_not_lt more)]

/-- Four are enough. -/
theorem offerNext_offeredUpTo_four {q : List Queued} (h : ∀ r ∈ q, r.offered = false) (now : Moment) :
    offerNext now (offeredUpTo now 4 q) = offeredUpTo now 4 q := by
  unfold offerNext
  rw [oldestUnoffered_offeredUpTo h, offeredCount_offeredUpTo h]
  refine if_neg fun c => ?_
  have more : 4 < q.length := by simpa using c.1
  have window : min 4 q.length < 4 := c.2
  omega

/-- Some offers have been made from the queue `q`, each with its request. -/
def OffersMade (now : Moment) (q : List Queued) (k : Nat) (s : State) : Prop :=
  s.now = now ∧ s.queue = offeredUpTo now k q ∧ ∀ j < k, ∀ r ∈ q[j]?, (s.req (.charge r.charge.serial)).pending = true

theorem offerOne_made {now : Moment} {q : List Queued} (h : ∀ r ∈ q, r.offered = false) {k : Nat} (hk : k < 4) {s : State}
    (made : OffersMade now q k s) : OffersMade now q (k + 1) s.offerOne := by
  obtain ⟨hnow, queue, pending⟩ := made
  refine ⟨(offerOne_now s).trans hnow, by rw [offerOne_queue, hnow, queue, offerNext_offeredUpTo h now hk], fun j hj r hr => ?_⟩
  unfold State.offerOne
  have oldest : oldestUnoffered s.queue = q[k]? := by rw [queue, oldestUnoffered_offeredUpTo h]
  have room : offeredCount s.queue < offerWindow := by
    rw [queue, offeredCount_offeredUpTo h]
    exact lt_of_le_of_lt (Nat.min_le_left _ _) hk
  rw [oldest]
  rcases Nat.lt_succ_iff_lt_or_eq.mp hj with lower | rfl
  · split
    · rw [if_pos room]; exact raise_keeps_pending _ _ _ (pending j lower r hr)
    · exact pending j lower r hr
  · have hr : q[j]? = some r := hr
    simp only [hr, if_pos room]
    exact raised_pending _ _

theorem updateOffers_made {s : State} (h : ∀ r ∈ s.queue, r.offered = false) (present : s.accountantPresent = true) :
    OffersMade s.now s.queue 4 s.updateOffers := by
  have none : OffersMade s.now s.queue 0 s := ⟨rfl, rfl, fun j hj => absurd hj (Nat.not_lt_zero j)⟩
  unfold State.updateOffers
  rw [if_pos present]
  exact offerOne_made h (by decide) (offerOne_made h (by decide) (offerOne_made h (by decide) (offerOne_made h (by decide) none)))

/-- A CONFIRM request raised leaves the offers made. -/
theorem raiseConfirms_made {now : Moment} {q : List Queued} {k : Nat} {s : State} (made : OffersMade now q k s) :
    OffersMade now q k s.raiseConfirms := by
  refine freeLines_induction (OffersMade now q k) _ (fun n u hu => ?_) (fun u d hu => hu) _ _ s made
  have updated (f : Session → Session) : OffersMade now q k (State.updSess { u with requestSerial := u.requestSerial + 1 } n f) := by
    unfold State.updSess
    split
    · exact hu
    · exact hu
  obtain ⟨hnow, queue, pending⟩ := updated fun x => { x with confirm := some ⟨u.requestSerial, some (u.now + 1000 * u.cfg.replyWait), false⟩ }
  unfold State.raiseConfirm
  exact ⟨(raise_now _ _).trans hnow, (raise_queue _ _).trans queue, fun j hj r hr => raise_keeps_pending _ _ _ (pending j hj r hr)⟩

/-! ## The obligation -/

theorem testHold_queue (s : State) : s.testHold.queue = s.queue ∧ s.testHold.now = s.now ∧ s.testHold.accountantPresent = s.accountantPresent := by
  have tested := testHold_keeps (g := fun u : State => (u.queue, u.now, u.accountantPresent)) (fun _ _ _ _ => rfl) (fun _ _ => rfl) (fun _ => rfl)
    (fun _ _ => rfl) s
  simpa only [Prod.mk.injEq] using tested

theorem reactRoster_made {s : State} (before : Vector RosterEntry 16) (returned : Option Station) (h : ∀ r ∈ s.queue, r.offered = false)
    (present : s.accountantPresent = true) : OffersMade s.now s.queue 4 (s.reactRoster before returned) := by
  obtain ⟨queue, now, accountant⟩ := testHold_queue (s.clearChannelHold (s.channelTurnedAbsent before))
  have queue : (s.clearChannelHold (s.channelTurnedAbsent before)).testHold.queue = s.queue := queue
  have now : (s.clearChannelHold (s.channelTurnedAbsent before)).testHold.now = s.now := now
  have made := updateOffers_made (s := (s.clearChannelHold (s.channelTurnedAbsent before)).testHold) (by rw [queue]; exact h) (accountant.trans present)
  rw [queue, now] at made
  unfold State.reactRoster
  dsimp only
  split
  · exact raiseConfirms_made made
  · exact made

/-- The beacon of an accountant, with no record offered before it. -/
theorem takeBeacon_made {s : State} {src : Station} (hears : s.hears src = true) {p : BeaconPayload} (accountant : p.roles.getLsbD 1 = true)
    (h : ∀ r ∈ s.queue, r.offered = false) : OffersMade s.now s.queue 4 (s.takeBeacon src p) := by
  have other : src ≠ s.station := ((hears_iff s src).mp hears).2
  have present : State.accountantPresent { s with echo := s.canEcho, roster := s.roster.set src (beaconEntry p) } = true := by
    refine (accountantPresent_iff _).mpr ⟨src, ?_⟩
    show (s.roster.set src (beaconEntry p))[src].accountant = true
    rw [vector_set_get_self]
    exact accountant
  have changed (returned : Option Station) :
      OffersMade s.now s.queue 4 (State.changeRoster { s with echo := s.canEcho } src (fun _ => beaconEntry p) returned) := by
    unfold State.changeRoster
    rw [if_neg other]
    exact reactRoster_made (s := { s with echo := s.canEcho, roster := s.roster.set src (beaconEntry p) }) s.roster returned h present
  unfold State.takeBeacon
  rw [if_pos hears]
  dsimp only
  split
  · exact changed _
  · exact changed _

theorem settle_made {now : Moment} {q : List Queued} {s : State} (h : ∀ r ∈ q, r.offered = false) (started : s.started = true)
    (present : s.accountantPresent = true) (made : OffersMade now q 4 s) (before : State) (every : Bool) :
    (s.settle before every).queue = offeredUpTo now 4 q ∧ ∀ r ∈ q.take 4, ((s.settle before every).req (.charge r.charge.serial)).pending = true := by
  obtain ⟨hnow, queue, pending⟩ := made
  have four : offerNext now (offeredUpTo now 4 q) = offeredUpTo now 4 q := offerNext_offeredUpTo_four h now
  refine ⟨by rw [settle_queue started, if_pos present, hnow, queue, four, four, four, four], fun r hr => ?_⟩
  obtain ⟨j, hj, e⟩ := List.mem_take_iff_getElem.mp hr
  exact settle_keeps_pending _ _ _ _ (pending j (lt_of_lt_of_le hj (Nat.min_le_left _ _)) r (List.getElem?_eq_some_iff.mpr ⟨_, e⟩))

theorem restartAck_unoffer (now : Moment) (serial : BitVec 8) (q : List Queued) :
    (restartAck now serial q).map Queued.unoffer = q.map Queued.unoffer := by
  unfold restartAck
  rw [List.map_map]
  refine List.map_congr_left fun r _ => ?_
  simp only [Function.comp_apply]
  split <;> rfl

theorem mem_restartAck {now : Moment} {q : List Queued} {r : Queued} (h : r ∈ q) (offered : r.offered = true) :
    ⟨r.charge, true, some (now + 5000)⟩ ∈ restartAck now r.charge.serial q := by
  refine List.mem_map.mpr ⟨r, h, ?_⟩
  rw [if_pos ⟨rfl, offered⟩, ← offered]
  rfl

theorem ackWaitOf_first {before after : List Queued} {q : Queued} (h : ∀ r ∈ before, r.charge.serial ≠ q.charge.serial) (offered : q.offered = true) :
    ackWaitOf (before ++ q :: after) q.charge.serial = q.ackWait := by
  have none : before.find? (fun r => decide (r.charge.serial = q.charge.serial)) = none :=
    List.find?_eq_none.mpr fun r hr => by simpa using h r hr
  unfold ackWaitOf
  rw [List.find?_append, none]
  simp [offered]

/-- The ack wait of an offered record runs out: its request is raised again, its wait begins anew. -/
theorem ackWaitExpiry_again {t d : Moment} {s : State} {q : Queued} {before after : List Queued} (hrun : s.loader = .running)
    (present : s.accountantPresent = true) (hq : s.queue = before ++ q :: after) (first : ∀ r ∈ before, r.charge.serial ≠ q.charge.serial)
    (offered : q.offered = true) (wait : q.ackWait = some d) (due : d ≤ max s.now t) :
    Leads (.ackWaitExpiry t q.charge.serial) s fun u =>
      (u.req (.charge q.charge.serial)).pending = true ∧ ⟨q.charge, true, some (max s.now t + 5000)⟩ ∈ u.queue ∧
        u.queue.map Queued.charge = s.queue.map Queued.charge ∧ u.kept = (s.at t).kept := by
  obtain ⟨v, hv⟩ : ∃ v, v = State.raise { s.at t with queue := restartAck (max s.now t) q.charge.serial s.queue } (.charge q.charge.serial) := ⟨_, rfl⟩
  have effect : (if fallenDue (ackWaitOf (s.at t).queue q.charge.serial) (s.at t).now then
      State.raise { s.at t with queue := restartAck (s.at t).now q.charge.serial (s.at t).queue } (.charge q.charge.serial) else s.at t) = v := by
    rw [hv]
    refine if_pos ?_
    have found : ackWaitOf (s.at t).queue q.charge.serial = some d := by
      show ackWaitOf s.queue q.charge.serial = some d
      rw [hq, ackWaitOf_first first offered, wait]
    rw [found]
    exact decide_eq_true due
  have kept : v.kept = (s.at t).kept := by
    rw [hv, kept_raise]
    exact kept_setQueue (s.at t) _ (restartAck_unoffer _ _ _)
  have queue : v.queue = restartAck (max s.now t) q.charge.serial s.queue := by rw [hv]; exact raise_queue _ _
  have mem : q ∈ s.queue := hq ▸ List.mem_append_right before List.mem_cons_self
  have running : v.started = true := decide_eq_true ((eq_of_kept_loader kept).trans hrun)
  have accountant : v.accountantPresent = true := by
    unfold State.accountantPresent
    rw [eq_of_kept_roster kept]
    exact present
  refine ⟨v.settle (s.at t) false, congrArg (fun w : State => Host.Outcome.next (w.settle (s.at t) false)) effect, ?_, ?_, ?_, ?_⟩
  · exact settle_keeps_pending _ _ _ _ (by rw [hv]; exact raised_pending _ _)
  · exact settle_mem_offered running _ _ accountant (by rw [queue]; exact mem_restartAck mem offered) rfl
  · exact eq_of_kept_charges (t := s.at t) ((settle_kept _ _ _).trans kept)
  · exact (settle_kept _ _ _).trans kept

/-- The CHARGE frame of an offered record is echoed: its wait begins anew. -/
theorem chargeEchoed_again {t : Moment} {s : State} {q : Queued} {w : WireFrame} {c : Charge} (hrun : s.loader = .running)
    (present : s.accountantPresent = true) (mem : q ∈ s.queue) (offered : q.offered = true) (hw : s.wire = some w) (body : w.body = .charge c)
    (same : c.serial = q.charge.serial) :
    Leads (.chargeEchoed t) s fun u =>
      u.wire = none ∧ (u.req w.req).strikes = 0 ∧ u.streak = (if w.dest = .all then 0 else s.streak) ∧
        ⟨q.charge, true, some (max s.now t + 5000)⟩ ∈ u.queue ∧ u.queue.map Queued.charge = s.queue.map Queued.charge ∧ u.sup = s.sup := by
  obtain ⟨v, hv⟩ : ∃ v, v = { (s.at t).delivered w with queue := restartAck (max s.now t) q.charge.serial s.queue } := ⟨_, rfl⟩
  have e : exec (.chargeEchoed t) s = .next (v.settle (s.at t) false) := by
    refine congrArg (fun w : State => Host.Outcome.next (w.settle (s.at t) false)) ?_
    have hw : (s.at t).wire = some w := hw
    dsimp only
    rw [hw]
    simp only [body]
    rw [hv, same]
    rfl
  have queue : v.queue = restartAck (max s.now t) q.charge.serial s.queue := by rw [hv]
  have running : v.started = true := by rw [hv]; exact decide_eq_true hrun
  have accountant : v.accountantPresent = true := by rw [hv]; exact present
  refine ⟨_, e, ?_, ?_, ?_, ?_, ?_, ?_⟩
  · rw [settle_wire, hv]; rfl
  · rw [settle_strikes, hv]; exact delivered_strikes (s.at t) w
  · rw [settle_streak, hv]; rfl
  · exact settle_mem_offered running _ _ accountant (by rw [queue]; exact mem_restartAck mem offered) rfl
  · have charges : (v.settle (s.at t) false).queue.map Queued.charge = v.queue.map Queued.charge := eq_of_kept_charges (settle_kept _ _ _)
    have unoffered := congrArg (List.map Queued.charge) (restartAck_unoffer (max s.now t) q.charge.serial s.queue)
    rw [List.map_map, List.map_map] at unoffered
    rw [charges, queue]
    exact unoffered
  · rw [settle_sup, hv]; rfl

theorem takeBeacon_running {s : State} {src : Station} (hears : s.hears src = true) {p : BeaconPayload} (accountant : p.roles.getLsbD 1 = true) :
    (s.takeBeacon src p).started = true ∧ (s.takeBeacon src p).accountantPresent = true := by
  obtain ⟨roster, -⟩ := takeBeacon_view hears p
  refine ⟨?_, (accountantPresent_iff _).mpr ⟨src, ?_⟩⟩
  · have loader := Loading.moved_loader (moved_takeBeacon s src p)
    exact decide_eq_true (loader.trans ((hears_iff s src).mp hears).1)
  · rw [roster, vector_set_get_self]
    exact accountant

/-- Settles O36. -/
theorem offersAreRepeatedUntilAcknowledged : Obligations.OffersAreRepeatedUntilAcknowledged := by
  refine ⟨?_, ?_, ?_, fun c s u hs h => exec_offersOk hs h⟩
  · intro t s q before after hrun accountant hq first offered
    have present : s.accountantPresent = true :=
      (accountantPresent_iff s).mpr (accountant.imp fun i h => (accountant_iff s i).mpr h)
    have mem : q ∈ s.queue := hq ▸ List.mem_append_right before List.mem_cons_self
    exact ⟨fun d wait due => ackWaitExpiry_again hrun present hq first offered wait due,
      fun w c hw body same => chargeEchoed_again hrun present mem offered hw body same⟩
  · intro t src p s hrun hsrc accountant none
    have hears : (s.at t).hears src = true := hears_of_running hrun hsrc
    obtain ⟨started, present⟩ := takeBeacon_running hears accountant
    exact ⟨_, rfl, settle_made none started present (takeBeacon_made hears accountant none) (s.at t) false⟩
  · intro t s d hrun timer due absent
    have effect : (if fallenDue (s.at t).beaconTimer (s.at t).now then (s.at t).beaconPeriod else s.at t) = (s.at t).beaconPeriod := by
      refine if_pos ?_
      have timer : (s.at t).beaconTimer = some d := timer
      rw [timer]
      exact decide_eq_true due
    have core := reactRoster_core { s.at t with beaconTimer := some ((s.at t).now + 10000), roster := agedRoster s.station s.roster } s.roster none
    have roster : (s.at t).beaconPeriod.roster = agedRoster s.station s.roster := (raise_roster _ _).trans (eq_of_core_roster core)
    have loader : (s.at t).beaconPeriod.loader = .running := ((raise_loader _ _).trans (eq_of_core_loader core)).trans hrun
    have queue : (s.at t).beaconPeriod.queue.map Queued.unoffer = s.queue.map Queued.unoffer := by
      refine (congrArg (List.map Queued.unoffer) (raise_queue _ _)).trans ?_
      exact (eq_of_core_queue core).trans rfl
    have nobody : ¬(s.at t).beaconPeriod.accountantPresent = true := fun h => by
      obtain ⟨i, hi⟩ := (accountantPresent_iff _).mp h
      rw [roster, agedRoster, mapTable_get] at hi
      have old := absent i
      split at hi
      · next own =>
        simp only [RosterEntry.accountant, RosterEntry.present, Bool.and_eq_true, decide_eq_true_eq] at hi
        have := old hi.2
        rw [if_pos own] at this
        omega
      · next own =>
        simp only [RosterEntry.accountant, RosterEntry.present, Bool.and_eq_true, decide_eq_true_eq] at hi
        have := old hi.2
        rw [if_neg own] at this
        omega
    refine ⟨(s.at t).beaconPeriod.settle (s.at t) false, congrArg (fun w : State => Host.Outcome.next (w.settle (s.at t) false)) effect, ?_⟩
    exact (settle_queue (decide_eq_true loader) _ _).trans ((if_neg nobody).trans queue)

end Sys2Proof.Proofs.Offers
end

section
/-! Proving runs (R17, R143 to R151). The closing work leaves a transmitter that sends, and that of a line that is on no call; the moves themselves are
read off case by case. -/

namespace Sys2Proof.Proofs.Proving

open Sys2Proof Sys2Proof.Machine Sys2Proof.Proofs.Lines Sys2Proof.Proofs.Closing Sys2Proof.Proofs.Frames Sys2Proof.Proofs.SessionMoves

/-! ## The closing work, by its operations -/

/-- What texts appended and transmitters started keep, the service keeps. -/
theorem serve_induction {P : State → Prop} (text : ∀ n s, P s → P (State.serveText s n)) (start : ∀ n s, P s → P (State.startTx s n))
    (draws : ∀ (s : State) k, P s → P { s with draws := k }) (k : Nat) {s : State} (h : P s) : P (State.serve k s) := by
  have once {s u : State} (hu : s.serveOnce = some u) (h : P s) : P u := by
    unfold State.serveOnce at hu
    split at hu
    · split at hu
      · cases hu
      · cases hu; exact eachLine_induction P _ start _ s h
    · cases hu; exact text _ s h
    · split at hu
      · cases hu
      · cases hu; exact text _ _ (draws s _ h)
  induction k generalizing s with
  | zero => exact h
  | succ k ih =>
    unfold State.serve
    split
    · exact h
    · next u hu => exact ih (once hu h)

/-- What texts taken keep, the test of the hold conditions keeps of a state that it holds of with the holds tested. -/
theorem testHold_induction {P : State → Prop} (text : ∀ n s t, P s → P (State.takeText s n t)) (draws : ∀ (s : State) k, P s → P { s with draws := k })
    {s : State} (h : P { s with sess := mapTable s.sess fun _ x => x.map s.holdTest }) : P s.testHold := by
  refine freeLines_induction P _ (fun n u hu => ?_) draws _ _ _ h
  have notice (u : State) (t : Text) (hu : P u) : P (u.noticeText n t) := by
    unfold State.noticeText
    split
    · exact text n u t hu
    · exact hu
  unfold State.noticeMessages
  exact notice u _ hu

/-! ## The transmitter -/

theorem updPath_tx (s : State) (m n : LineNo) {f : Path → Path} (h : (f s.path[m]).tx = s.path[m].tx) :
    (s.updPath m f).path[n].tx = s.path[n].tx := by
  unfold State.updPath State.setPath
  dsimp only
  rw [vector_set_get]
  split
  · next e => subst e; exact h
  · rfl

theorem takeText_tx (s : State) (m n : LineNo) (t : Text) : (s.takeText m t).path[n].tx = s.path[n].tx := by
  unfold State.takeText
  split
  · exact updPath_tx s m n (f := fun p => { p with slot := some t }) rfl
  · split
    · exact updPath_tx s m n (f := fun p => { p with outQ := p.outQ.append (textChars s.cfg t) }) rfl
    · exact updPath_tx s m n (f := fun p => { p with slot := some t }) rfl

theorem takeText_sup (s : State) (m : LineNo) (t : Text) : (s.takeText m t).sup = s.sup := by
  unfold State.takeText
  repeat' split
  all_goals rfl

theorem serveText_tx (s : State) (m n : LineNo) : (s.serveText m).path[n].tx = s.path[n].tx := by
  by_cases e : m = n
  · subst e; exact (serveText_path s m).2
  · rw [serveText_path_ne s e]

/-- Line `n`'s transmitter stands at `c`, and it is sending or the line is on no call. -/
def TxStands (n : LineNo) (c : Option (BitVec 8)) (s : State) : Prop := s.path[n].tx = c ∧ (c.isSome = true ∨ (s.st n).onCall = false)

theorem TxStands.of_same {n : LineNo} {c : Option (BitVec 8)} {s u : State} (h : TxStands n c s) (tx : u.path[n].tx = s.path[n].tx)
    (sup : u.sup = s.sup) : TxStands n c u :=
  ⟨tx.trans h.1, h.2.imp_right fun off => by rw [show u.st n = s.st n by unfold State.st; rw [sup]]; exact off⟩

theorem TxStands.startTx {n : LineNo} {c : Option (BitVec 8)} {s : State} (h : TxStands n c s) (m : LineNo) : TxStands n c (s.startTx m) := by
  refine h.of_same ?_ (startTx_sup s m)
  rw [startTx_path]
  split
  · next on =>
    obtain ⟨rfl, on⟩ := on
    have sends : s.path[m].tx ≠ none := by
      rcases h.2 with sends | off
      · rw [h.1]; exact fun e => by rw [e] at sends; cases sends
      · rw [on] at off; cases off
    rw [started_tx _ sends]
  · rfl

/-- The closing work leaves a transmitter that sends, and that of a line on no call. -/
theorem settle_tx {s : State} {n : LineNo} {c : Option (BitVec 8)} (h : TxStands n c s) (before : State) (every : Bool) :
    (s.settle before every).path[n].tx = c := by
  cases started : s.started with
  | false => rw [Commands.settle_of_not_started before every started]; exact h.1
  | true =>
    have texts (m : LineNo) (u : State) (t : Text) (hu : TxStands n c u) : TxStands n c (u.takeText m t) :=
      hu.of_same (takeText_tx u m n t) (takeText_sup u m t)
    have tested : TxStands n c s.testHold := testHold_induction texts (fun _ _ hu => hu) h
    have offers (u : State) (hu : TxStands n c u) : TxStands n c u.updateOffers := by
      refine hu.of_same (by rw [updateOffers_path]) ?_
      exact ClosingMoves.updateOffers (sup_closingMoves u.sup) u rfl
    have service : TxStands n c (served s) :=
      serve_induction (fun m u hu => hu.of_same (serveText_tx u m n) (serveText_sup u m)) (fun m u hu => hu.startTx m) (fun _ _ hu => hu) _
        (offers _ tested)
    have flow : (flowed s).path[n].tx = c := by
      refine eachLine_induction (fun u => u.path[n].tx = c) _ (fun m u hu => ?_) _ _ service.1
      obtain ⟨f, e⟩ := updateFlow_path m n u
      rw [e]
      exact hu
    have view := settle_eq_flowed (g := State.path) raise_path (fun s n r => closeCause_path s n r) (fun _ _ => rfl) started before every
    rw [view]
    exact flow

/-! ## Beginning and ending a run (O38) -/

theorem takeBegin_accepted {s : State} {n : LineNo} {b : BeginAsk} {rest : List BeginAsk} (hask : s.asks[n].begin = b :: rest)
    (st : s.st n = .idle ∨ s.st n = .out) :
    s.takeBegin n = ((s.setAsks n { s.asks[n] with begin := rest }).updSup n LineRec.enterProving).setRun n
      (Run.begin b (highestSpeed (s.group n)) s.now s.sup[n].cd) := by
  unfold State.takeBegin
  rw [hask]
  rcases st with st | st <;> simp only [st]

theorem takeBegin_refused {s : State} {n : LineNo} {b : BeginAsk} {rest : List BeginAsk} (hask : s.asks[n].begin = b :: rest)
    (idle : s.st n ≠ .idle) (out : s.st n ≠ .out) :
    s.takeBegin n = (s.setAsks n { s.asks[n] with begin := rest }).fillResult n ⟨b.station, .aborted, highestSpeed (s.group n), 0, 0, 0, false⟩ := by
  unfold State.takeBegin
  rw [hask]
  dsimp only
  split
  · next h => exact absurd h idle
  · next h => exact absurd h out
  all_goals rfl

theorem takeEnd_proving {s : State} {n : LineNo} {v : ProvingVerdict} (hask : s.asks[n].endRun = some v) (st : s.st n = .proving) :
    s.takeEnd n = (s.setAsks n { s.asks[n] with endRun := none }).updSup n fun l => l.leaveProving s.now s.run[n].origin v := by
  unfold State.takeEnd
  rw [hask]
  exact if_pos st

/-- Where a line goes as it leaves PROVING. -/
theorem leaveProving_spec (l : LineRec) (now : Moment) (o : Origin) (v : ProvingVerdict) :
    (l.leaveProving now o v).st = (if v = .pass ∧ o = .idle ∧ l.outPending = false then .idle else .out) ∧
      (l.leaveProving now o v).fault = decide (v ≠ .pass) ∧
      (l.leaveProving now o v).burst =
        (if (l.leaveProving now o v).st = .idle ∧ l.ri = true then some (l.burst.getD now) else none) := by
  unfold LineRec.leaveProving LineRec.enterIdle LineRec.enterOut
  by_cases pass : v = .pass
  · cases o <;> cases l.outPending <;> cases l.ri <;> simp [pass, LineRec.fresh]
  · simp [pass, LineRec.fresh]

/-- Settles O38. -/
theorem provingBeginsAndEnds : Obligations.ProvingBeginsAndEnds := by
  intro t n s
  refine ⟨fun b rest hask => ⟨fun st => ?_, fun idle out => ⟨?_, ?_⟩⟩, fun v hask st => ?_⟩
  · exact gives_of_eq rfl (takeBegin_accepted (s := s.at t) hask st)
  · refine gives_of_event rfl ((congrArg State.kept (takeBegin_refused (s := s.at t) hask idle out)).trans ?_)
    unfold State.fillResult
    rw [kept_raise]
    rfl
  · refine ⟨_, rfl, settle_keeps_pending _ _ _ _ ?_⟩
    refine (congrArg (fun u : State => (u.req (.runResult n)).pending) (takeBegin_refused (s := s.at t) hask idle out)).trans ?_
    exact raised_pending _ _
  · have left := takeEnd_proving (s := s.at t) hask st
    have sup : (s.event t fun s => s.takeEnd n).sup = s.sup.set n (s.sup[n].leaveProving (max s.now t) s.run[n].origin v) := by
      rw [State.event, settle_sup, left]
      rfl
    have self : (s.event t fun s => s.takeEnd n).sup[n] = s.sup[n].leaveProving (max s.now t) s.run[n].origin v := by rw [sup, vector_set_get_self]
    obtain ⟨st, fault, burst⟩ := leaveProving_spec s.sup[n] (max s.now t) s.run[n].origin v
    have after : (s.event t fun s => s.takeEnd n).st n = if v = .pass ∧ s.run[n].origin = .idle ∧ s.sup[n].outPending = false then .idle else .out :=
      (congrArg LineRec.st self).trans st
    refine ⟨_, rfl, after, by rw [self, fault], ?_, ?_, ?_, ?_, ?_, fun m hm => ?_⟩
    · rw [self, burst]
      exact if_congr (and_congr_left' (by rw [← self]; rfl)) rfl rfl
    · unfold State.dtr
      rw [after]
      split <;> rfl
    · unfold State.tst
      rw [after]
      split <;> rfl
    · rw [State.event, settle_run, left]; rfl
    · rw [State.event, settle_sign, left]; rfl
    · rw [sup, vector_set_get_ne _ _ (Ne.symm hm)]

/-! ## From WAITING to a verdict (O39) -/

/-- The first character of the pattern is FFh. -/
theorem first_character : charOfBits (patternBits 8 (BitVec.allOnes 9)).1 = 0xFF := by decide

theorem setRun_get (s : State) (n : LineNo) (r : Run) : (s.setRun n r).run[n] = r := by
  unfold State.setRun
  dsimp only
  rw [vector_set_get_self]

theorem beginRunning_eq (s : State) (n : LineNo) :
    s.beginRunning n = (s.setRun n { s.run[n] with
      phase := .running
      carrierWait := none
      qual := none
      runTimer := some (s.now + 1000 * s.run[n].duration)
      generator := (patternBits 8 (BitVec.allOnes 9)).2
      checker := 0
      loaded := 0 }).updPath n fun p => { p with tx := some 0xFF } := by
  unfold State.beginRunning State.sendPattern
  rw [setRun_get]
  dsimp only
  rw [first_character, setRun_setRun]

theorem updPath_get (s : State) (n : LineNo) (f : Path → Path) : (s.updPath n f).path[n] = f s.path[n] := by
  unfold State.updPath State.setPath
  dsimp only
  rw [vector_set_get_self]

theorem endRun_tx (s : State) (n : LineNo) (v : ProvingVerdict) : (s.endRun n v).path[n].tx = none := by
  unfold State.endRun State.updPath State.setPath
  dsimp only
  rw [vector_set_get_self]


/-- A run that ends by itself makes the end-proving request, and does what any end does. -/
theorem finishRun_eq (s : State) (n : LineNo) (v : ProvingVerdict) :
    s.finishRun n v = (s.endRun n v).setAsks n { s.asks[n] with endRun := some v } := by
  unfold State.finishRun
  dsimp only
  rw [endRun_asks]

theorem finishRun_asks (s : State) (n : LineNo) (v : ProvingVerdict) : (s.finishRun n v).asks[n].endRun = some v := by
  rw [finishRun_eq]
  unfold State.setAsks
  dsimp only
  rw [vector_set_get_self]

theorem finishRun_result (s : State) (n : LineNo) (v : ProvingVerdict) :
    (s.finishRun n v).result[n] =
      some ⟨s.run[n].station, v, s.run[n].speed, s.run[n].checked, s.run[n].errored, s.run[n].lockLosses, s.run[n].lockReached⟩ := by
  rw [finishRun_eq, setAsks_result, endRun_result, vector_set_get_self]

theorem finishRun_run (s : State) (n : LineNo) (v : ProvingVerdict) : (s.finishRun n v).run[n] = s.run[n].ended := by
  rw [finishRun_eq, setAsks_run, endRun_run, vector_set_get_self]

theorem finishRun_sup (s : State) (n : LineNo) (v : ProvingVerdict) : (s.finishRun n v).sup = s.sup := by
  rw [finishRun_eq, setAsks_sup, endRun_sup]

theorem finishRun_tx (s : State) (n : LineNo) (v : ProvingVerdict) : (s.finishRun n v).path[n].tx = none := by
  rw [finishRun_eq, setAsks_path, endRun_tx]

theorem finishRun_pending (s : State) (n : LineNo) (v : ProvingVerdict) : ((s.finishRun n v).req (.runResult n)).pending = true := by
  rw [finishRun_eq]
  exact endRun_pending_req s n v

theorem verdict_eq (r : Run) (threshold : Nat) :
    r.verdict threshold = if r.lockReached = false then .noLock else if r.errored ≤ threshold then .pass else .fail := by
  unfold Run.verdict
  cases r.lockReached <;> rfl

/-- Settles O39. -/
theorem provingRunsToAVerdict : Obligations.ProvingRunsToAVerdict := by
  intro t n s r now
  refine ⟨fun st phase cd good => ?_, fun c v ends => ?_⟩
  · have loop : (s.at t).loopGood n = true := by
      obtain ⟨b, hb, ran⟩ := good
      have hb : s.run[n].qual = some b := hb
      have ran : b + s.cfg.times.carrierQualify ≤ max s.now t := ran
      show (decide (s.st n = .proving) && decide (s.run[n].phase = .waiting) && s.sup[n].cd &&
        ranFor s.run[n].qual s.cfg.times.carrierQualify (max s.now t)) = true
      have phase : s.run[n].phase = .waiting := phase
      rw [st, phase, cd, hb]
      exact decide_eq_true ran
    have begun : (if (s.at t).loopGood n then (s.at t).beginRunning n else s.at t) = (s.at t).beginRunning n := if_pos loop
    refine ⟨gives_of_event rfl ((congrArg State.kept begun).trans ?_), ⟨_, rfl, ?_⟩⟩
    · rw [beginRunning_eq]
      exact kept_updPath _ n _ fun _ => rfl
    · refine settle_tx (c := some 0xFF) ⟨?_, .inl rfl⟩ _ _
      refine (congrArg (fun u : State => u.path[n].tx) (begun.trans (beginRunning_eq (s.at t) n))).trans ?_
      rw [updPath_get]
  · have found : ∃ u, exec c s = .next u ∧ u = ((s.at t).finishRun n v).settle (s.at t) false := by
      rcases ends with ⟨rfl, phase, ⟨d, wait, due⟩, rfl⟩ | ⟨rfl, phase, cd, ⟨b, drop, ran⟩, rfl⟩ | ⟨rfl, phase, ⟨d, timer, due⟩, rfl⟩
      · refine ⟨_, rfl, congrArg (fun u : State => u.settle (s.at t) false) (if_pos ⟨phase, ?_⟩)⟩
        have wait : (s.at t).run[n].carrierWait = some d := wait
        rw [wait]
        exact decide_eq_true due
      · refine ⟨_, rfl, congrArg (fun u : State => u.settle (s.at t) false) (if_pos ?_)⟩
        show (decide (s.run[n].phase = .running) && !s.sup[n].cd && ranFor s.run[n].dropout s.cfg.times.carrierLoss (max s.now t)) = true
        have phase : s.run[n].phase = .running := phase
        have drop : s.run[n].dropout = some b := drop
        rw [phase, cd, drop]
        exact decide_eq_true ran
      · refine ⟨_, rfl, (congrArg (fun u : State => u.settle (s.at t) false) (if_pos ⟨phase, ?_⟩)).trans ?_⟩
        · rw [verdict_eq]
          rfl
        · have timer : (s.at t).run[n].runTimer = some d := timer
          rw [timer]
          exact decide_eq_true due
    obtain ⟨u, e, rfl⟩ := found
    obtain ⟨w, hw⟩ : ∃ w, w = (s.at t).finishRun n v := ⟨_, rfl⟩
    have result := finishRun_result (s.at t) n v
    have run := finishRun_run (s.at t) n v
    have sup := finishRun_sup (s.at t) n v
    have tx := finishRun_tx (s.at t) n v
    have asks := finishRun_asks (s.at t) n v
    have pending := finishRun_pending (s.at t) n v
    rw [← hw] at e result run sup tx asks pending
    have ended : (w.settle (s.at t) false).run[n] = s.run[n].ended := by rw [settle_run]; exact run
    refine ⟨_, e, by rw [settle_result]; exact result, by rw [ended]; rfl, by rw [ended]; rfl, by rw [ended]; rfl, by rw [ended]; rfl, fun st => ?_,
      ?_, settle_keeps_pending _ _ _ _ pending, by rw [settle_sup]; exact sup⟩
    · refine settle_tx ⟨tx, .inr ?_⟩ _ _
      have same : w.st n = s.st n := congrArg (fun l : Vector LineRec 16 => l[n].st) sup
      rw [same, st]
      rfl
    · exact (congrArg Asks.endRun (eq_of_kept_asks (settle_kept w (s.at t) false) n)).trans asks

end Sys2Proof.Proofs.Proving
end

section
/-! Orders (R22 to R24, R138, R143, R162, R163). An order that passes both checks has its effect in the state with its sender heard; effects that respect
`State.core` are read off there, each by one case split. -/

namespace Sys2Proof.Proofs.Orders

open Sys2Proof Sys2Proof.Machine Sys2Proof.Proofs.Presence Sys2Proof.Proofs.Clock Sys2Proof.Proofs.Frames Sys2Proof.Proofs.Lines
open Sys2Proof.Proofs.Closing Sys2Proof.Proofs.Proving

/-! ## `State.core` under one update -/

section
variable {u v : State}

theorem core_setSup (h : u.core = v.core) (n : LineNo) (l : LineRec) : (u.setSup n l).core = (v.setSup n l).core :=
  congrArg (fun w : State => w.setSup n l) h

theorem core_setRun (h : u.core = v.core) (n : LineNo) (r : Run) : (u.setRun n r).core = (v.setRun n r).core :=
  congrArg (fun w : State => w.setRun n r) h

theorem core_setResult (h : u.core = v.core) (n : LineNo) (r : Option RunResult) : (u.setResult n r).core = (v.setResult n r).core :=
  congrArg (fun w : State => w.setResult n r) h

theorem core_setDrain (h : u.core = v.core) (b : Bool) : State.core { u with drain := b } = State.core { v with drain := b } :=
  congrArg (fun w : State => { w with drain := b }) h

theorem core_setOrderSlots (h : u.core = v.core) (x : Vector (Option OrderResult) 17) :
    State.core { u with orderSlots := x } = State.core { v with orderSlots := x } :=
  congrArg (fun w : State => { w with orderSlots := x }) h

theorem core_setAsks (h : u.core = v.core) (n : LineNo) {x y : Asks} (hx : x.others = y.others) : (u.setAsks n x).core = (v.setAsks n y).core := by
  have set (w : State) (z : Asks) : (w.setAsks n z).core = { w.core with asks := w.core.asks.set n z.others } := by
    have mapped : (w.asks.set n z).map Asks.others = (w.asks.map Asks.others).set n z.others := Vector.map_set ..
    simp only [State.core, State.kept, State.setAsks, mapped]
  rw [set, set, h, hx]

theorem core_updPath (h : u.core = v.core) (n : LineNo) {f : Path → Path} (hf : ∀ p q : Path, p.inward = q.inward → (f p).inward = (f q).inward) :
    (u.updPath n f).core = (v.updPath n f).core := by
  have set (w : State) : (w.updPath n f).core = { w.core with path := w.core.path.set n (f w.path[n]).inward } := by
    have mapped : (w.path.set n (f w.path[n])).map Path.inward = (w.path.map Path.inward).set n (f w.path[n]).inward := Vector.map_set ..
    simp only [State.core, State.kept, State.updPath, State.setPath, mapped]
  have path : u.path[n].inward = v.path[n].inward := by
    simpa [State.core, State.kept] using congrArg (fun w : State => w.path[n]) h
  rw [set, set, h, hf _ _ path]

theorem eq_of_core_asks (h : u.core = v.core) (n : LineNo) : u.asks[n].others = v.asks[n].others := by
  simpa [State.core, State.kept] using congrArg (fun w : State => w.asks[n]) h

theorem eq_of_core_st (h : u.core = v.core) (n : LineNo) : u.st n = v.st n := by
  unfold State.st
  rw [eq_of_core_sup h]

end

/-! ## An order taken -/

/-- An order's effect is alike in states that agree in `State.core`, and so is its outcome. -/
def Respects (f : State → State × Option OrderOutcome) : Prop :=
  ∀ u v : State, u.core = v.core → (f u).1.core = (f v).1.core ∧ (f u).2 = (f v).2

/-- What a line byte names: one line with its slot, or all lines with the last slot. -/
structure Names (line : Byte) (target : Option LineNo) (slot : Fin 17) : Prop where
  target : orderLine line = match target with
    | some n => .one n
    | none => .all
  slot : orderSlot line = slot
  line : resultLine line = line

theorem lineOf_of_eq {line : Byte} {n : LineNo} (h : line.toNat = n.val) : lineOf line = some n := by
  unfold lineOf
  rw [dif_pos (h ▸ n.isLt)]
  exact congrArg some (Fin.ext h)

theorem lineOf_of_large {line : Byte} (h : 16 ≤ line.toNat) : lineOf line = none := dif_neg (Nat.not_lt.mpr h)

theorem names_one {line : Byte} {n : LineNo} (h : line.toNat = n.val) : Names line (some n) n.castSucc := by
  have named := lineOf_of_eq h
  refine ⟨?_, ?_, ?_⟩
  · unfold orderLine; rw [named]
  · unfold orderSlot; rw [named]
  · unfold resultLine; rw [named]

theorem names_all : Names 255 none 16 := ⟨rfl, rfl, rfl⟩

/-- The sender heard, its frame echoed: where an order has its effect. -/
def takenFrom (s : State) (t : Moment) (src : Station) : State := { (s.at t).heard src with echo := true }

/-- What every order addressed to a running LC-16 with a bus has in common. -/
structure Comes (s : State) (t : Moment) (src : Station) : Prop where
  running : s.loader = .running
  other : src ≠ s.station
  bus : s.bus = .joining ∨ s.bus = .active

section
variable {s : State} {t : Moment} {src : Station} {kind : OrderKind} {line : Byte} {effect : OrderEffect}

theorem Comes.canEcho (h : Comes s t src) : s.canEcho = true := by
  rw [canEcho_eq h.running]
  rcases h.bus with bus | bus <;> rw [bus] <;> rfl

/-- The state in which the effect takes place agrees with `takenFrom`. -/
theorem Comes.hear_core (_ : Comes s t src) : (State.hear { s.at t with echo := true } src).core = (takenFrom s t src).core := by
  unfold takenFrom
  rw [← heard_setEcho]
  exact Machine.hear_core _ src

theorem Comes.takeOwn (h : Comes s t src) (effect : State → State) :
    (s.at t).takeOwn src effect = effect (State.hear { s.at t with echo := true } src) := by
  have echoes : (s.at t).canEcho = true := h.canEcho
  rw [takeOwn_of_hears (hears_of_running (s := s.at t) h.running h.other), if_pos echoes]

theorem takenFrom_roles (s : State) (t : Moment) (src : Station) : (takenFrom s t src).roster[src].roles = s.roster[src].roles :=
  heard_roles (s.at t) src src

@[simp] theorem heard_sup (s : State) (i : Station) : (s.heard i).sup = s.sup := by unfold State.heard; split <;> rfl
@[simp] theorem heard_run (s : State) (i : Station) : (s.heard i).run = s.run := by unfold State.heard; split <;> rfl
@[simp] theorem heard_result (s : State) (i : Station) : (s.heard i).result = s.result := by unfold State.heard; split <;> rfl
@[simp] theorem heard_asks (s : State) (i : Station) : (s.heard i).asks = s.asks := by unfold State.heard; split <;> rfl
@[simp] theorem heard_orderSlots (s : State) (i : Station) : (s.heard i).orderSlots = s.orderSlots := by unfold State.heard; split <;> rfl
@[simp] theorem heard_now (s : State) (i : Station) : (s.heard i).now = s.now := by unfold State.heard; split <;> rfl

theorem takenFrom_sup : (takenFrom s t src).sup = s.sup := heard_sup (s.at t) src
theorem takenFrom_run : (takenFrom s t src).run = s.run := heard_run (s.at t) src
theorem takenFrom_result : (takenFrom s t src).result = s.result := heard_result (s.at t) src
theorem takenFrom_asks : (takenFrom s t src).asks = s.asks := heard_asks (s.at t) src
theorem takenFrom_orderSlots : (takenFrom s t src).orderSlots = s.orderSlots := heard_orderSlots (s.at t) src
theorem takenFrom_now : (takenFrom s t src).now = max s.now t := heard_now (s.at t) src
theorem takenFrom_st (n : LineNo) : (takenFrom s t src).st n = s.st n := by unfold State.st; rw [takenFrom_sup]

theorem entitled_of_core {u : State} (h : u.core = (takenFrom s t src).core) :
    u.entitled src = (s.roster[src].roles.accountant || s.roster[src].roles.channel) := by
  have entry : u.roster[src] = (takenFrom s t src).roster[src] := by rw [eq_of_core_roster h]
  unfold State.entitled
  rw [entry, takenFrom_roles]

theorem fillSlot_core {u v : State} (h : u.core = v.core) (src : Station) (kind : OrderKind) (line : Byte) (o : OrderOutcome) :
    (u.fillSlot src kind line o).core =
      State.core { v with orderSlots := v.orderSlots.set (orderSlot line) (some ⟨src, kind, resultLine line, o⟩) } := by
  unfold State.fillSlot
  rw [core_raise, eq_of_core_orderSlots h]
  exact core_setOrderSlots h _

theorem fillSlot_pending (u : State) (src : Station) (kind : OrderKind) (line : Byte) (o : OrderOutcome) :
    ((u.fillSlot src kind line o).req (.orderResult (orderSlot line))).pending = true := raised_pending _ _

/-- An order that fills its slot in the state `u` it has come to, which agrees with `v`. -/
theorem answers_of_fillSlot {c : Instr} (e : exec c s = take s t fun s => s.order src kind line effect) {u v : State} {o : OrderOutcome}
    (filled : (s.at t).order src kind line effect = u.fillSlot src kind line o) (core : u.core = v.core) (slots : v.orderSlots = s.orderSlots) :
    GivesHeard c s { v with orderSlots := s.orderSlots.set (orderSlot line) (some ⟨src, kind, resultLine line, o⟩) } ∧
      Leads c s fun w => (w.req (.orderResult (orderSlot line))).pending = true := by
  refine ⟨givesHeard_of_take e ?_, ⟨_, e, settle_keeps_pending _ _ _ _ ?_⟩⟩
  · rw [event_core, filled, fillSlot_core core, slots]
  · exact (congrArg (fun w : State => (w.req (.orderResult (orderSlot line))).pending) filled).trans (fillSlot_pending u src kind line o)

/-- An order that is not of an entitled station only fills its slot. -/
theorem order_unentitled (h : Comes s t src) (plain : ¬(s.roster[src].roles.accountant = true ∨ s.roster[src].roles.channel = true)) :
    (s.at t).order src kind line effect = (State.hear { s.at t with echo := true } src).fillSlot src kind line .refusedEntitlement := by
  unfold State.order
  rw [h.takeOwn, entitled_of_core h.hear_core]
  exact if_neg fun e => plain (by simpa using e)

theorem order_bad (h : Comes s t src) (entitled : s.roster[src].roles.accountant = true ∨ s.roster[src].roles.channel = true)
    (bad : orderLine line = .bad) :
    (s.at t).order src kind line effect = (State.hear { s.at t with echo := true } src).fillSlot src kind line .refusedLine := by
  unfold State.order
  rw [h.takeOwn, entitled_of_core h.hear_core, if_pos (by simpa using entitled), bad]

theorem order_named (h : Comes s t src) (entitled : s.roster[src].roles.accountant = true ∨ s.roster[src].roles.channel = true)
    {target : Option LineNo} {slot : Fin 17} (names : Names line target slot) :
    (s.at t).order src kind line effect = fillOutcome src kind line (effect target (State.hear { s.at t with echo := true } src)) := by
  unfold State.order
  rw [h.takeOwn, entitled_of_core h.hear_core, if_pos (by simpa using entitled), names.target]
  cases target <;> rfl

/-- An order that passes both checks and answers at once. -/
theorem answers_of_effect {c : Instr} (e : exec c s = take s t fun s => s.order src kind line effect) (h : Comes s t src)
    (entitled : s.roster[src].roles.accountant = true ∨ s.roster[src].roles.channel = true) {target : Option LineNo} {slot : Fin 17}
    (names : Names line target slot) (respects : Respects (effect target)) {v : State} {o : OrderOutcome}
    (result : effect target (takenFrom s t src) = (v, some o)) (slots : v.orderSlots = s.orderSlots) :
    GivesHeard c s { v with orderSlots := s.orderSlots.set slot (some ⟨src, kind, line, o⟩) } ∧
      Leads c s fun w => (w.req (.orderResult slot)).pending = true := by
  obtain ⟨core, outcome⟩ := respects _ _ h.hear_core
  rw [result] at core outcome
  have filled : (s.at t).order src kind line effect =
      (effect target (State.hear { s.at t with echo := true } src)).1.fillSlot src kind line o := by
    rw [order_named h entitled names]
    unfold fillOutcome
    rw [outcome]
  have answers := answers_of_fillSlot e filled core slots
  rw [names.line] at answers
  have slot := names.slot
  subst slot
  exact answers

/-- An order that passes both checks and sends no RESULT now. -/
theorem gives_of_effect {c : Instr} (e : exec c s = take s t fun s => s.order src kind line effect) (h : Comes s t src)
    (entitled : s.roster[src].roles.accountant = true ∨ s.roster[src].roles.channel = true) {target : Option LineNo} {slot : Fin 17}
    (names : Names line target slot) (respects : Respects (effect target)) {v : State}
    (result : effect target (takenFrom s t src) = (v, none)) : GivesHeard c s v := by
  obtain ⟨core, outcome⟩ := respects _ _ h.hear_core
  rw [result] at core outcome
  refine givesHeard_of_take e ?_
  rw [event_core, order_named h entitled names]
  unfold fillOutcome
  rw [outcome]
  exact core

end

/-- Settles O47. -/
theorem ordersAreCheckedFirst : Obligations.OrdersAreCheckedFirst := by
  intro t src line arg s c kind hrun hsrc bus which filled entitled answers
  have comes : Comes s t src := ⟨hrun, hsrc, bus⟩
  obtain ⟨effect, e⟩ : ∃ effect, exec c s = take s t fun s => s.order src kind line effect := by
    rcases which with ⟨rfl, rfl⟩ | ⟨rfl, rfl⟩ | ⟨rfl, rfl⟩ | ⟨rfl, rfl⟩ | ⟨rfl, rfl⟩ | ⟨rfl, rfl⟩ | ⟨rfl, rfl⟩ | ⟨rfl, rfl⟩ | ⟨rfl, rfl⟩ <;> exact ⟨_, rfl⟩
  have shown : resultLine line = if line.toNat < 16 then line else 255 := by
    unfold resultLine lineOf
    by_cases small : line.toNat < 16
    · rw [dif_pos small, if_pos small]
    · rw [dif_neg small, if_neg small]
  have answer {o : OrderOutcome} (order : (s.at t).order src kind line effect = (State.hear { s.at t with echo := true } src).fillSlot src kind line o) :
      answers o := by
    have given := answers_of_fillSlot e order comes.hear_core takenFrom_orderSlots
    rw [shown] at given
    exact given
  refine ⟨fun plain => answer (order_unentitled comes plain), fun entitled large notAll => answer (order_bad comes entitled ?_)⟩
  unfold orderLine
  rw [lineOf_of_large large]
  exact if_neg notAll

end Sys2Proof.Proofs.Orders
end

section
/-! The service orders OUT, IN, PROVE, DRAIN and UNDRAIN (R22 to R24, R138, R143, R150). Each effect respects `State.core`; what it does to one line is a
case split on the line's state. -/

namespace Sys2Proof.Proofs.ServiceOrders

open Sys2Proof Sys2Proof.Machine Sys2Proof.Proofs.Presence Sys2Proof.Proofs.Frames Sys2Proof.Proofs.Lines Sys2Proof.Proofs.Proving
open Sys2Proof.Proofs.Orders

/-! ## The effects respect `State.core` -/

section
variable {u v : State}

theorem core_updSup (h : u.core = v.core) (n : LineNo) (f : LineRec → LineRec) : (u.updSup n f).core = (v.updSup n f).core := by
  have record : u.sup[n] = v.sup[n] := by rw [eq_of_core_sup h]
  unfold State.updSup
  rw [record]
  exact core_setSup h n _

theorem core_endRun (h : u.core = v.core) (n : LineNo) (verdict : ProvingVerdict) : (u.endRun n verdict).core = (v.endRun n verdict).core := by
  have run : u.run[n] = v.run[n] := by rw [eq_of_core_run h]
  have filled (r : RunResult) : (u.fillResult n r).core = (v.fillResult n r).core := by
    unfold State.fillResult
    rw [core_raise, core_raise]
    exact core_setResult h n _
  unfold State.endRun
  dsimp only
  rw [run]
  exact core_updPath (core_setRun (filled _) n _) n fun p q same => by
    simp only [Path.inward] at same ⊢
    exact congrArg (fun p : Path => { p with tx := none }) same

theorem core_takeEnd (h : u.core = v.core) (n : LineNo) : (u.takeEnd n).core = (v.takeEnd n).core := by
  have others := eq_of_core_asks h n
  have ask : u.asks[n].endRun = v.asks[n].endRun := (congrArg Asks.endRun others : u.asks[n].others.endRun = v.asks[n].others.endRun)
  have run : u.run[n] = v.run[n] := by rw [eq_of_core_run h]
  have asked : (u.setAsks n { u.asks[n] with endRun := none }).core = (v.setAsks n { v.asks[n] with endRun := none }).core :=
    core_setAsks h n (congrArg (fun a : Asks => { a with endRun := none }) others)
  unfold State.takeEnd
  rw [ask, eq_of_core_st h, run, eq_of_core_now h]
  cases v.asks[n].endRun with
  | none => exact h
  | some verdict =>
    dsimp only
    split
    · exact core_updSup asked n _
    · exact asked

theorem core_outProving (h : u.core = v.core) (n : LineNo) : (u.outProving n).core = (v.outProving n).core := by
  have run : u.run[n] = v.run[n] := by rw [eq_of_core_run h]
  unfold State.outProving
  rw [run]
  split
  · exact core_updSup (core_takeEnd h n) n _
  · have ended := core_endRun h n .aborted
    exact core_setAsks (core_updSup ended n _) n (congrArg (fun a : Asks => { a with endRun := none }) (eq_of_core_asks ended n))

theorem core_outLine (h : u.core = v.core) (n : LineNo) : (u.outLine n).core = (v.outLine n).core := by
  unfold State.outLine
  rw [eq_of_core_st h]
  cases v.st n with
  | idle | ringing | answering | signon | session | closing | hangup => exact core_updSup h n _
  | proving => exact core_outProving h n
  | out => exact h

theorem inRefused_of_core (h : u.core = v.core) (n : LineNo) : u.inRefused n = v.inRefused n := by
  unfold State.inRefused
  rw [eq_of_core_st h, eq_of_core_sup h]

theorem core_inLine (h : u.core = v.core) (n : LineNo) : (u.inLine n).core = (v.inLine n).core := by
  unfold State.inLine
  rw [eq_of_core_st h, eq_of_core_now h]
  split <;> exact core_updSup h n _

end

/-- What each step for a line keeps of two states' agreement, the steps for many lines keep. -/
theorem core_eachLine {f : LineNo → State → State} (hf : ∀ n {u v : State}, u.core = v.core → (f n u).core = (f n v).core) (ls : List LineNo)
    {u v : State} (h : u.core = v.core) : (eachLine ls f u).core = (eachLine ls f v).core := by
  induction ls generalizing u v with
  | nil => exact h
  | cons n ls ih => exact ih (hf n h)

theorem orderOutEffect_one (n : LineNo) (s : State) : orderOutEffect (some n) s = (s.outLine n, some (outOutcome (s.st n))) := rfl

theorem orderOutEffect_all (s : State) :
    orderOutEffect none s = (eachLine allLines (fun n s => s.outLine n) s,
      some (if allLines.any fun n => outOutcome (s.st n) = .queued then .queued else .done)) := rfl

theorem respects_orderOut (target : Option LineNo) : Respects (orderOutEffect target) := by
  intro u v h
  have st : u.st = v.st := funext fun n => eq_of_core_st h n
  cases target with
  | some n =>
    rw [orderOutEffect_one, orderOutEffect_one, st]
    exact ⟨core_outLine h n, rfl⟩
  | none =>
    have lines : (eachLine allLines (fun n s => s.outLine n) u).core = (eachLine allLines (fun n s => s.outLine n) v).core :=
      core_eachLine (fun n _ _ h => core_outLine h n) allLines h
    rw [orderOutEffect_all, orderOutEffect_all, st]
    refine ⟨?_, rfl⟩
    dsimp only
    exact lines

theorem orderInEffect_one (n : LineNo) (s : State) :
    orderInEffect (some n) s = if s.inRefused n then (s, some .refusedState) else (s.inLine n, some .done) := rfl

theorem orderInEffect_all (s : State) :
    orderInEffect none s = (eachLine (allLines.filter fun n => !s.inRefused n) (fun n s => s.inLine n) s, some .done) := rfl

theorem respects_orderIn (target : Option LineNo) : Respects (orderInEffect target) := by
  intro u v h
  have refused : u.inRefused = v.inRefused := funext fun n => inRefused_of_core h n
  cases target with
  | some n =>
    rw [orderInEffect_one, orderInEffect_one, refused]
    cases v.inRefused n with
    | true => exact ⟨h, rfl⟩
    | false => exact ⟨core_inLine h n, rfl⟩
  | none =>
    rw [orderInEffect_all, orderInEffect_all, refused]
    exact ⟨core_eachLine (f := fun n s => s.inLine n) (fun n _ _ h => core_inLine h n) _ h, rfl⟩

theorem respects_drain (b : Bool) (target : Option LineNo) : Respects (drainEffect b target) := by
  intro u v h
  exact ⟨core_setDrain h b, rfl⟩

/-- A begin-proving request made by an order. -/
def State.askProve (s : State) (n : LineNo) (b : BeginAsk) : State := s.setAsks n { s.asks[n] with begin := s.asks[n].begin ++ [b] }

theorem core_askProve {u v : State} (h : u.core = v.core) (n : LineNo) (b : BeginAsk) : (State.askProve u n b).core = (State.askProve v n b).core :=
  core_setAsks h n (congrArg (fun a : Asks => { a with begin := a.begin ++ [b] }) (eq_of_core_asks h n))

theorem proveEffect_one (src : Station) (d : Nat) (n : LineNo) (s : State) :
    proveEffect src d (some n) s =
      if s.st n = .idle ∧ s.result[n] = none then (State.askProve s n ⟨src, .idle, d⟩, none)
      else if s.st n = .out ∧ s.result[n] = none then (State.askProve s n ⟨src, .out, d⟩, none)
      else (s, some .refusedState) := by
  unfold proveEffect
  dsimp only
  cases s.result[n] with
  | some r => simp
  | none => cases s.st n <;> simp <;> rfl

theorem respects_prove (src : Station) (d : Nat) (target : Option LineNo) : Respects (proveEffect src d target) := by
  intro u v h
  cases target with
  | none => exact ⟨h, rfl⟩
  | some n =>
    rw [proveEffect_one, proveEffect_one, eq_of_core_st h, eq_of_core_result h]
    split
    · exact ⟨core_askProve h n _, rfl⟩
    · split
      · exact ⟨core_askProve h n _, rfl⟩
      · exact ⟨h, rfl⟩

/-! ## OUT and IN of one line -/

/-- Where OUT leaves a record whose run has ended by itself. -/
theorem leave_then_out (l : LineRec) (now : Moment) (o : Origin) (verdict : ProvingVerdict) :
    (l.leaveProving now o verdict).enterOut =
      { LineRec.fresh .out l.ri l.cd with
        fault := decide (verdict ≠ .pass), outPending := l.outPending && !decide (verdict = .pass ∧ o = .idle) } := by
  unfold LineRec.leaveProving LineRec.enterIdle LineRec.enterOut
  by_cases pass : verdict = .pass
  · cases o <;> cases l.outPending <;> simp [pass, LineRec.fresh]
  · simp [pass, LineRec.fresh]

/-- OUT of a line whose run has ended by itself. -/
theorem outProving_ended {s : State} {n : LineNo} {verdict : ProvingVerdict} (st : s.st n = .proving) (phase : s.run[n].phase = .none)
    (ask : s.asks[n].endRun = some verdict) :
    s.outProving n = (s.setAsks n { s.asks[n] with endRun := none }).setSup n
      ((s.sup[n].leaveProving s.now s.run[n].origin verdict).enterOut) := by
  unfold State.outProving
  rw [if_pos phase, takeEnd_proving ask st]
  unfold State.updSup
  rw [setSup_get, Machine.setSup_setSup]
  rfl

/-- OUT of a line whose run is at work. -/
theorem outProving_running {s : State} {n : LineNo} (phase : s.run[n].phase ≠ .none) :
    s.outProving n = ((s.endRun n .aborted).setSup n s.sup[n].enterOut).setAsks n { s.asks[n] with endRun := none } := by
  unfold State.outProving State.updSup
  rw [if_neg phase]
  dsimp only
  rw [endRun_sup, endRun_asks]

/-- OUT of one line, by its state. -/
theorem outLine_eq (s : State) (n : LineNo) :
    (s.st n = .idle → s.outLine n = s.setSup n s.sup[n].enterOut) ∧ (s.st n = .out → s.outLine n = s) ∧
      (s.st n = .proving → s.outLine n = s.outProving n) ∧
        (s.st n ≠ .idle → s.st n ≠ .out → s.st n ≠ .proving → s.outLine n = s.setSup n { s.sup[n] with outPending := true } ∧ outOutcome (s.st n) = .queued) := by
  unfold State.outLine State.updSup
  cases s.st n <;> simp [outOutcome]

theorem inLine_out {s : State} {n : LineNo} (st : s.st n = .out) :
    s.inLine n = s.setSup n
      { LineRec.fresh .idle s.sup[n].ri s.sup[n].cd with burst := if s.sup[n].ri then some (s.sup[n].burst.getD s.now) else none } := by
  unfold State.inLine
  rw [if_pos st]
  rfl

theorem inLine_pending {s : State} {n : LineNo} (st : s.st n ≠ .out) : s.inLine n = s.setSup n { s.sup[n] with outPending := false } := if_neg st

/-! ## The obligation -/

section
variable {s : State} {t : Moment} {src : Station} {line : Byte} {n : LineNo}

/-- An OUT order that ends a proving run at work. -/
theorem orderOut_aborts (comes : Comes s t src) (entitled : s.roster[src].roles.accountant = true ∨ s.roster[src].roles.channel = true)
    (hline : line.toNat = n.val) (arg : BitVec 16) (st : s.st n = .proving) (phase : s.run[n].phase ≠ .none) :
    Leads (.orderOut t src line arg) s fun u =>
      u.st n = .out ∧ u.sup[n].fault = s.sup[n].fault ∧ u.run[n].phase = .none ∧ u.asks[n].endRun = none ∧
        u.result[n] = some ⟨s.run[n].station, .aborted, s.run[n].speed, s.run[n].checked, s.run[n].errored, s.run[n].lockLosses, s.run[n].lockReached⟩ ∧
        (u.req (.runResult n)).pending = true ∧ u.orderSlots[n.castSucc] = some ⟨src, .out, line, .done⟩ ∧
        (u.req (.orderResult n.castSucc)).pending = true ∧ ∀ m : LineNo, m ≠ n → u.sup[m] = s.sup[m] := by
  have names := names_one hline
  obtain ⟨v, hv⟩ : ∃ v, v = ((takenFrom s t src).endRun n .aborted).setSup n s.sup[n].enterOut := ⟨_, rfl⟩
  have effect : orderOutEffect (some n) (takenFrom s t src) = (v.setAsks n { s.asks[n] with endRun := none }, some .done) := by
    have st : (takenFrom s t src).st n = .proving := (takenFrom_st n).trans st
    have phase : (takenFrom s t src).run[n].phase ≠ .none := by rw [takenFrom_run]; exact phase
    rw [orderOutEffect_one, (outLine_eq _ n).2.2.1 st, outProving_running phase, st, takenFrom_sup, takenFrom_asks, hv]
    rfl
  have slots : (v.setAsks n { s.asks[n] with endRun := none }).orderSlots = s.orderSlots := by
    rw [setAsks_orderSlots, hv, setSup_orderSlots, endRun_orderSlots, takenFrom_orderSlots]
  obtain ⟨⟨u, e, core⟩, ⟨u', e', pending⟩⟩ := answers_of_effect (c := .orderOut t src line arg) rfl comes entitled names (respects_orderOut _) effect slots
  cases e.symm.trans e'
  have sup : u.sup = s.sup.set n s.sup[n].enterOut := by
    refine (eq_of_core_sup core).trans ?_
    show v.sup = _
    rw [hv]
    show ((takenFrom s t src).endRun n .aborted).sup.set n s.sup[n].enterOut = _
    rw [endRun_sup, takenFrom_sup]
  have run : u.run[n] = s.run[n].ended := by
    rw [eq_of_core_run core]
    show v.run[n] = _
    rw [hv, setSup_run, endRun_run, takenFrom_run, vector_set_get_self]
  have result : u.result[n] = some ⟨s.run[n].station, .aborted, s.run[n].speed, s.run[n].checked, s.run[n].errored, s.run[n].lockLosses,
      s.run[n].lockReached⟩ := by
    rw [eq_of_core_result core]
    show v.result[n] = _
    rw [hv, setSup_result, endRun_result, takenFrom_run, vector_set_get_self]
  have asks : u.asks[n].endRun = none := by
    refine (congrArg Asks.endRun (eq_of_core_asks core n)).trans ?_
    show (v.asks.set n { s.asks[n] with endRun := none })[n].endRun = none
    rw [vector_set_get_self]
  have ended : (u.req (.runResult n)).pending = true := by
    have hear := comes.hear_core
    cases e
    refine settle_keeps_pending _ _ _ _ ?_
    refine (congrArg (fun w : State => (w.req (.runResult n)).pending) (order_named comes entitled names)).trans ?_
    refine raise_keeps_pending _ _ _ ?_
    have st : (State.hear { s.at t with echo := true } src).st n = .proving := (eq_of_core_st hear n).trans ((takenFrom_st n).trans st)
    have phase : (State.hear { s.at t with echo := true } src).run[n].phase ≠ .none := by rw [eq_of_core_run hear, takenFrom_run]; exact phase
    rw [orderOutEffect_one, (outLine_eq _ n).2.2.1 st, outProving_running phase]
    dsimp only
    unfold State.req
    rw [setAsks_reqs, setSup_reqs]
    exact endRun_pending_req _ n _
  refine ⟨_, e, ?_, ?_, by rw [run]; rfl, asks, result, ended, ?_, pending, fun m hm => by rw [sup, vector_set_get_ne _ _ (Ne.symm hm)]⟩
  · unfold State.st
    rw [sup, vector_set_get_self]
    rfl
  · rw [sup, vector_set_get_self]
    rfl
  · rw [eq_of_core_orderSlots core]
    exact vector_set_get_self _ _ _

end

/-- Settles O48. -/
theorem serviceOrdersActOnOneLine : Obligations.ServiceOrdersActOnOneLine := by
  intro t src line arg n s hrun hsrc bus entitled hline l base filled answers
  have comes : Comes s t src := ⟨hrun, hsrc, bus⟩
  have names := names_one hline
  have hst : (takenFrom s t src).st n = s.st n := takenFrom_st n
  have hsup : (takenFrom s t src).sup[n] = s.sup[n] := by rw [takenFrom_sup]
  have hslots : (takenFrom s t src).orderSlots = s.orderSlots := takenFrom_orderSlots
  have out {v : State} {o : OrderOutcome} (e : orderOutEffect (some n) (takenFrom s t src) = (v, some o)) (slots : v.orderSlots = s.orderSlots) :=
    answers_of_effect (c := .orderOut t src line arg) rfl comes entitled names (respects_orderOut _) e slots
  have in_ {v : State} {o : OrderOutcome} (e : orderInEffect (some n) (takenFrom s t src) = (v, some o)) (slots : v.orderSlots = s.orderSlots) :=
    answers_of_effect (c := .orderIn t src line arg) rfl comes entitled names (respects_orderIn _) e slots
  obtain ⟨whenIdle, whenOut, whenProving, whenOther⟩ := outLine_eq (takenFrom s t src) n
  rw [hst] at whenIdle whenOut whenProving whenOther
  refine ⟨fun st => ?_, fun st => ?_, fun idle other proving => ?_, fun st phase => orderOut_aborts comes entitled hline arg st phase, fun verdict st phase ask => ?_,
    fun st => ?_, fun st => ?_, ?_, ?_, fun st result => ?_, fun st => ?_⟩
  · have effect : orderOutEffect (some n) (takenFrom s t src) = ((takenFrom s t src).setSup n s.sup[n].enterOut, some .done) := by
      rw [orderOutEffect_one, whenIdle st, hst, st, hsup]
      rfl
    exact out effect hslots
  · have effect : orderOutEffect (some n) (takenFrom s t src) = (takenFrom s t src, some .done) := by
      rw [orderOutEffect_one, whenOut st, hst, st]
      rfl
    exact out effect hslots
  · obtain ⟨after, queued⟩ := whenOther idle other proving
    have effect : orderOutEffect (some n) (takenFrom s t src) = ((takenFrom s t src).setSup n { s.sup[n] with outPending := true }, some .queued) := by
      rw [orderOutEffect_one, after, hst, queued, hsup]
    exact out effect hslots
  · have effect : orderOutEffect (some n) (takenFrom s t src) =
        (((takenFrom s t src).setAsks n { s.asks[n] with endRun := none }).setSup n
          ((s.sup[n].leaveProving (max s.now t) s.run[n].origin verdict).enterOut), some .done) := by
      have ended := outProving_ended (s := takenFrom s t src) (hst.trans st) (by rw [takenFrom_run]; exact phase) (by rw [takenFrom_asks]; exact ask)
      rw [takenFrom_asks, takenFrom_run, takenFrom_now, hsup] at ended
      rw [orderOutEffect_one, whenProving st, hst, st, ended]
      rfl
    have given := out effect hslots
    rw [leave_then_out] at given
    exact given
  · have effect : orderInEffect (some n) (takenFrom s t src) = ((takenFrom s t src).setSup n
        { LineRec.fresh .idle s.sup[n].ri s.sup[n].cd with burst := if s.sup[n].ri then some (s.sup[n].burst.getD (max s.now t)) else none }, some .done) := by
      have notRefused : (takenFrom s t src).inRefused n = false := by unfold State.inRefused; rw [hst, st]; rfl
      rw [orderInEffect_one, notRefused, inLine_out (hst.trans st), hsup, takenFrom_now]
      rfl
    exact in_ effect hslots
  · have refused : (takenFrom s t src).inRefused n = !s.sup[n].outPending := by
      unfold State.inRefused
      rw [hst, hsup, decide_eq_true st, Bool.true_and]
    cases pending : s.sup[n].outPending with
    | true =>
      have effect : orderInEffect (some n) (takenFrom s t src) = ((takenFrom s t src).setSup n { s.sup[n] with outPending := false }, some .done) := by
        rw [orderInEffect_one, refused, pending, inLine_pending (hst ▸ st), hsup]
        rfl
      rw [if_pos rfl]
      exact in_ effect hslots
    | false =>
      have effect : orderInEffect (some n) (takenFrom s t src) = (takenFrom s t src, some .refusedState) := by
        rw [orderInEffect_one, refused, pending]
        rfl
      rw [if_neg Bool.false_ne_true]
      exact in_ effect hslots
  · exact answers_of_effect (c := .orderDrain t src line arg) rfl comes entitled names (respects_drain true _) rfl hslots
  · exact answers_of_effect (c := .orderUndrain t src line arg) rfl comes entitled names (respects_drain false _) rfl hslots
  · have result : (takenFrom s t src).result[n] = none := by rw [takenFrom_result]; exact result
    have asks : (takenFrom s t src).asks[n] = s.asks[n] := by rw [takenFrom_asks]
    have effect : proveEffect src (proveDuration arg) (some n) (takenFrom s t src) =
        (State.askProve (takenFrom s t src) n ⟨src, if s.st n = .idle then .idle else .out, proveDuration arg⟩, none) := by
      rw [proveEffect_one, hst]
      rcases st with st | st
      · rw [if_pos ⟨st, result⟩, if_pos st]
      · have notIdle : ¬s.st n = .idle := by rw [st]; decide
        rw [if_neg fun c => notIdle c.1, if_pos ⟨st, result⟩, if_neg notIdle]
    have given := gives_of_effect (c := .orderProve t src line arg) rfl comes entitled names (respects_prove src _ _) effect
    unfold State.askProve at given
    rw [asks] at given
    exact given
  · have refused : proveEffect src (proveDuration arg) (some n) (takenFrom s t src) = (takenFrom s t src, some .refusedState) := by
      have result : (takenFrom s t src).result[n] = s.result[n] := by rw [takenFrom_result]
      rw [proveEffect_one, hst, result]
      rcases st with ⟨idle, out⟩ | filled
      · rw [if_neg fun c => idle c.1, if_neg fun c => out c.1]
      · rw [if_neg fun c => filled c.2, if_neg fun c => filled c.2]
    exact answers_of_effect (c := .orderProve t src line arg) rfl comes entitled names (respects_prove src _ _) refused hslots

end Sys2Proof.Proofs.ServiceOrders
end

section
/-! The texts of NOTICE on queues that are not sound (R31, R47). The two statements range over every state, `PoolOk` or not. A queue without characters
whose read places are not 0 takes more blocks than its text has, and the free list, which stops at 0, then gives back more than it gave: another line's
waiting text finds room, or finds none. -/

namespace Sys2Proof.Proofs.UnsoundQueues

open Sys2Proof Sys2Proof.Machine Sys2Proof.Proofs.Orders

set_option maxRecDepth 100000

/-- A running station 3 on an active bus, station 15 a present accountant. -/
def running : State :=
  { State.reset with
    loader := .running
    station := 3
    bus := .active
    roster := State.reset.roster.set 15 ⟨⟨false, true, false, false⟩, 0, false, 0, 0⟩ }

/-- A path whose outbound queue holds no character and yet has places read. -/
def unsound (tx : Option (BitVec 8)) : Path := { Path.fresh with outQ := ⟨[], 1000⟩, tx := tx }

/-- A text of eighty characters. -/
def longText : Text := ⟨List.replicate 40 (.notice 0), none⟩

/-- Line 0 in SESSION with an unsound queue and an idle transmitter; line 1, which is sending, has a text waiting for more than the four free blocks. -/
def overflowing : State :=
  { ((running.setSup 0 (LineRec.fresh .session false true)).setPath 0 (unsound none)).setPath 1 { Path.fresh with slot := some longText, tx := some 0x41 } with
    free := 4 }

/-- What a function sees of the next state that a command leads to. -/
def after {α : Type} (c : Instr) (s : State) (f : State → α) : Option α :=
  match exec c s with
  | .next u => some (f u)
  | .fault _ => none
  | .refused _ => none

theorem after_of_next {α : Type} {c : Instr} {s u : State} (h : exec c s = .next u) (f : State → α) : after c s f = some (f u) := by
  unfold after
  rw [h]

/-- The waiting text of line 1 goes out at a NOTICE to line 0. -/
theorem overflow : after (.orderNotice 0 15 0 0) overflowing (fun u => u.path[(1 : LineNo)].slot) = some none := by decide

/-- Refutes O49: a NOTICE to line 0 with an unsound outbound queue makes room for the text that waits for line 1. -/
theorem not_operatorOrdersOnOneLine : ¬Obligations.OperatorOrdersOnOneLine := by
  intro h
  have rest : OutputAtRest overflowing := by
    unfold OutputAtRest
    decide
  obtain ⟨-, -, -, text, -⟩ := h 0 15 0 0 0 overflowing rfl (by decide) (.inr rfl) (.inl (by decide)) rfl
  obtain ⟨u, e, -, others⟩ := text 0 rfl rest
  obtain ⟨-, slot, -⟩ := others 1 (.inl (by decide))
  have waits : u.path[(1 : LineNo)].slot = some longText := slot.trans rfl
  have gone := (after_of_next e fun u => u.path[(1 : LineNo)].slot).symm.trans overflow
  rw [waits] at gone
  cases gone

/-! ## NOTICE to all lines -/

/-- Two lines in SESSION with unsound queues, both sending, and sixteen free blocks. -/
def starved : State :=
  { (((running.setSup 0 (LineRec.fresh .session false true)).setSup 1 (LineRec.fresh .session false true)).setPath 0 (unsound (some 0x41))).setPath 1
      (unsound (some 0x41)) with
    free := 16 }

/-- Of two lines in an order left open, one comes before the other. -/
theorem inFreeOrder_two (a b : LineNo) (f : LineNo → State → State) (s : State) :
    inFreeOrder [a, b] f s = f b (f a { s with draws := s.draws + 1 }) ∨ inFreeOrder [a, b] f s = f a (f b { s with draws := s.draws + 1 }) := by
  have order : pickFirst s.draws [a, b] = [a, b] ∨ pickFirst s.draws [a, b] = [b, a] := by
    unfold pickFirst
    rcases Nat.mod_two_eq_zero_or_one (Config.freePick s.draws) with e | e
    · exact .inl (by simp [e])
    · exact .inr (by simp [e])
  show freeLines 3 [a, b] f s = _ ∨ freeLines 3 [a, b] f s = _
  unfold freeLines
  rcases order with e | e
  · exact .inl (by rw [e]; rfl)
  · exact .inr (by rw [e]; rfl)

/-- The station once the sender of the NOTICE is heard. -/
def notified : State := State.hear { starved.at 0 with echo := true } 15

/-- The notice taken for two lines, one after the other, and the rest of the event. -/
def noticed (a b : LineNo) : State :=
  let text : LineNo → State → State := fun n s => s.noticeText n (operatorNotice 0)
  ((text b (text a { notified with draws := notified.draws + 1 })).fillSlot 15 .notice 255 .done).settle (starved.at 0) false

theorem noticed_second : (noticed 0 1).path[(1 : LineNo)].slot = some (operatorNotice 0) ∧ (noticed 1 0).path[(0 : LineNo)].slot = some (operatorNotice 0) := by
  constructor <;> decide

theorem exec_noticeAll : exec (.orderNotice 0 15 255 0) starved = .next (noticed 0 1) ∨ exec (.orderNotice 0 15 255 0) starved = .next (noticed 1 0) := by
  have comes : Comes starved 0 15 := ⟨rfl, by decide, .inr rfl⟩
  have lines : (allLines.filter fun n => notified.st n = .session) = [0, 1] := by decide
  have order : (starved.at 0).order 15 .notice 255 (noticeEffect 0) =
      (inFreeOrder [0, 1] (fun n s => s.noticeText n (operatorNotice 0)) notified).fillSlot 15 .notice 255 .done := by
    rw [order_named comes (.inl (by decide)) names_all]
    show State.fillSlot (inFreeOrder (allLines.filter fun n => notified.st n = .session) _ notified) _ _ _ _ = _
    rw [lines]
  have e : exec (.orderNotice 0 15 255 0) starved = .next (((starved.at 0).order 15 .notice 255 (noticeEffect 0)).settle (starved.at 0) false) := rfl
  rw [e, order]
  rcases inFreeOrder_two 0 1 (fun n s => s.noticeText n (operatorNotice 0)) notified with first | second
  · rw [first]; exact .inl rfl
  · rw [second]; exact .inr rfl

/-- Refutes O50: of two lines with unsound outbound queues the first to take the notice leaves no block for the second. -/
theorem not_ordersToAllLinesActOnEach : ¬Obligations.OrdersToAllLinesActOnEach := by
  intro h
  obtain ⟨-, -, -, -, text, -⟩ := h 0 15 0 starved rfl (by decide) (.inr rfl) (.inl (by decide))
  obtain ⟨u, e, -, taken, -⟩ := text 0 rfl (by decide)
  have first := ((taken 0 (by decide) (by decide)).2.2 (by decide) (by decide) (by decide)).1
  have second := ((taken 1 (by decide) (by decide)).2.2 (by decide) (by decide) (by decide)).1
  obtain ⟨late, late'⟩ := noticed_second
  rcases exec_noticeAll with e' | e'
  · cases e.symm.trans e'
    rw [late] at second
    cases second
  · cases e.symm.trans e'
    rw [late'] at first
    cases first

end Sys2Proof.Proofs.UnsoundQueues
end

section
/-! A restart by the pin and by an order (R25, R116, R170). The sessions that it ends leave their records in ascending order of line; a sender heard just
before changes nothing of a session that a record holds, the held mark apart. -/

namespace Sys2Proof.Proofs.Restart

open Sys2Proof Sys2Proof.Machine Sys2Proof.Proofs.Presence Sys2Proof.Proofs.Frames Sys2Proof.Proofs.Closing Sys2Proof.Proofs.Orders
open Sys2Proof.Proofs.Charges Sys2Proof.Proofs.SessionMoves Sys2Proof.Proofs.Commands Sys2Proof.Proofs.Loading

/-! ## The records of the sessions ended -/

/-- The record that a restart makes of a session. -/
def IsRecordOf (cfg : Configuration) (x : Session) (c : Charge) : Prop :=
  ∃ serial, c = chargeOf serial c.line (x.finish cfg) (x.reason.getD .restart)

theorem restartSession_cfg (n : LineNo) (s : State) : (s.restartSession n).cfg = s.cfg := by
  rcases restartSession_cases n s with ⟨-, e⟩ | ⟨x, r, -, e⟩ <;> rw [e]
  rfl

/-- The sessions of a list of lines leave their records in its order. -/
theorem restartSessions_added {ls : List LineNo} (nodup : ls.Nodup) (s : State) :
    ∃ added : List Charge,
      (eachLine ls State.restartSession s).queue.map Queued.charge = s.queue.map Queued.charge ++ added ∧
        added.map Charge.line = ls.filter (fun n => s.sess[n].isSome) ∧ ∀ c ∈ added, ∀ x ∈ s.sess[c.line], IsRecordOf s.cfg x c := by
  induction ls generalizing s with
  | nil => exact ⟨[], (List.append_nil _).symm, rfl, fun c hc => absurd hc List.not_mem_nil⟩
  | cons n ls ih =>
    obtain ⟨fresh, nodup⟩ := List.nodup_cons.mp nodup
    obtain ⟨added, queue, lines, records⟩ := ih nodup (s.restartSession n)
    have others {m : LineNo} (hm : m ∈ ls) : (s.restartSession n).sess[m] = s.sess[m] := restartSession_sess_ne (fun (e : n = m) => fresh (e ▸ hm)) s
    have rest : (ls.filter fun m => (s.restartSession n).sess[m].isSome) = ls.filter fun m => s.sess[m].isSome :=
      List.filter_congr fun m hm => by rw [others hm]
    have recorded : ∀ c ∈ added, ∀ x ∈ s.sess[c.line], IsRecordOf s.cfg x c := by
      intro c hc x hx
      have line : c.line ∈ ls := (List.mem_filter.mp (lines ▸ List.mem_map_of_mem hc : c.line ∈ ls.filter _)).1
      have record := records c hc x (by rw [others line]; exact hx)
      rwa [restartSession_cfg] at record
    rw [rest] at lines
    cases h : s.sess[n] with
    | none =>
      have same : s.restartSession n = s := RecordSerial.restartSession_of_none h
      rw [same] at queue
      refine ⟨added, ?_, by rw [lines, List.filter_cons_of_neg (by simp [h])], recorded⟩
      show (eachLine ls State.restartSession (s.restartSession n)).queue.map _ = _
      rw [same, queue]
    | some x =>
      have ends : s.restartSession n = (s.appendCharge n (x.finish s.cfg) (x.reason.getD .restart)).setSess n none := by
        unfold State.restartSession
        rw [h]
      obtain ⟨serial, appended⟩ : ∃ serial, (s.restartSession n).queue.map Queued.charge =
          s.queue.map Queued.charge ++ [chargeOf serial n (x.finish s.cfg) (x.reason.getD .restart)] := by
        rw [ends]
        exact ⟨freeSerial s.queue 33 s.recordSerial, by simp [State.setSess, State.appendCharge]⟩
      refine ⟨chargeOf serial n (x.finish s.cfg) (x.reason.getD .restart) :: added, ?_, ?_, ?_⟩
      · show (eachLine ls State.restartSession (s.restartSession n)).queue.map _ = _
        rw [queue, appended, List.append_assoc]
        rfl
      · rw [List.filter_cons_of_pos (by simp [h]), List.map_cons, lines]
        rfl
      · intro c hc y hy
        rcases List.mem_cons.mp hc with rfl | hc
        · have same : y = x := Option.some.inj ((Option.mem_def.mp hy).symm.trans h)
          rw [same]
          exact ⟨serial, rfl⟩
        · exact recorded c hc y hy

/-! ## What a session keeps when a station is heard -/

/-- A session less its hold and its confirmation. -/
def booked (x : Session) : Session := { x with hold := none, held := false, confirm := none }

/-- Two states whose sessions differ in hold and confirmation alone. -/
def SameBooks (u s : State) : Prop := ∀ n : LineNo, u.sess[n].map booked = s.sess[n].map booked

theorem holdTest_booked (s : State) (x : Session) : booked (s.holdTest x) = booked x := by
  unfold State.holdTest
  repeat' split
  all_goals rfl

theorem testHold_books (s : State) : SameBooks s.testHold s := by
  have sess : s.testHold.sess = mapTable s.sess fun _ x => x.map s.holdTest := by
    unfold State.testHold
    exact inFreeOrder_keeps State.sess _ (fun n u => noticeMessages_sess _ n u) (fun _ _ => rfl) _ _
  intro n
  rw [sess, mapTable_get]
  cases s.sess[n] with
  | none => rfl
  | some x => exact congrArg some (holdTest_booked s x)

theorem raiseConfirm_books (n : LineNo) (s : State) : SameBooks (s.raiseConfirm n) s := by
  intro m
  unfold State.raiseConfirm
  dsimp only
  rw [raise_sess, setClaims_sess]
  unfold State.updSess
  split
  · rfl
  · next x hx =>
    have hx : s.sess[n] = some x := hx
    show (s.sess.set n _)[m].map booked = _
    rw [vector_set_get]
    split
    · next e => subst e; rw [hx]; rfl
    · rfl

theorem raiseConfirms_books (s : State) : SameBooks s.raiseConfirms s := by
  refine freeLines_induction (fun u => SameBooks u s) _ (fun n u hu => ?_) (fun u k hu => hu) _ _ s fun n => rfl
  exact fun m => (raiseConfirm_books n u m).trans (hu m)

theorem reactRoster_books (s : State) (before : Vector RosterEntry 16) (returned : Option Station) : SameBooks (s.reactRoster before returned) s := by
  have offers (u : State) : u.updateOffers.sess = u.sess := by
    have one (u : State) : u.offerOne.sess = u.sess := by
      unfold State.offerOne
      repeat' split
      · rw [raise_sess]
      all_goals rfl
    unfold State.updateOffers
    split
    · rw [one, one, one, one]
    · rfl
  have tested : SameBooks (s.clearChannelHold (s.channelTurnedAbsent before)).testHold.updateOffers s := fun n => by
    rw [offers]
    exact testHold_books _ n
  unfold State.reactRoster
  dsimp only
  split
  · exact fun n => (raiseConfirms_books _ n).trans (tested n)
  · exact tested

theorem hear_books (s : State) (i : Station) : SameBooks (s.hear i) s := by
  unfold State.hear State.changeRoster
  split
  · exact fun n => rfl
  · exact reactRoster_books _ _ _

/-- A record of a session holds nothing of its hold but the held mark. -/
theorem record_of_books {cfg : Configuration} {x y : Session} (h : booked x = booked y) {c : Charge} (hc : IsRecordOf cfg x c) :
    c.user = y.user ∧ c.startMinute = (if y.clockUnset then none else y.startMinute) ∧ c.duration = y.duration ∧
      c.units = (y.finish cfg).units ∧ c.reason = y.reason.getD .restart ∧ c.provisional = y.provisional ∧
      c.lateConfirmed = y.lateConfirmed ∧ c.clockUnset = y.clockUnset ∧ c.timebase = y.timebase := by
  obtain ⟨serial, hc⟩ := hc
  have finish : booked (x.finish cfg) = booked (y.finish cfg) := by
    simp only [booked, Session.mk.injEq] at h
    simp only [booked, Session.finish, h]
  have reason : x.reason = y.reason := (congrArg Session.reason h : (booked x).reason = (booked y).reason)
  have view {α : Type} (f : Session → α) : f (booked (x.finish cfg)) = f (booked (y.finish cfg)) := congrArg f finish
  rw [hc]
  refine ⟨view Session.user, ?_, view Session.duration, view Session.units, congrArg (Option.getD · _) reason, view Session.provisional,
    view Session.lateConfirmed, view Session.clockUnset, view Session.timebase⟩
  exact view fun x => if x.clockUnset then none else x.startMinute

/-! ## What a restart leaves -/

/-- A state from which a restart leaves what it leaves from another. -/
structure RestartsAs (a s : State) : Prop where
  levels : a.sup = s.sup
  books : SameBooks a s
  charges : a.queue.map Queued.charge = s.queue.map Queued.charge
  cfg : a.cfg = s.cfg
  sessionSerial : a.sessionSerial = s.sessionSerial
  clock : a.clock = s.clock
  timebase : a.timebase = s.timebase

theorem restart_line (s : State) (n : LineNo) :
    s.restart.sup[n] = LineRec.fresh .hangup s.sup[n].ri s.sup[n].cd ∧ s.restart.sign[n] = none ∧ s.restart.sess[n] = none ∧
      s.restart.result[n] = none ∧ s.restart.run[n] = Run.fresh ∧ s.restart.path[n] = Path.fresh ∧ s.restart.asks[n] = Asks.fresh ∧
      s.restart.claims[n] = Claims.fresh := by
  refine ⟨?_, replicate_get _ n, replicate_get _ n, replicate_get _ n, replicate_get _ n, replicate_get _ n, replicate_get _ n, replicate_get _ n⟩
  show (mapTable s.sup fun _ l => LineRec.fresh .hangup l.ri l.cd)[n] = _
  rw [mapTable_get]

theorem restart_tables (s : State) :
    (∀ i : Station, s.restart.roster[i] = RosterEntry.fresh) ∧ (∀ i : Fin 17, s.restart.orderSlots[i] = none) ∧
      ∀ i : Fin 32, s.restart.slots[i] = ⟨false, 3⟩ := by
  refine ⟨fun i => replicate_get _ i, fun i => ?_, fun i => ?_⟩
  · show (Vector.replicate 17 (none : Option OrderResult))[i] = none
    simp
  · show (Vector.replicate 32 (⟨false, 3⟩ : SlotState))[i] = ⟨false, 3⟩
    simp

/-- The charge records after a restart. -/
theorem restart_charges {a s : State} (h : RestartsAs a s) :
    ∃ added : List Charge,
      a.restart.queue.map Queued.charge = s.queue.map Queued.charge ++ added ∧
        added.map Charge.line = allLines.filter (fun n => s.sess[n].isSome) ∧
        ∀ c ∈ added, ∀ x ∈ s.sess[c.line], ∃ y, a.sess[c.line] = some y ∧ booked y = booked x ∧ IsRecordOf s.cfg y c := by
  obtain ⟨added, queue, lines, records⟩ := restartSessions_added allLines_nodup a
  refine ⟨added, ?_, ?_, fun c hc x hx => ?_⟩
  · rw [restart_queue, List.map_map, ← h.charges, ← queue]
    rfl
  · rw [lines]
    refine List.filter_congr fun n _ => ?_
    have book := congrArg Option.isSome (h.books n)
    rwa [Option.isSome_map, Option.isSome_map] at book
  · have book := h.books c.line
    have hx : s.sess[c.line] = some x := hx
    rw [hx] at book
    obtain ⟨y, hy, same⟩ := Option.map_eq_some_iff.mp book
    have record := records c hc y hy
    rw [h.cfg] at record
    exact ⟨y, hy, same, record⟩

theorem restart_unoffered (s : State) : ∀ r ∈ s.restart.queue, r.offered = false ∧ r.ackWait = none := by
  intro r hr
  rw [restart_queue] at hr
  obtain ⟨q, -, rfl⟩ := List.mem_map.mp hr
  exact ⟨rfl, rfl⟩

/-- The parts that a restart keeps, and those that are no table. -/
theorem restart_scalars (s : State) :
    (s.restart.loader = .restart ∧ s.restart.free = 160 ∧ s.restart.presence = [] ∧ s.restart.reqs = [] ∧ s.restart.wire = none ∧
      s.restart.streak = 0 ∧ s.restart.rotation = 15 ∧ s.restart.bus = .silent) ∧
    (s.restart.freshAnnounced = false ∧ s.restart.quietTimer = none ∧ s.restart.refreshTimer = none ∧ s.restart.beaconTimer = none ∧
      s.restart.clashTimer = none ∧ s.restart.drain = false ∧ s.restart.counters = Counters.zero) ∧
    s.restart.sessionSerial = s.sessionSerial ∧ s.restart.clock = s.clock ∧ s.restart.timebase = s.timebase ∧
      s.restart.requestSerial = s.requestSerial ∧ s.restart.restartPin = s.restartPin := ⟨⟨rfl, rfl, rfl, rfl, rfl, rfl, rfl, rfl⟩,
  ⟨rfl, rfl, rfl, rfl, rfl, rfl, rfl⟩, rfl, rfl, rfl, rfl, rfl⟩

theorem restarted_of {a s : State} (h : RestartsAs a s) : Restarted s a.restart := by
  obtain ⟨added, charges, lines, records⟩ := restart_charges h
  have line := restart_line a
  have tables := restart_tables a
  have unoffered := restart_unoffered a
  have scalars := restart_scalars a
  generalize a.restart = u at *
  obtain ⟨⟨loader, free, presence, reqs, wire, streak, rotation, bus⟩, ⟨announced, quiet, refresh, beacon, clash, drain, counters⟩, sessionSerial,
    clock, timebase, -⟩ := scalars
  obtain ⟨roster, orderSlots, slots⟩ := tables
  refine ⟨loader, fun n => ?_, free, presence, roster, reqs, wire, streak, rotation, orderSlots, bus, announced, quiet, refresh, beacon, clash, drain,
    slots, counters, sessionSerial.trans h.sessionSerial, clock.trans h.clock, timebase.trans h.timebase, unoffered, added, charges, lines,
    fun c hc x hx => ?_⟩
  · obtain ⟨sup, sign, sess, result, run, path, asks, claims⟩ := line n
    refine ⟨?_, sign, sess, result, by rw [run]; rfl, run, path, asks, claims⟩
    rw [sup, h.levels]
    rfl
  · obtain ⟨y, -, same, record⟩ := records c hc x hx
    exact record_of_books same record

/-! ## The pin -/

theorem restarted_setPin {s u : State} (h : Restarted s u) (b : Bool) : Restarted s { u with restartPin := b } := h

theorem same_restartsAs (s : State) (t : Moment) : RestartsAs (s.at t) s := ⟨rfl, fun _ => rfl, rfl, rfl, rfl, rfl, rfl⟩

/-- The records behind those that stood hold the held and saturated marks of their sessions. -/
theorem restart_marks (s : State) (t : Moment) :
    ∀ c ∈ (s.at t).restart.queue.drop s.queue.length, ∀ x ∈ s.sess[c.charge.line],
      c.charge.held = x.held ∧ c.charge.saturated = (x.finish s.cfg).saturated := by
  obtain ⟨added, charges, -, records⟩ := restart_charges (same_restartsAs s t)
  generalize (s.at t).restart.queue = q at charges
  intro c hc x hx
  have mem : c.charge ∈ added := by
    have dropped : (q.drop s.queue.length).map Queued.charge = added := by
      rw [List.map_drop, charges, ← List.length_map (f := Queued.charge), List.drop_left]
    exact dropped ▸ List.mem_map_of_mem hc
  obtain ⟨y, hy, -, serial, record⟩ := records _ mem x hx
  have same : y = x := Option.some.inj (hy.symm.trans (Option.mem_def.mp hx))
  rw [record, same]
  exact ⟨rfl, rfl⟩

/-- During the loading after a power-up the pin only leaves its level. -/
theorem exec_restartPinAsserted_loading (t : Moment) {s : State} (free : s.restartPin = false) (loader : s.loader = .powerUp) :
    exec (.restartPinAsserted t) s = .next { s.at t with restartPin := true } := by
  show execRestartPinAsserted t s = _
  unfold execRestartPinAsserted
  rw [if_neg (by simp [free])]
  simp [loader]

/-- Settles O4: the records are those of `restartSessions_added`, in the order of the lines. -/
theorem restartPinKeepsChargesAndEndsCalls : Obligations.RestartPinKeepsChargesAndEndsCalls := by
  intro t s
  refine ⟨rfl, fun held => ?_, fun free loader => ?_, fun free loader => ?_⟩
  · exact if_pos held
  · exact exec_restartPinAsserted_loading t free loader
  · have event := RecordSerial.exec_restartPinAsserted t free loader
    have restarted := restarted_of (same_restartsAs s t)
    have serial : (s.at t).restart.requestSerial = s.requestSerial := (restart_scalars (s.at t)).2.2.2.2.2.1
    have marks := restart_marks s t
    generalize (s.at t).restart = v at *
    exact ⟨_, event, restarted_setPin restarted true, rfl, serial, marks⟩

/-! ## The order -/

theorem heard_kept_fields (s : State) (i : Station) :
    (s.heard i).sessionSerial = s.sessionSerial ∧ (s.heard i).requestSerial = s.requestSerial ∧ (s.heard i).clock = s.clock ∧
      (s.heard i).timebase = s.timebase ∧ (s.heard i).restartPin = s.restartPin := by
  unfold State.heard
  split <;> exact ⟨rfl, rfl, rfl, rfl, rfl⟩

theorem heard_restartsAs {s : State} {t : Moment} {src : Station} (comes : Comes s t src) :
    RestartsAs (State.hear { s.at t with echo := true } src) s ∧ (State.hear { s.at t with echo := true } src).restartPin = s.restartPin := by
  have core := comes.hear_core
  have books : SameBooks (State.hear { s.at t with echo := true } src) s := hear_books { s.at t with echo := true } src
  obtain ⟨sessionSerial, -, clock, timebase, pin⟩ := heard_kept_fields (s.at t) src
  generalize State.hear { s.at t with echo := true } src = a at core books
  have charges : a.queue.map Queued.charge = s.queue.map Queued.charge := by
    have := congrArg (List.map Queued.charge) (eq_of_core_queue core)
    rw [List.map_map, List.map_map] at this
    exact this.trans (congrArg (List.map Queued.charge) (heard_queue (s.at t) src))
  exact ⟨⟨(eq_of_core_sup core).trans takenFrom_sup, books, charges, (eq_of_core_cfg core).trans (heard_cfg (s.at t) src),
    (congrArg State.sessionSerial core : a.core.sessionSerial = _).trans sessionSerial, (eq_of_core_clock core).trans clock,
    (congrArg State.timebase core : a.core.timebase = _).trans timebase⟩, (congrArg State.restartPin core : a.core.restartPin = _).trans pin⟩

/-- Settles O51: the sender is heard first, which changes no session but in hold and confirmation, and the restart discards both. -/
theorem restartOrderRestarts : Obligations.RestartOrderRestarts := by
  intro t src line arg s hrun hsrc bus entitled named
  have comes : Comes s t src := ⟨hrun, hsrc, bus⟩
  have order : (s.at t).order src .restart line restartEffect = (State.hear { s.at t with echo := true } src).restart := by
    rcases named with one | rfl
    · exact order_named comes entitled (names_one (n := ⟨line.toNat, one⟩) rfl)
    · exact order_named comes entitled names_all
  obtain ⟨as, pin⟩ := heard_restartsAs comes
  have restarted := restarted_of as
  have scalars := restart_scalars (State.hear { s.at t with echo := true } src)
  have serial : s.roster[src].age < 3 → (State.hear { s.at t with echo := true } src).requestSerial = s.requestSerial := fun present => by
    have kept := hear_kept { s.at t with echo := true } src (decide_eq_true present)
    refine (eq_of_kept_requestSerial kept).trans ?_
    exact (heard_kept_fields { s.at t with echo := true } src).2.1
  generalize State.hear { s.at t with echo := true } src = a at *
  obtain ⟨⟨loader, -⟩, -, -, -, -, requestSerial, restartPin⟩ := scalars
  refine ⟨a.restart, ?_, restarted, restartPin.trans pin, fun present => requestSerial.trans (serial present)⟩
  have stopped : a.restart.started = false := by unfold State.started; rw [loader]; rfl
  refine congrArg Host.Outcome.next ((congrArg (fun u : State => u.settle (s.at t) false) order).trans ?_)
  exact settle_of_not_started _ _ stopped

end Sys2Proof.Proofs.Restart
end

section
/-! What is computed from the state at each moment: leads, counts, load, ceiling, make-busy conditions, slots, group outputs and alarms. -/

namespace Sys2Proof.Proofs.Flags

open Sys2Proof Sys2Proof.Machine Sys2Proof.Proofs.Closing Sys2Proof.Proofs.SessionMoves

/-! ## Stations -/

theorem channelPresent_iff (s : State) : s.channelPresent = true ↔ ∃ i : Station, s.roster[i].channel = true := by
  unfold State.channelPresent
  rw [List.any_eq_true]
  constructor
  · rintro ⟨r, hr, channel⟩
    obtain ⟨k, hk, rfl⟩ := List.mem_iff_getElem.mp hr
    exact ⟨⟨k, by simpa using hk⟩, by simpa using channel⟩
  · rintro ⟨i, channel⟩
    exact ⟨s.roster[i], by simp, channel⟩

theorem accountantPresent_false_iff (s : State) :
    s.accountantPresent = false ↔ ∀ i : Station, ¬(s.roster[i].age < 3 ∧ s.roster[i].roles.accountant = true) := by
  simp only [← Bool.not_eq_true, accountantPresent_iff, accountant_iff, not_exists]

theorem channelPresent_false_iff (s : State) :
    s.channelPresent = false ↔ ∀ i : Station, ¬(s.roster[i].age < 3 ∧ s.roster[i].roles.channel = true) := by
  simp only [← Bool.not_eq_true, channelPresent_iff, channel_iff, not_exists]

theorem roster_toList (s : State) : s.roster.toList = (List.finRange 16).map fun i => s.roster[i] :=
  List.ext_getElem (by simp) fun i h _ => by simp

/-! ## The ceiling in force -/

theorem leastOf_spec (dflt : Nat) {cs : List Nat} (h : cs ≠ []) : leastOf dflt cs ∈ cs ∧ ∀ c ∈ cs, leastOf dflt cs ≤ c := by
  cases cs with
  | nil => exact absurd rfl h
  | cons c cs =>
    show cs.foldl min c ∈ c :: cs ∧ ∀ d ∈ c :: cs, cs.foldl min c ≤ d
    clear h
    induction cs generalizing c with
    | nil => simp
    | cons d cs ih =>
      obtain ⟨mem, least⟩ := ih (min c d)
      refine ⟨?_, fun e he => ?_⟩
      · rcases List.mem_cons.mp mem with e | mem
        · rw [List.foldl_cons, e]
          rcases min_choice c d with m | m <;> simp [m]
        · exact List.mem_cons_of_mem _ (List.mem_cons_of_mem _ mem)
      · have first := least (min c d) List.mem_cons_self
        rcases List.mem_cons.mp he with rfl | he
        · exact first.trans (min_le_left _ _)
        rcases List.mem_cons.mp he with rfl | he
        · exact first.trans (min_le_right _ _)
        · exact least e (List.mem_cons_of_mem _ he)

theorem ceiling_of_no_accountant {s : State} (none : ∀ i : Station, ¬(s.roster[i].age < 3 ∧ s.roster[i].roles.accountant = true)) :
    s.ceiling = s.cfg.fallbackCeiling := by
  have empty : s.roster.toList.filter RosterEntry.accountant = [] := by
    rw [roster_toList, List.filter_map, List.map_eq_nil_iff, List.filter_eq_nil_iff]
    exact fun i _ accountant => none i ((accountant_iff s i).mp accountant)
  unfold State.ceiling
  rw [empty]
  rfl

theorem ceiling_of_accountant {s : State} {i : Station} (accountant : s.roster[i].age < 3 ∧ s.roster[i].roles.accountant = true) :
    s.ceiling ≤ s.roster[i].ceiling ∧
      ∃ j : Station, (s.roster[j].age < 3 ∧ s.roster[j].roles.accountant = true) ∧ s.ceiling = s.roster[j].ceiling := by
  have listed {j : Station} (h : s.roster[j].accountant = true) :
      s.roster[j].ceiling ∈ (s.roster.toList.filter RosterEntry.accountant).map RosterEntry.ceiling :=
    List.mem_map_of_mem (List.mem_filter.mpr ⟨by simp, h⟩)
  have mem := listed ((accountant_iff s i).mpr accountant)
  obtain ⟨attained, least⟩ := leastOf_spec s.cfg.fallbackCeiling (List.ne_nil_of_mem mem)
  refine ⟨least _ mem, ?_⟩
  obtain ⟨r, hr, ceiling⟩ := List.mem_map.mp attained
  obtain ⟨hr, holds⟩ := List.mem_filter.mp hr
  obtain ⟨k, hk, rfl⟩ := List.mem_iff_getElem.mp hr
  have inRange : k < 16 := by simpa using hk
  refine ⟨⟨k, inRange⟩, (accountant_iff s _).mp (by simpa using holds), ceiling.symm.trans ?_⟩
  simp

/-! ## Counts -/

theorem ownClaims_eq (s : State) (p : OwnClaim → Bool) : s.ownClaims p = (allLines.filter fun n => s.claims[n].own.any p).length := by
  unfold State.ownClaims countLines
  refine congrArg List.length (List.filter_congr fun n _ => ?_)
  cases s.claims[n].own <;> rfl

theorem standingTotal_eq (s : State) : s.standingTotal = (allLines.filter fun m => s.claims[m].own.isSome).length + s.presence.length := by
  unfold State.standingTotal
  rw [ownClaims_eq]
  refine congrArg (· + _) (congrArg List.length (List.filter_congr fun n _ => ?_))
  cases s.claims[n].own <;> rfl

theorem standingFor_eq (s : State) (user : Nat) :
    s.standingFor user =
      (allLines.filter fun m => s.claims[m].own.map OwnClaim.user = some user).length + (s.presence.filter fun e => e.user = user).length := by
  unfold State.standingFor
  rw [ownClaims_eq]
  refine congrArg (· + _) (congrArg List.length (List.filter_congr fun n _ => ?_))
  cases s.claims[n].own <;> simp

theorem announcedSignOns_eq (s : State) :
    s.announcedSignOns =
      (((List.finRange 16).filter fun i => s.roster[i].age < 3 ∧ s.roster[i].roles.line = true).map fun i => s.roster[i].signOns).sum := by
  unfold State.announcedSignOns
  rw [roster_toList, List.filter_map, List.map_map]
  refine congrArg (fun l => List.sum (List.map _ l)) (List.filter_congr fun i _ => ?_)
  simp [RosterEntry.lineStation, RosterEntry.present]

/-! ## Leads -/

theorem dtr_iff (s : State) (n : LineNo) :
    s.dtr n = true ↔ s.st n = .answering ∨ s.st n = .signon ∨ s.st n = .session ∨ s.st n = .closing ∨ s.st n = .proving := by
  unfold State.dtr
  cases s.st n <;> simp [LineState.dtr]

theorem tst_iff (s : State) (n : LineNo) : s.tst n = true ↔ s.st n = .proving := by
  unfold State.tst
  cases s.st n <;> simp [LineState.tst]

/-! ## Make-busy -/

theorem mb_of_busied {s : State} {n : LineNo} (h : s.st n = .out ∨ s.st n = .proving ∨ s.st n = .hangup) : s.mb n = true := by
  unfold State.mb
  rcases h with h | h | h <;> rw [h]

theorem mb_of_call {s : State} {n : LineNo} (h : s.st n = .answering ∨ s.st n = .signon ∨ s.st n = .session ∨ s.st n = .closing) :
    s.mb n = false := by
  unfold State.mb
  rcases h with h | h | h | h <;> rw [h]

theorem mb_of_free {s : State} {n : LineNo} (h : s.st n = .idle ∨ s.st n = .ringing) : s.mb n = s.madeBusy n := by
  unfold State.mb
  rcases h with h | h <;> rw [h]

theorem madeBusy_iff (s : State) (n : LineNo) :
    s.madeBusy n = true ↔
      s.drain = true ∨ s.bus ≠ .active ∨ (∀ i : Station, ¬(s.roster[i].age < 3 ∧ s.roster[i].roles.channel = true)) ∨
        (s.cfg.provisionalEnable = false ∧
          ((∀ i : Station, ¬(s.roster[i].age < 3 ∧ s.roster[i].roles.accountant = true)) ∨ s.cfg.noAccountant = true)) ∨
        s.ceiling ≤ s.load ∨ 32 - s.queue.length ≤ s.linesIn .session + s.linesIn .signon ∨ s.condG n = true := by
  rw [← channelPresent_false_iff, ← accountantPresent_false_iff]
  have unsent : s.condB = true ↔ s.bus ≠ .active := decide_eq_true_iff
  have full : s.condF = true ↔ 32 - s.queue.length ≤ s.linesIn .session + s.linesIn .signon := decide_eq_true_iff
  simp only [State.madeBusy, State.condA, unsent, State.condC, State.condD, State.condE, full, Bool.or_eq_true, Bool.and_eq_true, Bool.not_eq_true', decide_eq_true_eq, or_assoc]

/-! ## Slots and outputs -/

/-- The value of a signal of a line (Table 7-1). -/
theorem signal_value (s : State) (mb : Bool) (m : LineNo) (g : Signal) :
    (s.signalsWith mb m).value g =
      match g with
      | .busy => decide (s.st m ≠ .idle ∧ s.st m ≠ .out)
      | .out => decide (s.st m = .out)
      | .session => decide (s.st m = .session)
      | .fault => s.sup[m].fault
      | .mb => mb := by
  cases g <;> simp [State.signalsWith, Signals.value]

theorem signal_value_congr (s : State) {g : Signal} (h : g ≠ .mb) {a b : Bool} {m : LineNo} :
    (s.signalsWith a m).value g = (s.signalsWith b m).value g := by
  cases g with
  | mb => exact absurd rfl h
  | _ => rfl

/-- An output is its selected terms' disjunction, inverted where it is set up so. -/
theorem outputWith_iff (s : State) (mb : LineNo → Bool) (g : Fin 4) :
    s.outputWith mb g = true ↔
      ((∃ i : Fin 32, s.cfg.outputs[g].select.getLsbD i = true ∧ s.slotTerm mb i = true) ↔ s.cfg.outputs[g].invert = false) := by
  have any : ((List.finRange 32).any fun i => s.cfg.outputs[g].select.getLsbD i && s.slotTerm mb i) = true ↔
      ∃ i : Fin 32, s.cfg.outputs[g].select.getLsbD i = true ∧ s.slotTerm mb i = true := by simp
  unfold State.outputWith
  rw [← any]
  cases s.cfg.outputs[g].invert <;> simp

/-- No selected slot of a BUSY-mode output watches a local MB signal (R131). -/
theorem outputWith_busy {s : State} (cross : crossOk s.cfg) {g : Fin 4} (busy : s.cfg.outputs[g].busy = true) (f h : LineNo → Bool) :
    s.outputWith f g = s.outputWith h g := by
  have term (i : Fin 32) (selected : s.cfg.outputs[g].select.getLsbD i = true) : s.slotTerm f i = s.slotTerm h i := by
    unfold State.slotTerm
    dsimp only
    split
    · rfl
    · rfl
    · next n source =>
      have notMb : s.cfg.slots[i].signal ≠ .mb := fun mb => Bool.noConfusion (busy.symm.trans (cross.2 i g n source mb selected))
      rw [signal_value_congr s notMb]
  rw [Bool.eq_iff_iff, outputWith_iff, outputWith_iff]
  refine iff_congr (exists_congr fun i => and_congr_right fun selected => ?_) Iff.rfl
  rw [term i selected]

theorem condG_iff {s : State} (cross : crossOk s.cfg) (n : LineNo) :
    s.condG n = true ↔ ∃ g : Fin 4, s.cfg.outputs[g].busy = true ∧ s.cfg.outputs[g].busyLines.getLsbD n = true ∧ s.output g = true := by
  have any : s.condG n = true ↔ ∃ g : Fin 4, s.cfg.outputs[g].busy = true ∧ s.cfg.outputs[g].busyLines.getLsbD n = true ∧
      s.outputWith (fun _ => false) g = true := by
    unfold State.condG
    simp [and_assoc]
  rw [any]
  refine exists_congr fun g => and_congr_right fun busy => ?_
  rw [outputWith_busy cross busy _ s.mb]
  rfl

/-! ## Alarms -/

/-- The greatest level of the active causes in a list, over a level that stands. -/
theorem greatest_spec {α : Type} (active : α → Bool) (level : α → Nat) (l : List α) (k : Nat) :
    let top := l.foldl (fun m i => if active i then max m (level i) else m) k
    k ≤ top ∧ (∀ i ∈ l, active i = true → level i ≤ top) ∧ (top = k ∨ ∃ i ∈ l, active i = true ∧ top = level i) := by
  induction l generalizing k with
  | nil => simp
  | cons a l ih =>
    dsimp only [List.foldl_cons] at ih ⊢
    obtain ⟨above, levels, reached⟩ := ih (if active a then max k (level a) else k)
    generalize l.foldl _ _ = top at *
    by_cases on : active a = true
    · rw [if_pos on] at above reached
      refine ⟨by omega, fun i hi active => ?_, ?_⟩
      · rcases List.mem_cons.mp hi with rfl | hi
        · omega
        · exact levels i hi active
      · rcases reached with e | ⟨i, hi, active, e⟩
        · rcases max_choice k (level a) with m | m
          · exact .inl (e.trans m)
          · exact .inr ⟨a, List.mem_cons_self, on, e.trans m⟩
        · exact .inr ⟨i, List.mem_cons_of_mem _ hi, active, e⟩
    · rw [if_neg on] at above reached
      refine ⟨above, fun i hi active => ?_, ?_⟩
      · rcases List.mem_cons.mp hi with rfl | hi
        · exact absurd active on
        · exact levels i hi active
      · rcases reached with e | ⟨i, hi, active, e⟩
        · exact .inl e
        · exact .inr ⟨i, List.mem_cons_of_mem _ hi, active, e⟩

theorem alarmLevel_spec (s : State) :
    (∀ i : Fin 8, s.alarmCause i = true → s.cfg.alarmLevels[i] ≤ s.alarmLevel) ∧
      (s.alarmLevel = 0 ∨ ∃ i : Fin 8, s.alarmCause i = true ∧ s.alarmLevel = s.cfg.alarmLevels[i]) := by
  obtain ⟨-, levels, reached⟩ := greatest_spec s.alarmCause (fun i => s.cfg.alarmLevels[i]) (List.finRange 8) 0
  refine ⟨fun i active => levels i (List.mem_finRange i) active, reached.imp_right ?_⟩
  rintro ⟨i, -, active, e⟩
  exact ⟨i, active, e⟩

/-- Settles O5: one lemma per computed value. -/
theorem leadsAndMakeBusyFollowTheState : Obligations.LeadsAndMakeBusyFollowTheState := by
  intro s n accountant channel conditions signal term
  have term_eq (i : Fin 32) : term i = s.slotTerm s.mb i := by
    show (match s.cfg.slots[i].source with
      | .unused => false
      | .tag _ => _
      | .line m => _) = _
    unfold State.slotTerm
    dsimp only
    cases s.cfg.slots[i].source with
    | unused => rfl
    | tag _ => rfl
    | line m => exact (congrArg (· ^^ s.cfg.slots[i].invert) (signal_value s (s.mb m) m s.cfg.slots[i].signal)).symm
  have alarms := alarmLevel_spec s
  refine ⟨dtr_iff s n, tst_iff s n, mb_of_busied, fun free => ?_, mb_of_call, ceiling_of_no_accountant, fun i h => ceiling_of_accountant h,
    standingTotal_eq s, standingFor_eq s, ?_, fun g => ⟨?_, ?_⟩, fun cross => condG_iff cross n, Iff.rfl, decide_eq_true_iff, ?_, ?_,
    decide_eq_true_iff, decide_eq_true_iff, ?_, ?_, alarms.1, alarms.2, ?_⟩
  · rw [mb_of_free free]
    exact madeBusy_iff s n
  · unfold State.load
    rw [announcedSignOns_eq]
    rfl
  · simp only [term_eq]
    exact outputWith_iff s s.mb g
  · simp [State.gs, State.started, and_assoc]
  · exact (Iff.of_eq (Bool.not_eq_true' _)).trans (accountantPresent_false_iff s)
  · exact (Iff.of_eq (Bool.not_eq_true' _)).trans (channelPresent_false_iff s)
  · simp [State.alarmCause, mem_allLines]
  · simp [State.alarmCause]
  · simp [State.alm, State.started]

end Sys2Proof.Proofs.Flags
end

section
/-! A disconnect (R15, R16, R53, R72): what the end of a session and of a sign-on leaves stands in what the closing work of the event keeps. -/

namespace Sys2Proof.Proofs.Disconnect

open Sys2Proof Sys2Proof.Machine Sys2Proof.Proofs.Lines

/-! ## What one event leaves of its effect -/

theorem eq_of_kept_inward {u v : State} (h : u.kept = v.kept) (n : LineNo) : u.path[n].inward = v.path[n].inward := by
  have := congrArg (fun w : State => w.path[n]) h
  simpa [State.kept] using this

theorem eq_of_kept_metered {u v : State} (h : u.kept = v.kept) (n : LineNo) : u.sess[n].map Session.metered = v.sess[n].map Session.metered := by
  have := congrArg (fun w : State => w.sess[n]) h
  simpa [State.kept] using this

theorem eq_of_kept_others {u v : State} (h : u.kept = v.kept) (n : LineNo) : u.asks[n].others = v.asks[n].others := by
  have := congrArg (fun w : State => w.asks[n]) h
  simpa [State.kept] using this

theorem sess_none_of_kept {u v : State} (h : u.kept = v.kept) {n : LineNo} (hv : v.sess[n] = none) : u.sess[n] = none := by
  have := eq_of_kept_metered h n
  rw [hv] at this
  exact Option.map_eq_none_iff.mp this

theorem eq_of_kept_st {u v : State} (h : u.kept = v.kept) (n : LineNo) : u.st n = v.st n := by
  unfold State.st
  rw [eq_of_kept_sup h]

/-- A command that is one event leads to what its effect leads to, where the closing work keeps it. -/
theorem leads_of_take {c : Instr} {s v : State} {t : Moment} {effect : State → State} {p : State → Prop} (h : exec c s = take s t effect)
    (e : effect (s.at t) = v) (hp : p (v.settle (s.at t) false)) : Leads c s p :=
  ⟨_, h.trans (congrArg (fun w : State => Host.Outcome.next (w.settle (s.at t) false)) e), hp⟩

/-! ## The carrier gone -/

theorem carrierGone_iff (s : State) (n : LineNo) :
    s.carrierGone n = true ↔ (s.st n).onCall = true ∧ s.sup[n].cd = false ∧ ranFor s.sup[n].dropout s.cfg.times.carrierLoss s.now = true := by
  simp [State.carrierGone, and_assoc]

theorem ranFor_of_some {d : Option Moment} {b k now : Nat} (h : d = some b) (reached : b + k ≤ now) : ranFor d k now = true := by
  rw [h]
  exact decide_eq_true reached

theorem not_carrierGone {s : State} {n : LineNo} (h : s.sup[n].cd = true ∨ ∀ b ∈ s.sup[n].dropout, s.now < b + s.cfg.times.carrierLoss) :
    s.carrierGone n = false := by
  rw [Bool.eq_false_iff, Ne, carrierGone_iff]
  rintro ⟨-, cd, ran⟩
  rcases h with up | short
  · rw [up] at cd
    cases cd
  · cases dropout : s.sup[n].dropout with
    | none => rw [dropout] at ran; cases ran
    | some b =>
      rw [dropout] at ran
      exact absurd (of_decide_eq_true ran) (Nat.not_le.mpr (short b dropout))

/-! ## In SESSION -/

theorem disconnect_session {s : State} {n : LineNo} {x : Session} (hst : s.st n = .session) (hx : s.sess[n] = some x) :
    s.disconnect n = (State.endSession n x (x.reason.getD .carrier) s).hangup n := by
  unfold State.disconnect State.dropSession
  rw [hst, hx]

theorem appended_charges (s : State) (n : LineNo) (x : Session) (r : CloseReason) :
    (State.endSession n x r s).queue.map Queued.charge =
      s.queue.map Queued.charge ++ [chargeOf (freeSerial s.queue 33 s.recordSerial) n (x.finish s.cfg) r] := by
  rw [endSession_queue, appendCharge_queue, List.map_append]
  rfl

/-! ## In SIGNON -/

theorem disconnect_signon {s : State} {n : LineNo} {c : Context} (hst : s.st n = .signon) (hc : s.sign[n] = some c) :
    s.disconnect n =
      State.hangup
        ((if c.claimRaised = true ∧ c.phase ≠ .refusing then s.raiseRelease n ⟨c.user, c.sessionSerial.getD 0, .withdrawn⟩ else s).setSign n none) n := by
  have raised : (c.claimRaised && decide (c.phase ≠ .refusing)) = true ↔ c.claimRaised = true ∧ c.phase ≠ .refusing := by simp
  unfold State.disconnect State.dropContext
  rw [hst, hc]
  dsimp only
  rw [if_congr raised rfl rfl]

theorem sign_none_of_hangup {u v : State} {n : LineNo} (h : u.kept = ((v.setSign n none).hangup n).kept) : u.sign[n] = none := by
  have sign := eq_of_kept_sign h
  exact (congrArg (fun x : Vector (Option Context) 16 => x[n]) sign).trans (vector_set_get_self _ _ _)

/-- Settles O11: the session or the context ends, and the line hangs up. -/
theorem disconnectEndsTheCall : Obligations.DisconnectEndsTheCall := by
  intro t n s
  refine ⟨fun standing => gives_of_eq rfl ?_, fun b cd dropout reached => ?_⟩
  · exact if_neg (Bool.eq_false_iff.mp (not_carrierGone (s := s.at t) standing))
  have gone (call : (s.st n).onCall = true) : (s.at t).carrierGone n = true :=
    (carrierGone_iff (s.at t) n).mpr ⟨call, cd, ranFor_of_some dropout reached⟩
  refine ⟨fun x hst hx => ?_, fun c hst hc => ?_⟩
  · have effect : (if (s.at t).carrierGone n then (s.at t).disconnect n else s.at t) = _ := (if_pos (gone (by rw [hst]; rfl))).trans (disconnect_session (s := s.at t) hst hx)
    have sess := endSession_sess (s.at t) n x (x.reason.getD .carrier)
    have sign := endSession_sign (s.at t) n x (x.reason.getD .carrier)
    have sup := endSession_sup (s.at t) n x (x.reason.getD .carrier)
    have claims := endSession_claims (s.at t) n x (x.reason.getD .carrier)
    have charges := appended_charges (s.at t) n x (x.reason.getD .carrier)
    have pending := endSession_pending_req (s.at t) n x (x.reason.getD .carrier)
    generalize State.endSession n x _ (s.at t) = v at *
    refine leads_of_take rfl effect ?_
    have kept := settle_kept (v.hangup n) (s.at t) false
    have inQ := congrArg Path.inQ (eq_of_kept_inward kept n)
    have claims := (eq_of_kept_claims kept).trans claims
    have pending := settle_keeps_pending (v.hangup n) (s.at t) false (.release n) pending
    refine ⟨(eq_of_kept_st kept n).trans (hangup_st _ n), sess_none_of_kept kept ?_, ?_, ?_, ?_, pending, ⟨_, (eq_of_kept_charges kept).trans charges⟩,
      fun m hm => ⟨?_, ?_, ?_⟩⟩
    · rw [hangup_sess, sess, vector_set_get_self]
    · refine inQ.trans ?_
      show (v.hangup n).path[n].inQ = _
      rw [hangup_path_self]
      rfl
    · rw [claims, vector_set_get_self]
    · rw [claims, vector_set_get_self]
      rfl
    · rw [eq_of_kept_sup kept, hangup_sup_ne _ hm, sup]
      rfl
    · rw [eq_of_kept_sign kept, hangup_sign, sign]
      rfl
    · rw [claims, vector_set_get_ne _ _ (Ne.symm hm)]
      rfl
  · have effect : (if (s.at t).carrierGone n then (s.at t).disconnect n else s.at t) = _ := (if_pos (gone (by rw [hst]; rfl))).trans (disconnect_signon (s := s.at t) hst hc)
    by_cases raised : c.claimRaised = true ∧ c.phase ≠ .refusing
    · rw [if_pos raised] at effect
      have released := raiseRelease_pending_req (s.at t) n ⟨c.user, c.sessionSerial.getD 0, .withdrawn⟩
      have queue := raiseRelease_queue (s := s.at t) n ⟨c.user, c.sessionSerial.getD 0, .withdrawn⟩
      have claims := raiseRelease_claims (s.at t) n ⟨c.user, c.sessionSerial.getD 0, .withdrawn⟩
      generalize (s.at t).raiseRelease n ⟨c.user, c.sessionSerial.getD 0, .withdrawn⟩ = v at *
      refine leads_of_take rfl effect ?_
      have kept := settle_kept ((v.setSign n none).hangup n) (s.at t) false
      rw [if_pos raised]
      refine ⟨(eq_of_kept_st kept n).trans (hangup_st _ n), sign_none_of_hangup kept, (eq_of_kept_charges kept).trans ?_, ?_,
        settle_keeps_pending ((v.setSign n none).hangup n) (s.at t) false (.release n) released⟩
      · rw [hangup_queue, setSign_queue, queue]
        rfl
      · rw [eq_of_kept_claims kept, hangup_claims, setSign_claims, claims, vector_set_get_self]
    · rw [if_neg raised] at effect
      refine leads_of_take rfl effect ?_
      have kept := settle_kept (((s.at t).setSign n none).hangup n) (s.at t) false
      rw [if_neg raised]
      exact ⟨(eq_of_kept_st kept n).trans (hangup_st _ n), sign_none_of_hangup kept, (eq_of_kept_charges kept).trans rfl,
        (eq_of_kept_claims kept).trans rfl⟩

end Sys2Proof.Proofs.Disconnect
end

section
/-! Texts taken while output is at rest (R45, R46): the service that follows serves the text's line alone. And a text taken for a line that is sending,
whatever the other lines do: it stands whole behind the queue or waits in the slot. -/

namespace Sys2Proof.Proofs.Texts

open Sys2Proof Sys2Proof.Machine Sys2Proof.Proofs.Closing Sys2Proof.Proofs.SessionMoves Sys2Proof.Proofs.Proving

/-! ## The output of a line -/

/-- What of a line's path the service of texts and transmitters reads. -/
structure Output where
  inQ : Queue
  outQ : Queue
  slot : Option Text
  tx : Option (BitVec 8)
  owed : Option FlowChar
  paused : Bool

/-- The output of a path. -/
def output (p : Path) : Output := ⟨p.inQ, p.outQ, p.slot, p.tx, p.owed, p.paused⟩

section
variable {p q : Path} (h : output p = output q)
include h

theorem output_inQ : p.inQ = q.inQ := congrArg Output.inQ h
theorem output_outQ : p.outQ = q.outQ := congrArg Output.outQ h
theorem output_slot : p.slot = q.slot := congrArg Output.slot h
theorem output_tx : p.tx = q.tx := congrArg Output.tx h
theorem output_owed : p.owed = q.owed := congrArg Output.owed h
theorem output_paused : p.paused = q.paused := congrArg Output.paused h

/-- A started transmitter takes what its output gives (R44). -/
theorem output_started : output (Path.started p) = output (Path.started q) := by
  have inQ := output_inQ h
  have outQ := output_outQ h
  have slot := output_slot h
  have tx := output_tx h
  have owed := output_owed h
  have paused := output_paused h
  unfold Path.started
  rw [outQ, tx, owed, paused]
  split <;> simp only [output, inQ, outQ, slot, tx, owed, paused]

end

/-- A state whose output is that of another, and of whose sessions none is about to enter hold. -/
structure SameOutput (s v : State) : Prop where
  path : ∀ m : LineNo, output v.path[m] = output s.path[m]
  free : v.free = s.free
  cfg : v.cfg = s.cfg
  call : ∀ m, (v.st m).onCall = (s.st m).onCall
  holds : ∀ m, v.entersHold m = false
  replaced : v.counters.noticesReplaced = s.counters.noticesReplaced

section
variable {s v : State}

theorem group_congr (h : v.cfg = s.cfg) (m : LineNo) : v.group m = s.group m := by
  exact congrArg (fun c : Configuration => c.groups[c.lineGroup[m]]) h

theorem outRoom_congr {m : LineNo} (path : output v.path[m] = output s.path[m]) (free : v.free = s.free) (cfg : v.cfg = s.cfg) :
    v.outRoom m = s.outRoom m := by
  unfold State.outRoom Path.held
  dsimp only
  rw [group_congr cfg, free, output_inQ path, output_outQ path]

theorem textReady_congr {m : LineNo} (path : output v.path[m] = output s.path[m]) (free : v.free = s.free) (cfg : v.cfg = s.cfg) :
    v.textReady m = s.textReady m := by
  unfold State.textReady State.roomAtMost
  dsimp only
  rw [outRoom_congr path free cfg, group_congr cfg, free, cfg, output_inQ path, output_outQ path, output_tx path, output_slot path]

theorem txReady_congr {m : LineNo} (path : output v.path[m] = output s.path[m]) (call : (v.st m).onCall = (s.st m).onCall) :
    v.txReady m = s.txReady m := by
  unfold State.txReady
  dsimp only
  rw [call, output_tx path, output_owed path, output_paused path, output_outQ path]

theorem SameOutput.textReady (h : SameOutput s v) (m : LineNo) : v.textReady m = s.textReady m := textReady_congr (h.path m) h.free h.cfg
theorem SameOutput.txReady (h : SameOutput s v) (m : LineNo) : v.txReady m = s.txReady m := txReady_congr (h.path m) (h.call m)
theorem SameOutput.outRoom (h : SameOutput s v) (m : LineNo) : v.outRoom m = s.outRoom m := outRoom_congr (h.path m) h.free h.cfg

end

/-! ## The closing work, seen by the output -/

/-- With no session about to enter hold, the test of the hold conditions writes the records alone. -/
theorem testHold_of_none {s : State} (h : ∀ n, s.entersHold n = false) : s.testHold = { s with sess := mapTable s.sess fun _ x => x.map s.holdTest } := by
  have none : allLines.filter s.entersHold = [] := List.filter_eq_nil_iff.mpr fun n _ => by rw [h n]; decide
  unfold State.testHold
  rw [none]
  rfl

/-- What of a path is not the FLOW state, the stages after the service leave alone. -/
theorem settle_view {α : Type} {g : Path → α} (hg : ∀ p f, g { p with flow := f } = g p) {s : State} (h : s.started = true) (before : State)
    (every : Bool) (n : LineNo) : g (s.settle before every).path[n] = g (served s).path[n] := by
  have late := settle_eq_flowed (g := State.path) raise_path (fun s n r => closeCause_path s n r) (fun _ _ => rfl) h before every
  rw [late]
  refine eachLine_keeps (fun u : State => g u.path[n]) _ (fun m u => ?_) _ _
  obtain ⟨f, e⟩ := updateFlow_path m n u
  rw [e]
  exact hg _ _

/-- The notices replaced so far. -/
def replacedOf (s : State) : Nat := s.counters.noticesReplaced

theorem raise_replaced (s : State) (i : ReqId) : replacedOf (s.raise i) = replacedOf s := by
  unfold State.raise
  split <;> rfl

theorem closeCause_replaced (s : State) (n : LineNo) (r : CloseReason) : replacedOf (s.closeCause n r) = replacedOf s := by
  unfold State.closeCause
  repeat' split
  all_goals rfl

/-- What neither a raised request nor the Charge Queue touches, the offers leave alone. -/
theorem updateOffers_keeps {α : Type} {g : State → α} (hg : ∀ s i, g (State.raise s i) = g s) (hqueue : ∀ (s : State) q, g { s with queue := q } = g s)
    (s : State) : g s.updateOffers = g s := by
  have one (u : State) : g u.offerOne = g u := by
    unfold State.offerOne
    split
    · split
      · exact (hg _ _).trans (hqueue u _)
      · rfl
    · rfl
  unfold State.updateOffers
  split
  · exact (one _).trans ((one _).trans ((one _).trans (one s)))
  · exact hqueue s _

theorem updateOffers_replaced (s : State) : replacedOf s.updateOffers = replacedOf s :=
  updateOffers_keeps raise_replaced (fun _ _ => rfl) s

/-- Only notices of sessions that enter hold can replace a waiting text in the closing work. -/
theorem settle_replaced {s : State} (h : ∀ n, s.entersHold n = false) (before : State) (every : Bool) :
    replacedOf (s.settle before every) = replacedOf s := by
  cases started : s.started with
  | false => rw [Commands.settle_of_not_started before every started]
  | true =>
    rw [settle_eq_flowed (g := replacedOf) raise_replaced closeCause_replaced (fun _ _ => rfl) started before every, flowed,
      eachLine_keeps replacedOf _ (updateFlow_keeps raise_replaced fun _ _ _ => rfl), served,
      serve_keeps (g := replacedOf) (fun _ _ _ _ => rfl) (fun _ _ => rfl), updateOffers_replaced, testHold_of_none h]
    rfl

/-- What the service starts from. -/
def toServe (s : State) : State := s.testHold.updateOffers

theorem toServe_same {s : State} (h : ∀ n, s.entersHold n = false) :
    (toServe s).path = s.path ∧ (toServe s).free = s.free ∧ (toServe s).cfg = s.cfg ∧ (toServe s).sup = s.sup := by
  have free : s.testHold.updateOffers.free = s.testHold.free := updateOffers_keeps (g := State.free) raise_free (fun _ _ => rfl) _
  have cfg : s.testHold.updateOffers.cfg = s.testHold.cfg := updateOffers_keeps (g := State.cfg) raise_cfg (fun _ _ => rfl) _
  have sup : s.testHold.updateOffers.sup = s.testHold.sup := updateOffers_keeps (g := State.sup) raise_sup (fun _ _ => rfl) _
  have tested := testHold_of_none h
  refine ⟨(updateOffers_path _).trans ?_, free.trans ?_, cfg.trans ?_, sup.trans ?_⟩ <;> rw [tested]

theorem served_eq (s : State) : served s = State.serve serveRounds (toServe s) := rfl

/-! ## The service -/

theorem serve_of_rest {s : State} (texts : ∀ n, s.textReady n = false) (senders : ∀ n, s.txReady n = false) (k : Nat) : State.serve k s = s := by
  cases k with
  | zero => rfl
  | succ k =>
    have once : s.serveOnce = none := by
      have noText : allLines.filter s.textReady = [] := List.filter_eq_nil_iff.mpr fun n _ => by rw [texts n]; decide
      have noTx : allLines.filter s.txReady = [] := List.filter_eq_nil_iff.mpr fun n _ => by rw [senders n]; decide
      unfold State.serveOnce
      rw [noText]
      dsimp only
      rw [noTx]
    unfold State.serve
    rw [once]

theorem filter_eq_one : ∀ n : LineNo, allLines.filter (fun m => decide (m = n)) = [n] := by decide

/-- A single text that can be appended is served first. -/
theorem serve_of_one {s : State} {n : LineNo} (ready : s.textReady n = true) (others : ∀ m, m ≠ n → s.textReady m = false) (k : Nat) :
    State.serve (k + 1) s = State.serve k (s.serveText n) := by
  have one : allLines.filter s.textReady = [n] := by
    have same : ∀ m ∈ allLines, s.textReady m = decide (m = n) := fun m _ => by
      by_cases e : m = n
      · rw [e, ready, decide_eq_true rfl]
      · rw [others m e, decide_eq_false e]
    rw [List.filter_congr same]
    exact filter_eq_one n
  have once : s.serveOnce = some (s.serveText n) := by
    unfold State.serveOnce
    rw [one]
  show (match s.serveOnce with
    | none => s
    | some u => State.serve k u) = _
  rw [once]

theorem serveText_self {s : State} {n : LineNo} {t : Text} (slot : s.path[n].slot = some t) :
    (s.serveText n).path[n] = { s.path[n] with slot := none, outQ := s.path[n].outQ.append ((textChars s.cfg t).take (s.outRoom n)) } := by
  unfold State.serveText
  rw [slot]
  dsimp only [State.sendOut, State.setOut, State.updPath, State.setPath]
  simp only [vector_set_get_self]

/-- The text of a sending line is ready where the room holds it. -/
theorem textReady_of_sending {s : State} {n : LineNo} {t : Text} (slot : s.path[n].slot = some t) (sends : s.path[n].tx.isSome = true) :
    s.textReady n = true ↔ textLength s.cfg t ≤ s.outRoom n := by
  have busy : s.roomAtMost n = false := by
    unfold State.roomAtMost
    have busy : s.path[n].tx ≠ none := Option.isSome_iff_ne_none.mp sends
    dsimp only
    rw [decide_eq_false busy, Bool.and_false, Bool.false_and]
  unfold State.textReady
  rw [slot]
  simp [busy]

/-! ## A text taken at rest -/

theorem sendOut_path (s : State) (n : LineNo) (cs : List Char7) : (s.sendOut n cs).path = s.path.set n { s.path[n] with outQ := s.path[n].outQ.append cs } := rfl

theorem sendOut_self (s : State) (n : LineNo) (cs : List Char7) : (s.sendOut n cs).path[n] = { s.path[n] with outQ := s.path[n].outQ.append cs } :=
  vector_set_get_self _ _ _

theorem updPath_self (s : State) (n : LineNo) (f : Path → Path) : (s.updPath n f).path[n] = f s.path[n] := vector_set_get_self _ _ _

/-- No text taken moves a session into hold. -/
theorem entersHold_congr {s v : State} (sess : v.sess = s.sess) (roster : v.roster = s.roster) (bus : v.bus = s.bus) (m : LineNo) :
    v.entersHold m = s.entersHold m := by
  unfold State.entersHold State.holdCondition
  rw [sess, roster, bus]

theorem takeText_entersHold (s : State) (n : LineNo) (t : Text) (m : LineNo) : (s.takeText n t).entersHold m = s.entersHold m := by
  unfold State.takeText
  repeat' split
  all_goals rfl

theorem takeText_started (s : State) (n : LineNo) (t : Text) : (s.takeText n t).started = s.started := by
  unfold State.takeText
  repeat' split
  all_goals rfl

theorem takeText_replaced (s : State) (n : LineNo) (t : Text) :
    (s.takeText n t).counters.noticesReplaced =
      if s.path[n].slot.isSome then sat16 s.counters.noticesReplaced else s.counters.noticesReplaced := by
  unfold State.takeText
  by_cases waits : s.path[n].slot.isSome = true
  · rw [if_pos waits, if_pos waits]
    rfl
  · rw [if_neg waits, if_neg waits]
    split <;> rfl

/-- A line that is sending goes on with its queue through the rounds of the service. -/
theorem serve_sending (k : Nat) {s : State} {n : LineNo} (rounds : s.toServe ≤ k) (slot : s.path[n].slot = none) (sends : s.path[n].tx.isSome = true) :
    (State.serve k s).path[n] = s.path[n] := by
  rw [(serve_path k s rounds n slot).2, started_tx _ (Option.isSome_iff_ne_none.mp sends), ite_self]

/-- With output at rest a text that waits for a sending line is appended whole, or goes on waiting (R46). -/
theorem served_waiting {s w : State} (rest : OutputAtRest s) {n : LineNo} {t : Text} (sends : s.path[n].tx.isSome = true)
    (self : output w.path[n] = output { s.path[n] with slot := some t }) (others : ∀ m : LineNo, m ≠ n → output w.path[m] = output s.path[m])
    (free : w.free = s.free) (cfg : w.cfg = s.cfg) (call : ∀ m, (w.st m).onCall = (s.st m).onCall) :
    (State.serve serveRounds w).path[n].tx = s.path[n].tx ∧
      if (textChars s.cfg t).length ≤ s.outRoom n then
        (State.serve serveRounds w).path[n].slot = none ∧
          (State.serve serveRounds w).path[n].outQ = s.path[n].outQ.append (textChars s.cfg t)
      else (State.serve serveRounds w).path[n].slot = some t ∧ (State.serve serveRounds w).path[n].outQ = s.path[n].outQ := by
  have slot : w.path[n].slot = some t := (output_slot self :)
  have outQ : w.path[n].outQ = s.path[n].outQ := (output_outQ self :)
  have tx : w.path[n].tx = s.path[n].tx := (output_tx self :)
  have busy : w.path[n].tx.isSome = true := by rw [tx]; exact sends
  have room : w.outRoom n = s.outRoom n := by
    unfold State.outRoom Path.held
    dsimp only
    rw [group_congr cfg, free, outQ, show w.path[n].inQ = s.path[n].inQ from (output_inQ self :)]
  have ready : w.textReady n = true ↔ (textChars s.cfg t).length ≤ s.outRoom n := by
    rw [textReady_of_sending slot busy, cfg, room]
    rfl
  have unready (m : LineNo) (hm : m ≠ n) : w.textReady m = false := (textReady_congr (others m hm) free cfg).trans (rest m).2.1
  by_cases fits : (textChars s.cfg t).length ≤ s.outRoom n
  · rw [if_pos fits]
    have served : State.serve serveRounds w = State.serve 39 (w.serveText n) := serve_of_one (ready.mpr fits) unready 39
    have whole : (w.serveText n).path[n] = { w.path[n] with slot := none, outQ := w.path[n].outQ.append (textChars s.cfg t) } := by
      rw [serveText_self slot, room, cfg, List.take_of_length_le fits]
    rw [served, serve_sending 39 (le_trans (toServe_le _) (by decide)) (by rw [whole]) (by rw [whole]; exact busy), whole]
    exact ⟨tx, rfl, by rw [outQ]⟩
  · rw [if_neg fits]
    have texts (m : LineNo) : w.textReady m = false := by
      by_cases e : m = n
      · rw [e]
        exact Bool.eq_false_iff.mpr fun r => fits (ready.mp r)
      · exact unready m e
    have senders (m : LineNo) : w.txReady m = false := by
      by_cases e : m = n
      · rw [e]
        unfold State.txReady
        dsimp only
        rw [decide_eq_false (Option.isSome_iff_ne_none.mp busy), Bool.and_false, Bool.false_and]
      · exact (txReady_congr (others m e) (call m)).trans (rest m).2.2
    rw [serve_of_rest texts senders]
    exact ⟨tx, slot, outQ⟩

/-- A text taken for a line: it waits, or stands behind the queue where it found an empty slot and room. -/
theorem takeText_cases (v : State) (n : LineNo) (t : Text) :
    (v.path[n].slot = none ∧ (textChars v.cfg t).length ≤ v.outRoom n ∧ v.takeText n t = v.sendOut n (textChars v.cfg t)) ∨
      ((v.takeText n t).path = v.path.set n { v.path[n] with slot := some t } ∧ (v.takeText n t).free = v.free) := by
  cases slot : v.path[n].slot with
  | some old =>
    have waits : v.path[n].slot.isSome = true := by rw [slot]; rfl
    rw [takeText_of_slot t waits]
    exact .inr ⟨rfl, rfl⟩
  | none =>
    have empty : v.path[n].slot.isSome = false := by rw [slot]; rfl
    by_cases fits : (textChars v.cfg t).length ≤ v.outRoom n
    · exact .inl ⟨rfl, fits, takeText_of_room empty fits⟩
    · rw [takeText_of_no_room empty fits]
      exact .inr ⟨rfl, rfl⟩

theorem takeText_cfg (s : State) (n : LineNo) (t : Text) : (s.takeText n t).cfg = s.cfg := by
  unfold State.takeText
  repeat' split
  all_goals rfl

theorem takeText_st (s : State) (n : LineNo) (t : Text) (m : LineNo) : (s.takeText n t).st m = s.st m := by
  unfold State.st
  rw [takeText_sup]

/-- R45, R46: with output at rest, and standing so but for a text taken for a line on a call, the event leaves the text taken. -/
theorem textTaken_settle {s v : State} (rest : OutputAtRest s) (same : SameOutput s v) (running : v.started = true) {n : LineNo}
    (call : (s.st n).onCall = true) (t : Text) (before : State) (every : Bool) : TextTaken s ((v.takeText n t).settle before every) n t := by
  have holds (m : LineNo) : (v.takeText n t).entersHold m = false := (takeText_entersHold v n t m).trans (same.holds m)
  have started : (v.takeText n t).started = true := (takeText_started v n t).trans running
  have slot : v.path[n].slot = s.path[n].slot := output_slot (same.path n)
  obtain ⟨path, free, cfg, sup⟩ := toServe_same holds
  refine ⟨?_, fun sends => ?_, fun idle empty fits => ?_⟩
  · refine (settle_replaced holds before every).trans ?_
    unfold replacedOf
    rw [takeText_replaced, slot, same.replaced]
  · rw [settle_view (g := Path.tx) (fun _ _ => rfl) started, settle_view (g := Path.slot) (fun _ _ => rfl) started,
      settle_view (g := Path.outQ) (fun _ _ => rfl) started, served_eq]
    have stands : (v.takeText n t).cfg = s.cfg := (takeText_cfg v n t).trans same.cfg
    rcases takeText_cases v n t with ⟨empty, fits, e⟩ | ⟨waits, kept⟩
    · have appended : (toServe (v.takeText n t)).path[n] = { v.path[n] with outQ := v.path[n].outQ.append (textChars s.cfg t) } := by
        rw [path, e, sendOut_self, same.cfg]
      have service : (State.serve serveRounds (toServe (v.takeText n t))).path[n] = (toServe (v.takeText n t)).path[n] :=
        serve_sending serveRounds (le_trans (toServe_le _) (by decide)) (by rw [appended]; exact empty)
          (by rw [appended]; exact (congrArg Option.isSome (output_tx (same.path n))).trans sends)
      rw [same.cfg, same.outRoom] at fits
      rw [service, appended, if_pos fits]
      exact ⟨(output_tx (same.path n) :), empty, by rw [show v.path[n].outQ = s.path[n].outQ from output_outQ (same.path n)]⟩
    · refine served_waiting rest sends ?_ (fun m hm => ?_) (free.trans (kept.trans same.free)) (cfg.trans stands) fun m => ?_
      · rw [path, waits, vector_set_get_self]
        have p := same.path n
        simp only [output, Output.mk.injEq] at p ⊢
        obtain ⟨inQ, outQ, -, tx, owed, paused⟩ := p
        exact ⟨inQ, outQ, trivial, tx, owed, paused⟩
      · rw [path, waits, vector_set_get_ne _ _ (Ne.symm hm)]
        exact same.path m
      · unfold State.st
        rw [sup, takeText_sup]
        exact same.call m
  · have none : v.path[n].slot.isSome = false := by rw [slot, empty]; rfl
    have room : textLength v.cfg t ≤ v.outRoom n := by
      rw [same.outRoom]
      unfold textLength
      rw [same.cfg]
      exact fits
    have e := takeText_of_room none room
    have slotless : (v.takeText n t).path[n].slot = Option.none := by
      rw [e, sendOut_self]
      exact slot.trans empty
    obtain ⟨f, path⟩ := settle_path _ before every n started slotless (holds n)
    have calls : ((v.takeText n t).st n).onCall = true := by rw [takeText_st, same.call]; exact call
    rw [if_pos calls] at path
    have p : output (v.takeText n t).path[n] = output { s.path[n] with outQ := s.path[n].outQ.append (textChars s.cfg t) } := by
      rw [e, sendOut_self, same.cfg]
      have p := same.path n
      simp only [output, Output.mk.injEq] at p ⊢
      obtain ⟨inQ, outQ, slot, tx, owed, paused⟩ := p
      exact ⟨inQ, by rw [outQ], slot, tx, owed, paused⟩
    have starts := output_started p
    dsimp only
    rw [path]
    exact ⟨(started_slot _).trans slotless, output_outQ starts, output_tx starts⟩

end Sys2Proof.Proofs.Texts
end

section
/-! The refuse and close moves (R17, R52, R72, R73). The closing text is taken while nothing is known of the other lines' output: a sending line's text
stands whole behind the queue or waits in the slot through whatever the closing work does. -/

namespace Sys2Proof.Proofs.ClosingTexts

open Sys2Proof Sys2Proof.Machine Sys2Proof.Proofs.Closing Sys2Proof.Proofs.SessionMoves Sys2Proof.Proofs.Proving
open Sys2Proof.Proofs.Lines Sys2Proof.Proofs.Texts Sys2Proof.Proofs.Disconnect

/-! ## A text behind the queue or in the slot -/

/-- A sending line with a text that stands whole behind its queue or waits in its slot. -/
structure Placed (cfg : Configuration) (t : Text) (n : LineNo) (q : Queue) (c : Option (BitVec 8)) (s : State) : Prop where
  config : s.cfg = cfg
  sends : s.path[n].tx = c
  text : (s.path[n].slot = none ∧ s.path[n].outQ = q.append (textChars cfg t)) ∨ (s.path[n].slot = some t ∧ s.path[n].outQ = q)

section
variable {cfg : Configuration} {t : Text} {n : LineNo} {q : Queue} {c : Option (BitVec 8)} {s u : State}

theorem Placed.of_same (h : Placed cfg t n q c s) (path : u.path[n] = s.path[n]) (same : u.cfg = s.cfg) : Placed cfg t n q c u :=
  ⟨same.trans h.config, by rw [path]; exact h.sends, by rw [path]; exact h.text⟩

/-- The text of a line that sends is appended whole, if at all (R46). -/
theorem Placed.serveText (h : Placed cfg t n q c s) (sends : c.isSome = true) {m : LineNo} (ready : s.textReady m = true) :
    Placed cfg t n q c (s.serveText m) := by
  have same : (s.serveText m).cfg = s.cfg := by unfold State.serveText; split <;> rfl
  by_cases e : m = n
  · subst e
    rcases h.text with ⟨slot, -⟩ | ⟨slot, outQ⟩
    · have waits := textReady_slot ready
      rw [slot] at waits
      cases waits
    · have fits := (textReady_of_sending slot (by rw [h.sends]; exact sends)).mp ready
      have whole := serveText_self slot
      rw [List.take_of_length_le fits] at whole
      refine ⟨same.trans h.config, by rw [whole]; exact h.sends, .inl ?_⟩
      rw [whole, ← h.config]
      exact ⟨rfl, by rw [outQ]⟩
  · exact h.of_same (serveText_path_ne s e) same

theorem Placed.startTx (h : Placed cfg t n q c s) (sends : c.isSome = true) (m : LineNo) : Placed cfg t n q c (s.startTx m) := by
  have same : (s.startTx m).cfg = s.cfg := by unfold State.startTx; repeat' split
                                              all_goals rfl
  refine h.of_same ?_ same
  rw [startTx_path]
  split
  · exact started_tx _ (by rw [h.sends]; exact Option.isSome_iff_ne_none.mp sends)
  · rfl

/-- The rounds of the service serve ready texts alone. -/
theorem serve_induction_ready {P : State → Prop} (text : ∀ n s, s.textReady n = true → P s → P (State.serveText s n))
    (start : ∀ n s, P s → P (State.startTx s n)) (draws : ∀ (s : State) k, P s → P { s with draws := k }) (k : Nat) {s : State} (h : P s) :
    P (State.serve k s) := by
  have once {s u : State} (hu : s.serveOnce = some u) (h : P s) : P u := by
    have ready {n : LineNo} (hn : n ∈ allLines.filter s.textReady) : s.textReady n = true := (List.mem_filter.mp hn).2
    unfold State.serveOnce at hu
    split at hu
    · split at hu
      · cases hu
      · cases hu; exact eachLine_induction P _ start _ s h
    · next n one => cases hu; exact text n s (ready (by rw [one]; exact List.mem_cons_self)) h
    · split at hu
      · cases hu
      · next n rest picked =>
        cases hu
        refine text n _ (ready (n := n) ?_) (draws s _ h)
        have mem : n ∈ pickFirst s.draws (allLines.filter s.textReady) := by rw [picked]; exact List.mem_cons_self
        unfold pickFirst at mem
        rcases List.mem_append.mp mem with mem | mem
        · exact List.mem_of_mem_drop mem
        · exact List.mem_of_mem_take mem
  induction k generalizing s with
  | zero => exact h
  | succ k ih =>
    unfold State.serve
    split
    · exact h
    · next u hu => exact ih (once hu h)

/-- The closing work leaves a text taken for a sending line whole behind the queue or in the slot. -/
theorem Placed.settle (h : Placed cfg t n q c s) (sends : c.isSome = true) (hold : s.entersHold n = false) (before : State) (every : Bool) :
    (s.settle before every).path[n].tx = c ∧
      (((s.settle before every).path[n].slot = none ∧ (s.settle before every).path[n].outQ = q.append (textChars cfg t)) ∨
        ((s.settle before every).path[n].slot = some t ∧ (s.settle before every).path[n].outQ = q)) := by
  cases started : s.started with
  | false => rw [Commands.settle_of_not_started before every started]; exact ⟨h.sends, h.text⟩
  | true =>
    have cfgOf : s.testHold.cfg = s.cfg := testHold_keeps (g := State.cfg) (fun _ _ _ _ => rfl) (fun _ _ => rfl) (fun _ => rfl) (fun _ _ => rfl) s
    have tested : Placed cfg t n q c (toServe s) :=
      h.of_same (by unfold toServe; rw [updateOffers_path]; exact testHold_path s n hold)
        ((updateOffers_keeps (g := State.cfg) raise_cfg (fun _ _ => rfl) _).trans cfgOf)
    have service : Placed cfg t n q c (served s) :=
      serve_induction_ready (fun m u ready hu => hu.serveText sends ready) (fun m u hu => hu.startTx sends m) (fun _ _ hu => ⟨hu.config, hu.sends, hu.text⟩) _
        tested
    rw [settle_view (g := Path.tx) (fun _ _ => rfl) started, settle_view (g := Path.slot) (fun _ _ => rfl) started,
      settle_view (g := Path.outQ) (fun _ _ => rfl) started]
    exact ⟨service.sends, service.text⟩

/-- A text just taken is placed. -/
theorem placed_takeText (v : State) (n : LineNo) (t : Text) : Placed v.cfg t n v.path[n].outQ v.path[n].tx (v.takeText n t) := by
  refine ⟨takeText_cfg v n t, takeText_tx v n n t, ?_⟩
  rcases takeText_cases v n t with ⟨empty, -, e⟩ | ⟨path, -⟩
  · rw [e, sendOut_self]
    exact .inl ⟨empty, rfl⟩
  · rw [path, vector_set_get_self]
    exact .inr ⟨rfl, rfl⟩

end

/-! ## The close move -/

/-- The path of a line whose session ended. -/
def endedPath (p : Path) : Path :=
  { p with
    inQ := Queue.empty, attention := false, brk := false, mark := none, fwdDue := false, fwdTimer := none, inFlight := none, inputHeld := false
    owed := none, flow := none, channelHold := false }

theorem endSession_path (s : State) (n : LineNo) (x : Session) (r : CloseReason) :
    (State.endSession n x r s).path = s.path.set n (endedPath s.path[n]) := by
  unfold State.endSession State.endPath
  dsimp only
  simp only [State.updPath, State.setPath, State.setIn, setSess_path, setClaims_path, raiseRelease_path, appendCharge_path, vector_set_get_self,
    Vector.set_set]
  rfl

theorem endSession_free (s : State) (n : LineNo) (x : Session) (r : CloseReason) :
    (State.endSession n x r s).free = s.free + s.path[n].inQ.blocks := by
  unfold State.endSession State.endPath
  dsimp only
  simp only [State.updPath, State.setPath, State.setIn, setSess_path, setClaims_path, raiseRelease_path, appendCharge_path, setSess_free,
    setClaims_free, raiseRelease_free, appendCharge_free]
  rfl

theorem endSession_replaced (s : State) (n : LineNo) (x : Session) (r : CloseReason) : replacedOf (State.endSession n x r s) = replacedOf s := by
  have released : replacedOf ((s.appendCharge n (x.finish s.cfg) r).raiseRelease n ⟨x.user, x.serial, .closed r⟩) = replacedOf s :=
    raise_replaced _ _
  unfold State.endSession
  dsimp only
  generalize (s.appendCharge n (x.finish s.cfg) r).raiseRelease n ⟨x.user, x.serial, .closed r⟩ = v at *
  exact released

/-- The line before its closing text is taken (R72). -/
def closingLine (s : State) (n : LineNo) (x : Session) (r : CloseReason) : State :=
  let s1 := State.updSup (s.endSession n x r) n fun l => l.enterClosing s.now
  if r = .ended then s1 else s1.flush n

theorem closeMove_eq (s : State) (n : LineNo) (x : Session) (r : CloseReason) :
    s.closeMove n x r = (closingLine s n x r).takeText n (closingText s.cfg x r) := rfl

/-- The queue that the closing text stands behind: flushed, unless the reason is ENDED. -/
def closingQueue (q : Queue) (r : CloseReason) : Queue := if r = .ended then q else Queue.empty

theorem closingLine_path (s : State) (n : LineNo) (x : Session) (r : CloseReason) :
    (closingLine s n x r).path[n] = { endedPath s.path[n] with outQ := closingQueue s.path[n].outQ r } := by
  have ended := endSession_path s n x r
  unfold closingLine closingQueue
  dsimp only
  split
  · show (State.endSession n x r s).path[n] = _
    rw [ended, vector_set_get_self]
    rfl
  · show ((State.endSession n x r s).path.set n { (State.endSession n x r s).path[n] with outQ := Queue.empty })[n] = _
    rw [vector_set_get_self, ended, vector_set_get_self]

theorem closingLine_free (s : State) (n : LineNo) (x : Session) (r : CloseReason) :
    (closingLine s n x r).free = s.free + s.path[n].inQ.blocks + s.path[n].outQ.blocks - (closingQueue s.path[n].outQ r).blocks := by
  have ended := endSession_path s n x r
  have free := endSession_free s n x r
  unfold closingLine closingQueue
  dsimp only
  split
  · show (State.endSession n x r s).free = _
    omega
  · show (State.endSession n x r s).free + (State.endSession n x r s).path[n].outQ.blocks - Queue.empty.blocks = _
    rw [ended, vector_set_get_self, free]
    rfl

theorem closingLine_room (s : State) (n : LineNo) (x : Session) (r : CloseReason) (cfg : (closingLine s n x r).cfg = s.cfg) :
    (closingLine s n x r).outRoom n =
      (closingQueue s.path[n].outQ r).unwritten +
        16 * min ((s.group n).allowance - (closingQueue s.path[n].outQ r).blocks)
          (s.free + s.path[n].inQ.blocks + s.path[n].outQ.blocks - (closingQueue s.path[n].outQ r).blocks) := by
  have held : (closingLine s n x r).path[n].held = (closingQueue s.path[n].outQ r).blocks := by
    unfold Path.held
    rw [closingLine_path]
    exact Nat.zero_add _
  unfold State.outRoom
  dsimp only
  rw [held, closingLine_free, group_congr cfg, closingLine_path]
  rfl

/-- What the close move leaves of the rest of the line and of the other lines. -/
structure ClosedLine (s u : State) (n : LineNo) (x : Session) (r : CloseReason) : Prop where
  sup : u.sup = s.sup.set n (s.sup[n].enterClosing s.now)
  sign : u.sign = s.sign
  sess : u.sess = s.sess.set n none
  claims : u.claims = s.claims.set n { s.claims[n] with release := some ⟨x.user, x.serial, .closed r⟩, surveyOwed := false }
  queue : u.queue.map Queued.charge =
    s.queue.map Queued.charge ++ [chargeOf (freeSerial s.queue 33 s.recordSerial) n (x.finish s.cfg) r]
  pending : (u.req (.release n)).pending = true
  cfg : u.cfg = s.cfg
  loader : u.loader = s.loader
  roster : u.roster = s.roster
  bus : u.bus = s.bus
  replaced : replacedOf u = replacedOf s

theorem closingLine_closed (s : State) (n : LineNo) (x : Session) (r : CloseReason) : ClosedLine s (closingLine s n x r) n x r := by
  have sup := endSession_sup s n x r
  have sign := endSession_sign s n x r
  have sess := endSession_sess s n x r
  have claims := endSession_claims s n x r
  have queue := appended_charges s n x r
  have pending := endSession_pending_req s n x r
  have cfg := endSession_cfg (s := s) n x r
  have loader := endSession_loader (s := s) n x r
  have roster := endSession_roster (s := s) n x r
  have bus := endSession_bus (s := s) n x r
  have replaced := endSession_replaced s n x r
  unfold closingLine
  generalize State.endSession n x r s = v at *
  have line : (v.updSup n fun l => l.enterClosing s.now).sup = s.sup.set n (s.sup[n].enterClosing s.now) := by
    show v.sup.set n (v.sup[n].enterClosing s.now) = _
    rw [sup]
  dsimp only
  split <;> exact ⟨line, sign, sess, claims, queue, pending, cfg, loader, roster, bus, replaced⟩

theorem ClosedLine.takeText {s u : State} {n : LineNo} {x : Session} {r : CloseReason} (h : ClosedLine s u n x r) (t : Text) :
    ClosedLine s { (u.takeText n t) with counters := u.counters } n x r := by
  unfold State.takeText
  repeat' split
  all_goals exact ⟨h.sup, h.sign, h.sess, h.claims, h.queue, h.pending, h.cfg, h.loader, h.roster, h.bus, h.replaced⟩

/-! ## Texts in characters -/

/-- The digits of a number with at most `fuel` of them: its value, without leading zeros (R73). -/
theorem decimalDigits_spec (fuel k : Nat) (h : k < 10 ^ (fuel + 1)) :
    (∀ d ∈ decimalDigits (fuel + 1) k, d ≤ 9) ∧ decimalValue (decimalDigits (fuel + 1) k) = k ∧
      (decimalDigits (fuel + 1) k = [0] ∨ ∃ d rest, decimalDigits (fuel + 1) k = d :: rest ∧ d ≠ 0) := by
  have short {k : Nat} (small : k < 10) :
      (∀ d ∈ [k], d ≤ 9) ∧ decimalValue [k] = k ∧ ([k] = [0] ∨ ∃ d rest, [k] = d :: rest ∧ d ≠ 0) := by
    refine ⟨fun d hd => ?_, by simp [decimalValue], ?_⟩
    · rw [List.mem_singleton.mp hd]
      omega
    · by_cases zero : k = 0
      · exact .inl (by rw [zero])
      · exact .inr ⟨k, [], rfl, zero⟩
  induction fuel generalizing k with
  | zero =>
    have small : k < 10 := by simpa using h
    rw [show decimalDigits 1 k = [k] from if_pos small]
    exact short small
  | succ fuel ih =>
    by_cases small : k < 10
    · rw [show decimalDigits (fuel + 2) k = [k] from if_pos small]
      exact short small
    · rw [show decimalDigits (fuel + 2) k = decimalDigits (fuel + 1) (k / 10) ++ [k % 10] from if_neg small]
      obtain ⟨digits, value, lead⟩ := ih (k / 10) (by rw [pow_succ] at h; omega)
      refine ⟨fun d hd => ?_, ?_, .inr ?_⟩
      · rcases List.mem_append.mp hd with hd | hd
        · exact digits d hd
        · rw [List.mem_singleton.mp hd]
          omega
      · unfold decimalValue at value ⊢
        rw [List.foldl_append, value]
        show 10 * (k / 10) + k % 10 = k
        omega
      · rcases lead with zero | ⟨d, rest, e, nonzero⟩
        · rw [zero] at value
          have : k / 10 = 0 := value.symm.trans rfl
          omega
        · exact ⟨d, rest ++ [k % 10], by rw [e]; rfl, nonzero⟩

/-- The characters of a closing text: its part and its summary line, each behind CR LF (R73). -/
theorem closingText_chars (cfg : Configuration) (x : Session) (r : CloseReason) :
    textChars cfg (closingText cfg x r) =
      (closingPart r).elim [] (fun p => 0x0D :: 0x0A :: partText cfg p) ++ [0x0D, 0x0A, 0x43, 0x4F, 0x4E, 0x4E, 0x45, 0x43, 0x54, 0x20] ++
        decimalText (x.duration / 3600) ++
        [0x3A, digitChar (x.duration / 60 % 60 / 10), digitChar (x.duration / 60 % 60 % 10), 0x3A, digitChar (x.duration % 60 / 10),
          digitChar (x.duration % 60 % 10)] ++
        [0x20, 0x55, 0x4E, 0x49, 0x54, 0x53, 0x20] ++ decimalText (x.finish cfg).units := by
  have duration : (x.finish cfg).duration = x.duration := rfl
  unfold textChars closingText summaryLine durationText twoDigits crlf
  dsimp only
  rw [duration]
  cases closingPart r <;> simp

/-! ## Commands -/

theorem takeClose_still {s : State} {n : LineNo} (h : s.asks[n].close = false ∨ s.st n ≠ .session) : (s.takeClose n).kept = s.kept := by
  unfold State.takeClose
  by_cases asked : s.asks[n].close = true
  · rw [if_pos asked]
    have other : s.st n ≠ .session := h.resolve_left (by rw [asked]; decide)
    dsimp only
    split
    · next e _ => exact absurd e other
    · exact kept_setAsks s n _ rfl
  · rw [if_neg asked]

theorem takeClose_moves {s : State} {n : LineNo} {x : Session} {r : CloseReason} (asked : s.asks[n].close = true) (hst : s.st n = .session)
    (hx : s.sess[n] = some x) (hr : x.reason = some r) : s.takeClose n = (s.setAsks n { s.asks[n] with close := false }).closeMove n x r := by
  unfold State.takeClose
  rw [if_pos asked]
  dsimp only
  rw [hst, hx]
  dsimp only
  rw [hr]

theorem takeRefuse_signon {s : State} {n : LineNo} {text : Text} (asked : s.asks[n].refuse = some text) (hst : s.st n = .signon) :
    s.takeRefuse n =
      (((s.setAsks n { s.asks[n] with refuse := none }).setSup n (s.sup[n].enterClosing s.now)).setSign n none).takeText n text := by
  unfold State.takeRefuse
  rw [asked]
  exact if_pos hst

theorem takeRefuse_other {s : State} {n : LineNo} {text : Text} (asked : s.asks[n].refuse = some text) (hst : s.st n ≠ .signon) :
    s.takeRefuse n = s.setAsks n { s.asks[n] with refuse := none } := by
  unfold State.takeRefuse
  rw [asked]
  exact if_neg hst

/-- The line in CLOSING just before the refusal text is taken has the output that stood. -/
theorem refused_sameOutput {s : State} (rest : OutputAtRest s) (t : Moment) {n : LineNo} (hst : s.st n = .signon) (a : Asks) :
    SameOutput s ((((s.at t).setAsks n a).setSup n ((s.at t).sup[n].enterClosing (s.at t).now)).setSign n none) := by
  refine ⟨fun m => rfl, rfl, rfl, fun m => ?_, fun m => (rest m).1, rfl⟩
  show (((s.at t).sup.set n _)[m].st).onCall = _
  rw [vector_set_get]
  split
  · next e => subst e; rw [hst]; rfl
  · rfl

/-- The close move of an event, with the closing work: what the session leaves, and its text. -/
theorem closeMove_leaves {s : State} {n : LineNo} {x : Session} {r : CloseReason} (before : State) (every : Bool) :
    let q := closingQueue s.path[n].outQ r
    let room := q.unwritten + 16 * min ((s.group n).allowance - q.blocks) (s.free + s.path[n].inQ.blocks + s.path[n].outQ.blocks - q.blocks)
    let text := closingText s.cfg x r
    let chars := textChars s.cfg text
    ∀ u, u = (s.closeMove n x r).settle before every →
    (s.path[n].tx.isSome = true →
        u.path[n].tx = s.path[n].tx ∧ TextAppendedOrWaits s.cfg text { s.path[n] with outQ := q } u.path[n] ∧
          (s.path[n].slot = none → chars.length ≤ room → u.path[n].slot = none ∧ u.path[n].outQ = q.append chars)) ∧
      (s.loader = .running → s.path[n].tx = none → s.path[n].slot = none → chars.length ≤ room →
        let started := Path.started { s.path[n] with owed := none, outQ := q.append chars }
        u.path[n].slot = none ∧ u.path[n].outQ = started.outQ ∧ u.path[n].tx = started.tx) ∧
      ((∀ m : LineNo, s.entersHold m = false) →
        u.counters.noticesReplaced = if s.path[n].slot.isSome then sat16 s.counters.noticesReplaced else s.counters.noticesReplaced) := by
  rintro q room text chars u rfl
  have closed := closingLine_closed s n x r
  have path := closingLine_path s n x r
  have roomy : (closingLine s n x r).outRoom n = room := closingLine_room s n x r closed.cfg
  rw [closeMove_eq]
  generalize closingLine s n x r = w at *
  have st : w.st n = .closing := by
    unfold State.st
    rw [closed.sup, vector_set_get_self]
    rfl
  have ended : w.sess[n] = none := by rw [closed.sess, vector_set_get_self]
  have hold : (w.takeText n text).entersHold n = false := by
    rw [takeText_entersHold]
    unfold State.entersHold
    rw [ended]
  have slot : w.path[n].slot = s.path[n].slot := by rw [path]; rfl
  have tx : w.path[n].tx = s.path[n].tx := by rw [path]; rfl
  have outQ : w.path[n].outQ = q := by rw [path]
  have appended (empty : s.path[n].slot = none) (fits : chars.length ≤ room) :
      (w.takeText n text).path[n] = { w.path[n] with outQ := q.append chars } := by
    have none : w.path[n].slot.isSome = false := by rw [slot, empty]; rfl
    have fits : textLength w.cfg text ≤ w.outRoom n := by
      rw [roomy]
      unfold textLength
      rw [closed.cfg]
      exact fits
    rw [takeText_of_room none fits, sendOut_self, outQ, closed.cfg]
  refine ⟨fun sends => ?_, fun running idle empty fits => ?_, fun none => ?_⟩
  · have placed := placed_takeText w n text
    rw [closed.cfg, tx, outQ] at placed
    obtain ⟨stands, placed⟩ := placed.settle sends hold before every
    refine ⟨stands, placed, fun empty fits => ?_⟩
    have start := appended empty fits
    have sending : (w.takeText n text).path[n].tx.isSome = true := by rw [start]; exact (congrArg Option.isSome tx).trans sends
    have slotless : (w.takeText n text).path[n].slot = none := by rw [start]; exact slot.trans empty
    cases started : (w.takeText n text).started with
    | false =>
      rw [Commands.settle_of_not_started before every started, start]
      exact ⟨slot.trans empty, rfl⟩
    | true =>
      obtain ⟨f, end_⟩ := settle_path _ before every n started slotless hold
      rw [started_tx _ (Option.isSome_iff_ne_none.mp sending), ite_self, start] at end_
      rw [end_]
      exact ⟨slot.trans empty, rfl⟩
  · have start := appended empty fits
    have slotless : (w.takeText n text).path[n].slot = none := by rw [start]; exact slot.trans empty
    have runs : (w.takeText n text).started = true := by
      rw [takeText_started]
      unfold State.started
      rw [closed.loader, running]
      rfl
    obtain ⟨f, end_⟩ := settle_path _ before every n runs slotless hold
    have call : ((w.takeText n text).st n).onCall = true := by rw [takeText_st, st]; rfl
    rw [if_pos call] at end_
    have same : output (w.takeText n text).path[n] = output { s.path[n] with inQ := Queue.empty, owed := none, outQ := q.append chars } := by
      rw [start, path]
      rfl
    have starts := output_started same
    have ignored : Path.started { s.path[n] with inQ := Queue.empty, owed := none, outQ := q.append chars } =
        { Path.started { s.path[n] with owed := none, outQ := q.append chars } with inQ := Queue.empty } := by
      unfold Path.started
      dsimp only
      split <;> rfl
    rw [ignored] at starts
    dsimp only
    rw [end_]
    exact ⟨(started_slot _).trans slotless, (output_outQ starts :), (output_tx starts :)⟩
  · have holds (m : LineNo) : (w.takeText n text).entersHold m = false := by
      rw [takeText_entersHold]
      by_cases e : m = n
      · subst e
        unfold State.entersHold
        rw [ended]
      · have others : w.sess[m] = s.sess[m] := by rw [closed.sess, vector_set_get_ne _ _ (Ne.symm e)]
        have entering := none m
        unfold State.entersHold State.holdCondition at entering ⊢
        rw [others, closed.roster, closed.bus]
        exact entering
    refine (settle_replaced holds before every).trans ?_
    have replaced : w.counters.noticesReplaced = s.counters.noticesReplaced := closed.replaced
    unfold replacedOf
    rw [takeText_replaced, slot, replaced]

/-- The close move of an event, with the closing work: what is left of the session, its record apart. -/
theorem closeMove_ends (s : State) (n : LineNo) (x : Session) (r : CloseReason) (before : State) (every : Bool) (u : State)
    (hu : u = (s.closeMove n x r).settle before every) :
    u.sup = s.sup.set n (s.sup[n].enterClosing s.now) ∧ u.sign = s.sign ∧ u.sess[n] = none ∧ u.path[n].inQ = Queue.empty ∧
      u.claims = s.claims.set n { s.claims[n] with release := some ⟨x.user, x.serial, .closed r⟩, surveyOwed := false } ∧
      (u.req (.release n)).pending = true ∧
      u.queue.map Queued.charge =
        s.queue.map Queued.charge ++ [chargeOf (freeSerial s.queue 33 s.recordSerial) n (x.finish s.cfg) r] := by
  subst hu
  have closed := closingLine_closed s n x r
  have path := closingLine_path s n x r
  rw [closeMove_eq]
  generalize closingLine s n x r = w at *
  have kept : ((w.takeText n (closingText s.cfg x r)).settle before every).kept = w.kept := (settle_kept _ _ _).trans (kept_takeText w n _)
  have pending : (((w.takeText n (closingText s.cfg x r)).settle before every).req (.release n)).pending = true :=
    settle_keeps_pending _ before every _ (closed.takeText (closingText s.cfg x r)).pending
  generalize (w.takeText n (closingText s.cfg x r)).settle before every = u at *
  refine ⟨(eq_of_kept_sup kept).trans closed.sup, (eq_of_kept_sign kept).trans closed.sign, sess_none_of_kept kept ?_, ?_,
    (eq_of_kept_claims kept).trans closed.claims, pending, (eq_of_kept_charges kept).trans closed.queue⟩
  · rw [closed.sess, vector_set_get_self]
  · have inward : u.path[n].inQ = w.path[n].inQ := (congrArg Path.inQ (eq_of_kept_inward kept n) : u.path[n].inward.inQ = _)
    rw [inward, path]
    rfl

/-- Settles O12: both moves discard what the line held, and take their text. -/
theorem refuseAndCloseMoveToClosing : Obligations.RefuseAndCloseMoveToClosing := by
  refine ⟨fun t n s => ⟨fun text asked => ⟨?_, fun running hst rest => ?_⟩, fun unasked => gives_of_eq rfl ?_,
    fun h => gives_of_event rfl (takeClose_still (s := s.at t) h), fun x r asked hst hx hr => ?_⟩, fun cfg x r => ?_, fun cfg i j => ?_, fun k hk => ?_⟩
  · split
    · next hst =>
      refine gives_of_event rfl ((congrArg State.kept (takeRefuse_signon (s := s.at t) asked hst)).trans ?_)
      rw [kept_takeText]
      rfl
    · next hst => exact gives_of_eq rfl (takeRefuse_other (s := s.at t) asked hst)
  · refine leads_of_take rfl (takeRefuse_signon (s := s.at t) asked hst) ?_
    refine textTaken_settle rest (refused_sameOutput rest t hst _) ?_ (by rw [hst]; rfl) text _ _
    exact decide_eq_true running
  · show (s.at t).takeRefuse n = _
    have unasked : (s.at t).asks[n].refuse = none := unasked
    unfold State.takeRefuse
    rw [unasked]
  · refine leads_of_take rfl (takeClose_moves (s := s.at t) asked hst hx hr) ?_
    obtain ⟨sending, idle, replaced⟩ := closeMove_leaves (s := (s.at t).setAsks n { (s.at t).asks[n] with close := false }) (n := n) (x := x) (r := r) (s.at t)
      false _ rfl
    have rest := closeMove_ends ((s.at t).setAsks n { (s.at t).asks[n] with close := false }) n x r (s.at t) false _ rfl
    generalize (((s.at t).setAsks n { (s.at t).asks[n] with close := false }).closeMove n x r).settle (s.at t) false = u at *
    obtain ⟨sup, sign, sess, inQ, claims, pending, queue⟩ := rest
    have sup : u.sup = s.sup.set n (s.sup[n].enterClosing (max s.now t)) := sup
    refine ⟨?_, sess, inQ, ?_, ?_, ?_, pending, ⟨_, queue⟩, fun m hm => ⟨?_, ?_, ?_⟩, sending, idle, replaced⟩
    · unfold State.st
      rw [sup, vector_set_get_self]
      rfl
    · rw [sup, vector_set_get_self]
      rfl
    · rw [claims, vector_set_get_self]
    · rw [claims, vector_set_get_self]
      rfl
    · rw [sup, vector_set_get_ne _ _ (Ne.symm hm)]
    · rw [sign]
      rfl
    · rw [claims, vector_set_get_ne _ _ (Ne.symm hm)]
      rfl
  · rw [closingText_chars]
    cases r <;> rfl
  · simp [textChars, crlf, partText]
  · obtain ⟨digits, value, lead⟩ := decimalDigits_spec 7 k hk
    exact ⟨_, rfl, digits, value, lead⟩

end Sys2Proof.Proofs.ClosingTexts
end

section
/-! The timers of a sign-on and the claim decision (R51, R52, R58, R62, R64 to R66). Entry to REFUSING and to CLAIMING leave the same of a line at
whichever event they come. -/

namespace Sys2Proof.Proofs.SignOnTimers

open Sys2Proof Sys2Proof.Machine Sys2Proof.Proofs.Lines Sys2Proof.Proofs.Disconnect Sys2Proof.Proofs.Frames

/-! ## Entry to REFUSING and to CLAIMING at an event -/

/-- What an event that takes a context to REFUSING leaves of it (R52). -/
structure RefusedBy (s u : State) (n : LineNo) (c : Context) (text : Text) : Prop where
  sign : u.sign[n] = some { c with phase := .refusing, signOnTimer := none, replyWait := none }
  refuse : u.asks[n].refuse = some text
  withdrawn : c.claimRaised = true →
    u.claims = s.claims.set n { s.claims[n] with release := some ⟨c.user, c.sessionSerial.getD 0, .withdrawn⟩ } ∧ (u.req (.release n)).pending = true
  unclaimed : c.claimRaised = false → u.claims = s.claims
  sup : u.sup = s.sup
  speed : u.path[n].speed = s.path[n].speed
  counters : u.kept.counters = s.kept.counters
  roster : u.roster = s.roster
  echo : u.echo = s.echo
  sessionSerial : u.sessionSerial = s.sessionSerial
  wire : u.wire = s.wire
  streak : u.streak = s.streak

theorem enterRefusing_strikes (s : State) (n : LineNo) (t : Text) (i : ReqId) : ((s.enterRefusing n t).req i).strikes = (s.req i).strikes := by
  unfold State.enterRefusing
  repeat' split
  · rfl
  · rfl
  · show (((State.raiseRelease _ _ _)).req i).strikes = _
    unfold State.raiseRelease
    rw [req_raise]
    split
    · next e => subst e; rfl
    · rfl
  · rfl

theorem refused_settle {s : State} {n : LineNo} {c : Context} (hc : s.sign[n] = some c) (hp : c.phase ≠ .refusing) (text : Text) (before : State)
    (every : Bool) : RefusedBy s ((s.enterRefusing n text).settle before every) n c text := by
  have kept := settle_kept (s.enterRefusing n text) before every
  have sign := enterRefusing_sign s n text c hc hp
  have asks := enterRefusing_asks s n text c hc hp
  have claims := enterRefusing_claims s n text c hc hp
  have counters := enterRefusing_counters s n text
  have pending (raised : c.claimRaised = true) := settle_keeps_pending _ before every _ (enterRefusing_pending_req s n text c hc hp raised)
  refine ⟨?_, ?_, fun raised => ⟨?_, pending raised⟩, fun unraised => ?_, (eq_of_kept_sup kept).trans (enterRefusing_sup s n text), ?_,
    (congrArg State.counters kept).trans counters, (eq_of_kept_roster kept).trans (enterRefusing_roster s n text),
    (eq_of_kept_echo kept).trans (enterRefusing_echo s n text), (eq_of_kept_sessionSerial kept).trans (enterRefusing_sessionSerial s n text),
    (eq_of_kept_wire kept).trans (enterRefusing_wire s n text), (eq_of_kept_streak kept).trans (enterRefusing_streak s n text)⟩
  · rw [eq_of_kept_sign kept, sign, vector_set_get_self]
  · refine (congrArg Asks.refuse (eq_of_kept_others kept n) : _ = (s.enterRefusing n text).asks[n].others.refuse).trans ?_
    rw [asks, vector_set_get_self]
    rfl
  · rw [eq_of_kept_claims kept, claims, if_pos raised]
  · rw [eq_of_kept_claims kept, claims, if_neg (Bool.eq_false_iff.mp unraised)]
  · refine (congrArg Path.speed (eq_of_kept_inward kept n) : _ = (s.enterRefusing n text).path[n].inward.speed).trans ?_
    rw [enterRefusing_path]
    rfl

/-- What an event that takes a context to CLAIMING leaves of it (R64). -/
structure ClaimedBy (s u : State) (n : LineNo) (c : Context) : Prop where
  sign : u.sign[n] = some { c with phase := .claiming, sessionSerial := some s.sessionSerial, claimRaised := true, replyWait := none }
  sessionSerial : u.sessionSerial = s.sessionSerial + 1
  pending : (u.req (.claim n)).pending = true
  sup : u.sup = s.sup
  claims : u.claims = s.claims
  roster : u.roster = s.roster
  echo : u.echo = s.echo

theorem claimed_settle (s : State) (n : LineNo) (c : Context) (before : State) (every : Bool) :
    ClaimedBy s ((s.enterClaiming n c).settle before every) n c := by
  have kept := settle_kept (s.enterClaiming n c) before every
  refine ⟨?_, (eq_of_kept_sessionSerial kept).trans (enterClaiming_sessionSerial s n c),
    settle_keeps_pending _ before every _ (enterClaiming_pending_req s n c), (eq_of_kept_sup kept).trans (enterClaiming_sup s n c),
    (eq_of_kept_claims kept).trans (enterClaiming_claims s n c), (eq_of_kept_roster kept).trans (enterClaiming_roster s n c),
    (eq_of_kept_echo kept).trans (enterClaiming_echo s n c)⟩
  rw [eq_of_kept_sign kept, enterClaiming_sign, vector_set_get_self]

/-! ## The timers -/

theorem signOnExpiry_still {s : State} {n : LineNo} {c : Context} (hc : s.sign[n] = some c)
    (h : c.phase = .refusing ∨ fallenDue c.signOnTimer s.now = false) : s.signOnExpiry n = s := by
  unfold State.signOnExpiry
  rw [hc]
  refine if_neg ?_
  rintro ⟨phase, due⟩
  rcases h with e | e
  · exact phase e
  · rw [due] at e; cases e

/-- The line whose sign-on timer has run out, just before it enters REFUSING (R51). -/
def timedOut (s : State) (n : LineNo) (c : Context) : State :=
  let s1 := s.count .signOnTimeouts
  if c.phase = .sense then s1.updPath n fun p => { p with speed := some (lowestSpeed (s.group n)) } else s1

theorem signOnExpiry_due {s : State} {n : LineNo} {c : Context} (hc : s.sign[n] = some c) (phase : c.phase ≠ .refusing)
    (due : fallenDue c.signOnTimer s.now = true) : s.signOnExpiry n = (timedOut s n c).enterRefusing n (refusal 9) := by
  unfold State.signOnExpiry
  rw [hc]
  exact if_pos ⟨phase, due⟩

theorem timedOut_fields (s : State) (n : LineNo) (c : Context) :
    (timedOut s n c).sign = s.sign ∧ (timedOut s n c).sup = s.sup ∧ (timedOut s n c).claims = s.claims ∧
      (timedOut s n c).counters.signOnTimeouts = sat16 s.counters.signOnTimeouts ∧
      (timedOut s n c).path[n].speed = if c.phase = .sense then some (lowestSpeed (s.group n)) else s.path[n].speed := by
  unfold timedOut
  dsimp only
  by_cases sense : c.phase = .sense
  · rw [if_pos sense, if_pos sense]
    exact ⟨rfl, rfl, rfl, rfl, congrArg Path.speed (vector_set_get_self _ _ _)⟩
  · rw [if_neg sense, if_neg sense]
    exact ⟨rfl, rfl, rfl, rfl, rfl⟩

theorem replyWaitExpiry_still {s : State} {n : LineNo} {c : Context} (hc : s.sign[n] = some c)
    (h : c.phase ≠ .asking ∨ fallenDue c.replyWait s.now = false) : s.replyWaitExpiry n = s := by
  unfold State.replyWaitExpiry
  rw [hc]
  refine if_neg ?_
  rintro ⟨phase, due⟩
  rcases h with e | e
  · exact e phase
  · rw [due] at e; cases e

theorem replyWaitExpiry_due {s : State} {n : LineNo} {c : Context} (hc : s.sign[n] = some c) (phase : c.phase = .asking)
    (due : fallenDue c.replyWait s.now = true) :
    s.replyWaitExpiry n = (s.setSign n (some { c with replyWait := none })).admitProvisionally n { c with replyWait := none } := by
  unfold State.replyWaitExpiry
  rw [hc]
  exact if_pos ⟨phase, due⟩

/-- Settles O21: by entry to REFUSING and to CLAIMING at the expiry of each timer. -/
theorem signOnTimersRefuseOrAdmit : Obligations.SignOnTimersRefuseOrAdmit := by
  intro t n s c hc
  refine ⟨fun phase due => ?_, fun h => gives_of_eq rfl (signOnExpiry_still (s := s.at t) hc h), fun phase due => ⟨fun enabled => ?_, fun disabled => ?_⟩,
    fun h => gives_of_eq rfl (replyWaitExpiry_still (s := s.at t) hc h)⟩
  · obtain ⟨sign, sup, claims, counted, speed⟩ := timedOut_fields (s.at t) n c
    refine leads_of_take rfl (signOnExpiry_due (s := s.at t) hc phase due) ?_
    have refused := refused_settle (s := timedOut (s.at t) n c) (by rw [sign]; exact hc) phase (refusal 9) (s.at t) false
    refine ⟨?_, refused.sign, refused.refuse, refused.speed.trans speed, fun raised => ?_, fun unraised => (refused.unclaimed unraised).trans claims,
      refused.sup.trans sup⟩
    · exact (congrArg Counters.signOnTimeouts refused.counters).trans counted
    · obtain ⟨withdrawn, pending⟩ := refused.withdrawn raised
      exact ⟨by rw [withdrawn, vector_set_get_self], pending⟩
  · have effect := replyWaitExpiry_due (s := s.at t) hc phase due
    unfold State.admitProvisionally at effect
    refine leads_of_take rfl (effect.trans (if_pos enabled)) ?_
    have claimed := claimed_settle ((s.at t).setSign n (some { c with replyWait := none })) n
      { c with replyWait := none, granted := some s.cfg.provisional, provisional := true } (s.at t) false
    exact ⟨claimed.sessionSerial, claimed.pending, claimed.sup, claimed.claims, claimed.sign⟩
  · have effect := replyWaitExpiry_due (s := s.at t) hc phase due
    unfold State.admitProvisionally at effect
    refine leads_of_take rfl (effect.trans (if_neg (Bool.eq_false_iff.mp disabled))) ?_
    have refused := refused_settle (s := (s.at t).setSign n (some { c with replyWait := none })) (n := n) (vector_set_get_self _ _ _)
      (by rw [phase]; decide) (refusal 8) (s.at t) false
    exact ⟨refused.sign, refused.refuse⟩

/-! ## The claim decision -/

/-- The state in which the decision is taken: the own claim stands (R65). -/
def claimCounted (s : State) (w : WireFrame) (n : LineNo) (user : Nat) (serial : BitVec 16) : State :=
  (s.delivered w).setClaims n { s.claims[n] with own := some ⟨user, serial⟩ }

/-- The three checks in the order of R66, spelled from the state before the echo. -/
theorem claimRefusal_eq {s : State} (w : WireFrame) (n : LineNo) {c : Context} {g : Granted} (serial : BitVec 16) (granted : c.granted = some g) :
    (claimCounted s w n c.user serial).claimRefusal n c =
      if 32 - s.queue.length < s.linesIn .session + s.otherAdmitted n + 1 then some 7
      else if s.ceiling < (s.setClaims n { s.claims[n] with own := some ⟨c.user, serial⟩ }).standingTotal then some 6
      else if g.limit < (s.setClaims n { s.claims[n] with own := some ⟨c.user, serial⟩ }).standingFor c.user then some 5
      else none := by
  unfold State.claimRefusal
  rw [granted]
  rfl

theorem claimEchoed_decides {s : State} {w : WireFrame} {n : LineNo} {prov : Bool} {c : Context} {serial : BitVec 16} {ch : Station}
    (wire : s.wire = some w) (body : w.body = .claim n .new prov c.user serial ch) (hc : s.sign[n] = some c) (phase : c.phase = .claiming)
    (own : c.sessionSerial = some serial) :
    (match s.wire with
      | some w =>
        match w.body with
        | .claim n kind _ user serial _ => if kind = .new then (s.delivered w).newClaimEchoed n user serial else s.delivered w
        | _ => s
      | none => s) = (claimCounted s w n c.user serial).decideClaim n c := by
  rw [wire]
  dsimp only
  rw [body]
  have context : (s.delivered w).sign[n] = some c := hc
  show (s.delivered w).newClaimEchoed n c.user serial = _
  unfold State.newClaimEchoed
  rw [context]
  exact if_pos ⟨phase, own⟩

/-- Settles O24: the own claim stands, and the first check that fails refuses the context. -/
theorem claimDecisionChecksThreeLimits : Obligations.ClaimDecisionChecksThreeLimits := by
  intro t n s w c g prov serial ch wire body hc phase own granted counted refusedWith
  have refusal_eq : (claimCounted (s.at t) w n c.user serial).claimRefusal n c = refusedWith := claimRefusal_eq (s := s.at t) w n serial granted
  have strikes : ((claimCounted (s.at t) w n c.user serial).req w.req).strikes = 0 := delivered_strikes (s.at t) w
  have claims : (claimCounted (s.at t) w n c.user serial).claims = s.claims.set n { s.claims[n] with own := some ⟨c.user, serial⟩ } := rfl
  have sign : (claimCounted (s.at t) w n c.user serial).sign[n] = some c := hc
  have rest : (claimCounted (s.at t) w n c.user serial).wire = none ∧ (claimCounted (s.at t) w n c.user serial).sup = s.sup ∧
      (claimCounted (s.at t) w n c.user serial).streak = if w.dest = .all then 0 else s.streak := ⟨rfl, rfl, rfl⟩
  have echoed := claimEchoed_decides (s := s.at t) wire body hc phase own
  generalize claimCounted (s.at t) w n c.user serial = v at *
  obtain ⟨free, sup, streak⟩ := rest
  unfold State.decideClaim at echoed
  rw [refusal_eq] at echoed
  refine leads_of_take rfl echoed ?_
  cases refusedWith with
  | some m =>
    have refused := refused_settle sign (by rw [phase]; decide) (refusal m) (s.at t) false
    have kept : ((v.enterRefusing n (refusal m)).settle (s.at t) false).claims[n].own = some ⟨c.user, serial⟩ := by
      cases raised : c.claimRaised with
      | true =>
        rw [(refused.withdrawn raised).1, vector_set_get_self, claims, vector_set_get_self]
      | false => rw [refused.unclaimed raised, claims, vector_set_get_self]
    refine ⟨kept, refused.wire.trans free, refused.sup.trans sup, ?_, refused.streak.trans streak, refused.sign, refused.refuse, fun raised => ?_⟩
    · rw [settle_strikes, enterRefusing_strikes]
      exact strikes
    · obtain ⟨withdrawn, pending⟩ := refused.withdrawn raised
      refine ⟨?_, pending⟩
      rw [withdrawn, vector_set_get_self, own]
      rfl
  | none =>
    obtain ⟨x, hx⟩ : ∃ x, x = (v.setSign n (some { c with admitted := true, signOnTimer := none })).setAsks n
        { (v.setSign n (some { c with admitted := true, signOnTimer := none })).asks[n] with establish := true } := ⟨_, rfl⟩
    have kept := settle_kept x (s.at t) false
    have strikes := (settle_strikes x (s.at t) false w.req).trans ((congrArg (fun u : State => (u.req w.req).strikes) hx).trans strikes)
    have asks := (congrArg Asks.establish (eq_of_kept_others kept n) : _ = x.asks[n].others.establish)
    have view : x.claims = v.claims ∧ x.wire = v.wire ∧ x.sup = v.sup ∧ x.streak = v.streak ∧
        x.sign[n] = some { c with admitted := true, signOnTimer := none } ∧ x.asks[n].others.establish = true := by
      rw [hx]
      exact ⟨rfl, rfl, rfl, rfl, vector_set_get_self _ _ _, congrArg (fun a : Asks => a.others.establish) (vector_set_get_self _ _ _)⟩
    obtain ⟨claimsX, wireX, supX, streakX, signX, establish⟩ := view
    dsimp only
    rw [← hx]
    refine ⟨?_, (eq_of_kept_wire kept).trans (wireX.trans free), (eq_of_kept_sup kept).trans (supX.trans sup), strikes,
      (eq_of_kept_streak kept).trans (streakX.trans streak), ?_, asks.trans establish, ?_⟩
    · rw [eq_of_kept_claims kept, claimsX, claims, vector_set_get_self]
    · rw [eq_of_kept_sign kept, signX]
    · rw [eq_of_kept_claims kept, claimsX, claims, vector_set_get_self]

end Sys2Proof.Proofs.SignOnTimers
end

section
/-! Speed recognition (R29, R30): the window of a pulse names its speed, since no two windows meet, and the lowest allowed speed is the first of the
table that is allowed. -/

namespace Sys2Proof.Proofs.SpeedTries

open Sys2Proof Sys2Proof.Machine Sys2Proof.Proofs.Lines Sys2Proof.Proofs.Disconnect Sys2Proof.Proofs.Texts Sys2Proof.Proofs.SignOnTimers

/-! ## Speeds and windows -/

theorem lowestSpeed_eq {g : Group} {sp : Speed} (allowed : speedAllowed g sp = true)
    (lower : ∀ v, speedCode v < speedCode sp → speedAllowed g v = false) : lowestSpeed g = sp := by
  have found : allSpeeds.find? (speedAllowed g) = some sp := by
    refine List.find?_eq_some_iff_append.mpr ⟨allowed, allSpeeds.filter (speedCode · < speedCode sp), allSpeeds.filter (speedCode sp < speedCode ·), ?_,
      fun v hv => ?_⟩
    · cases sp <;> rfl
    · rw [lower v (of_decide_eq_true (List.mem_filter.mp hv).2)]
      rfl
  unfold lowestSpeed
  rw [List.head?_filter, found]
  rfl

/-- No pulse lies in the windows of two speeds (Table 2-1). -/
theorem speedWindow_disjoint {a b : Speed} {width : Nat} (ha : (speedWindow a).1 ≤ width ∧ width ≤ (speedWindow a).2)
    (hb : (speedWindow b).1 ≤ width ∧ width ≤ (speedWindow b).2) : a = b := by
  cases a <;> cases b <;> simp only [speedWindow, reduceCtorEq] at ha hb ⊢ <;> omega

theorem mem_allSpeeds (sp : Speed) : sp ∈ allSpeeds := by cases sp <;> decide

/-- The pulse lies in the window of an allowed speed. -/
def inWindow (g : Group) (width : Nat) (sp : Speed) : Prop :=
  speedAllowed g sp = true ∧ (speedWindow sp).1 ≤ width ∧ width ≤ (speedWindow sp).2

/-- The test by which the model looks a pulse up. -/
def windowTest (g : Group) (width : Nat) (sp : Speed) : Bool :=
  speedAllowed g sp && decide ((speedWindow sp).1 ≤ width) && decide (width ≤ (speedWindow sp).2)

theorem matchedSpeed_eq (g : Group) (width : Nat) : matchedSpeed g width = allSpeeds.find? (windowTest g width) := rfl

theorem inWindow_iff (g : Group) (width : Nat) (sp : Speed) :
    windowTest g width sp = true ↔ inWindow g width sp := by
  simp [inWindow, windowTest, and_assoc]

theorem matchedSpeed_eq_some {g : Group} {width : Nat} {sp : Speed} (h : inWindow g width sp) : matchedSpeed g width = some sp := by
  rw [matchedSpeed_eq]
  cases found : allSpeeds.find? (windowTest g width) with
  | none => exact absurd ((inWindow_iff g width sp).mpr h) (List.find?_eq_none.mp found sp (mem_allSpeeds sp))
  | some v =>
    have hv : inWindow g width v := (inWindow_iff g width v).mp (List.find?_some (p := windowTest g width) found)
    rw [speedWindow_disjoint hv.2 h.2]

theorem matchedSpeed_inWindow {g : Group} {width : Nat} {sp : Speed} (h : matchedSpeed g width = some sp) : inWindow g width sp :=
  (inWindow_iff g width sp).mp (List.find?_some (p := windowTest g width) h)

/-! ## Tries -/

section
variable {s : State} {n : LineNo} {c : Context} {mark width : Nat} {decoded : Char7} {stop : Bool}

theorem speedTry_ignored (hst : s.st n = .signon) (hc : s.sign[n] = some c) (failed : 0 < c.tries) (short : mark < 200) :
    s.speedTry n mark width decoded stop = s := by
  unfold State.speedTry
  rw [hst, hc]
  refine if_neg ?_
  rintro ⟨-, first | long⟩ <;> omega

theorem speedTry_tried (hst : s.st n = .signon) (hc : s.sign[n] = some c) (sense : c.phase = .sense) (tried : c.tries = 0 ∨ 200 ≤ mark) :
    s.speedTry n mark width decoded stop =
      match matchedSpeed (s.group n) width with
      | some sp => if decoded = chCR ∧ stop = true then s.passTry n c sp else s.failTry n c
      | none => s.failTry n c := by
  unfold State.speedTry
  rw [hst, hc]
  exact if_pos ⟨sense, tried⟩

theorem speedTry_passes (hst : s.st n = .signon) (hc : s.sign[n] = some c) (sense : c.phase = .sense) (tried : c.tries = 0 ∨ 200 ≤ mark)
    {sp : Speed} (window : inWindow (s.group n) width sp) (cr : decoded = 0x0D) (rest : stop = true) :
    s.speedTry n mark width decoded stop =
      ((s.setPath n { s.path[n] with speed := some sp }).setSign n (some { c with phase := .user })).takeText n (messageText [0, 1]) := by
  rw [speedTry_tried hst hc sense tried, matchedSpeed_eq_some window]
  refine (if_pos ⟨cr, rest⟩).trans ?_
  exact if_pos hst

theorem speedTry_fails (hst : s.st n = .signon) (hc : s.sign[n] = some c) (sense : c.phase = .sense) (tried : c.tries = 0 ∨ 200 ≤ mark)
    (wrong : (∀ sp, ¬inWindow (s.group n) width sp) ∨ decoded ≠ 0x0D ∨ stop = false) :
    s.speedTry n mark width decoded stop = s.failTry n c := by
  rw [speedTry_tried hst hc sense tried]
  cases found : matchedSpeed (s.group n) width with
  | none => rfl
  | some sp =>
    refine if_neg ?_
    rintro ⟨cr, rest⟩
    rcases wrong with none | other | low
    · exact none sp (matchedSpeed_inWindow found)
    · exact other cr
    · rw [rest] at low; cases low

end

/-- The third failed try (R30), just before the context enters REFUSING. -/
def thirdFailure (s : State) (n : LineNo) (c : Context) : State :=
  ((s.setSign n (some { c with tries := c.tries + 1 })).count .speedFailures).updPath n fun p => { p with speed := some (lowestSpeed (s.group n)) }

theorem failTry_third {s : State} {n : LineNo} {c : Context} (third : 3 ≤ c.tries + 1) :
    s.failTry n c = (thirdFailure s n c).enterRefusing n (refusal 9) := if_neg (Nat.not_lt.mpr third)

/-! ## The table -/

/-- The rows of Table 2-1: each speed, its code and its window. -/
theorem mem_speeds_iff (w : Speed × Nat × Nat × Nat) :
    w ∈ ([(.b110, 0, 7727, 10455), (.b150, 1, 5667, 7667), (.b300, 2, 2833, 3833), (.b600, 3, 1417, 1917), (.b1200, 4, 708, 958),
        (.b2400, 5, 354, 480)] : List (Speed × Nat × Nat × Nat)) ↔ w = (w.1, speedCode w.1, speedWindow w.1) := by
  obtain ⟨sp, row⟩ := w
  cases sp <;> simp [speedCode, speedWindow]

/-- Settles O17: a row of the table is a speed with its code and window. -/
theorem speedTrySucceedsOrFails : Obligations.SpeedTrySucceedsOrFails := by
  intro t n mark width decoded stop s c hst hc sense speeds allowed matching lowest
  have row {w : Speed × Nat × Nat × Nat} (hw : w ∈ speeds) : w = (w.1, speedCode w.1, speedWindow w.1) := (mem_speeds_iff w).mp hw
  have listed (sp : Speed) : (sp, speedCode sp, speedWindow sp) ∈ speeds := (mem_speeds_iff _).mpr rfl
  have least {w : Speed × Nat × Nat × Nat} (hw : w ∈ speeds) (h : lowest w) : lowestSpeed (s.group n) = w.1 := by
    obtain ⟨ok, lower⟩ := h
    have e := row hw
    refine lowestSpeed_eq (e ▸ ok : allowed (w.1, speedCode w.1, speedWindow w.1)) fun v hv => ?_
    exact Bool.eq_false_iff.mpr (lower _ (listed v) (by rw [e]; exact hv))
  have window {w : Speed × Nat × Nat × Nat} (hw : w ∈ speeds) (h : matching w) : inWindow (s.group n) width w.1 := by
    rw [row hw] at h
    exact h
  refine ⟨fun w hw h => least hw h, fun failed short => gives_of_eq rfl (speedTry_ignored (s := s.at t) hst hc failed short),
    fun tried => ⟨fun w hw fits cr rest => ⟨?_, fun running atRest => ?_⟩, fun wrong => ?_⟩⟩
  · have passed := speedTry_passes (s := s.at t) hst hc sense tried (window hw fits) cr rest
    exact gives_of_event rfl ((congrArg State.kept passed).trans (kept_takeText _ _ _))
  · refine leads_of_take rfl (speedTry_passes (s := s.at t) hst hc sense tried (window hw fits) cr rest) ?_
    refine textTaken_settle (v := ((s.at t).setPath n { s.path[n] with speed := some w.1 }).setSign n (some { c with phase := .user })) atRest ⟨fun m => ?_, rfl, rfl, fun m => rfl, fun m => (atRest m).1, rfl⟩ (decide_eq_true running) (by rw [hst]; rfl)
      (messageText [0, 1]) _ _
    show output (s.path.set n _)[m] = _
    rw [vector_set_get]
    split
    · next e => subst e; rfl
    · rfl
  · have fails : (s.at t).speedTry n mark width decoded stop = (s.at t).failTry n c := by
      refine speedTry_fails (s := s.at t) hst hc sense tried (wrong.imp_left fun none sp h => ?_)
      exact none _ (listed sp) h
    refine ⟨fun few => gives_of_eq rfl (fails.trans (if_pos few)), fun third => leads_of_take rfl (fails.trans (failTry_third third)) ?_⟩
    have refused := refused_settle (s := thirdFailure (s.at t) n c) (n := n) (c := { c with tries := c.tries + 1 }) (vector_set_get_self _ _ _)
      (by rw [show ({ c with tries := c.tries + 1 } : Context).phase = c.phase from rfl, sense]; decide) (refusal 9) (s.at t) false
    refine ⟨(congrArg Counters.speedFailures refused.counters).trans rfl, fun w hw h => ?_, refused.refuse, refused.sign⟩
    rw [← least hw h]
    exact refused.speed.trans (congrArg Path.speed (vector_set_get_self _ _ _))

end Sys2Proof.Proofs.SpeedTries
end

section
/-! CR in a sign-on (R56 to R60, R64): each branch of the character is an equation, and the event leaves of it what the closing work keeps. -/

namespace Sys2Proof.Proofs.CarriageReturns

open Sys2Proof Sys2Proof.Machine Sys2Proof.Proofs.Lines Sys2Proof.Proofs.Closing Sys2Proof.Proofs.Disconnect Sys2Proof.Proofs.Texts
open Sys2Proof.Proofs.SignOnTimers Sys2Proof.Proofs.HangUp Sys2Proof.Proofs.Proving

/-! ## Output after an event -/

/-- What an event leaves of the output of a line on a call with no text waiting (R44). -/
theorem sent_settle {v : State} {n : LineNo} (slot : v.path[n].slot = none) (hold : v.entersHold n = false) (call : (v.st n).onCall = true)
    (before : State) (every : Bool) :
    (v.path[n].tx.isSome = true →
        (v.settle before every).path[n].tx = v.path[n].tx ∧ (v.settle before every).path[n].outQ = v.path[n].outQ) ∧
      (v.loader = .running →
        (v.settle before every).path[n].tx = (Path.started v.path[n]).tx ∧ (v.settle before every).path[n].outQ = (Path.started v.path[n]).outQ) := by
  have runs (started : v.started = true) :
      (v.settle before every).path[n].tx = (Path.started v.path[n]).tx ∧ (v.settle before every).path[n].outQ = (Path.started v.path[n]).outQ := by
    obtain ⟨f, e⟩ := settle_path v before every n started slot hold
    rw [if_pos call] at e
    rw [e]
    exact ⟨rfl, rfl⟩
  refine ⟨fun sends => ?_, fun running => runs (decide_eq_true running)⟩
  cases started : v.started with
  | false =>
    rw [Commands.settle_of_not_started before every started]
    exact ⟨rfl, rfl⟩
  | true =>
    have stands := started_tx _ (Option.isSome_iff_ne_none.mp sends)
    have := runs started
    rwa [stands] at this

/-- A context is nothing that the output reads. -/
theorem sameOutput_setSign {s : State} (rest : OutputAtRest s) (t : Moment) (n : LineNo) (c : Option Context) :
    SameOutput s ((s.at t).setSign n c) := ⟨fun _ => rfl, rfl, rfl, fun _ => rfl, fun m => (rest m).1, rfl⟩

/-! ## Characters of a sign-on -/

section
variable {s : State} {n : LineNo} {c : Context}

/-- A character that passes the parity check reaches the sign-on of its line (R54). -/
theorem receiveChar_signon {ch : Char7} {parity : Bool} (hst : s.st n = .signon) (speed : s.path[n].speed.isSome = true)
    (passes : parityPasses (s.group n).parity ch parity = true) : s.receiveChar n ch parity = s.signOnChar n ch := by
  unfold State.receiveChar State.handChar
  rw [if_pos ((receiving_iff s n).mpr ⟨by rw [hst]; rfl, speed⟩), if_pos passes, hst]

theorem signOnChar_user (hc : s.sign[n] = some c) (phase : c.phase = .user) (ch : Char7) : s.signOnChar n ch = s.userChar n c ch := by
  unfold State.signOnChar
  rw [hc]
  dsimp only
  rw [phase]

theorem signOnChar_code (hc : s.sign[n] = some c) (phase : c.phase = .code) (ch : Char7) : s.signOnChar n ch = s.codeChar n c ch := by
  unfold State.signOnChar
  rw [hc]
  dsimp only
  rw [phase]

theorem signOnChar_other (hc : s.sign[n] = some c) (user : c.phase ≠ .user) (code : c.phase ≠ .code) (ch : Char7) : s.signOnChar n ch = s := by
  unfold State.signOnChar
  rw [hc]
  dsimp only
  split
  · next e => exact absurd e user
  · next e => exact absurd e code
  all_goals rfl

/-! ## CR -/

theorem userChar_cr : s.userChar n c 0x0D = s.endUserField n c := rfl

theorem codeChar_cr : s.codeChar n c 0x0D = s.enterAsking n c := rfl

theorem endUserField_number (hst : s.st n = .signon) (number : c.user ≠ 0) :
    s.endUserField n c = (s.setSign n (some { c with code := [], phase := .code })).takeText n (messageText [2]) := by
  unfold State.endUserField
  exact (if_neg number).trans (if_pos hst)

theorem failAttempt_again (hst : s.st n = .signon) (few : c.attempts + 1 < 3) :
    s.failAttempt n c =
      (s.setSign n (some { c with attempts := c.attempts + 1, phase := .user, digits := [], code := [], replyWait := none })).takeText n
        (messageText [3, 1]) := by
  unfold State.failAttempt
  exact (if_pos few).trans (if_pos hst)

theorem failAttempt_last (many : 3 ≤ c.attempts + 1) :
    s.failAttempt n c = (s.setSign n (some { c with attempts := c.attempts + 1 })).enterRefusing n (refusal 3) := by
  unfold State.failAttempt
  exact if_neg (Nat.not_lt.mpr many)

theorem endUserField_zero (zero : c.user = 0) : s.endUserField n c = s.failAttempt n c := by
  unfold State.endUserField
  exact if_pos zero

/-- Whether an accountant can be asked (R59). -/
theorem asked_iff (s : State) :
    (s.cfg.noAccountant || !s.accountantPresent) = false ↔
      s.cfg.noAccountant = false ∧ ∃ i : Station, s.roster[i].age < 3 ∧ s.roster[i].roles.accountant = true := by
  rw [Bool.or_eq_false_iff, Bool.not_eq_false', accountantPresent_iff]
  simp only [accountant_iff]

/-- The context that asks an accountant (R59). -/
def askingState (s : State) (n : LineNo) (c : Context) : State :=
  let s1 : State := { s with requestSerial := s.requestSerial + 1 }
  let s2 := s1.setSign n (some { c with
    phase := .asking, requestSerial := some s.requestSerial, answered := false, replyWait := some (s.now + 1000 * s.cfg.replyWait) })
  s2.setClaims n { s2.claims[n] with admitConfirm := false }

theorem enterAsking_asked (asked : (s.cfg.noAccountant || !s.accountantPresent) = false) :
    s.enterAsking n c = (askingState s n c).raise (.admitReq n) := by
  unfold State.enterAsking
  exact if_neg (Bool.eq_false_iff.mp asked)

theorem enterAsking_admitted (unasked : (s.cfg.noAccountant || !s.accountantPresent) = true) (enabled : s.cfg.provisionalEnable = true) :
    s.enterAsking n c = s.enterClaiming n { c with granted := some s.cfg.provisional, provisional := true } := by
  unfold State.enterAsking State.admitProvisionally
  exact (if_pos unasked).trans (if_pos enabled)

theorem enterAsking_refused (unasked : (s.cfg.noAccountant || !s.accountantPresent) = true) (disabled : s.cfg.provisionalEnable = false) :
    s.enterAsking n c = s.enterRefusing n (refusal 8) := by
  unfold State.enterAsking State.admitProvisionally
  exact (if_pos unasked).trans (if_neg (Bool.eq_false_iff.mp disabled))

/-- No character of a sign-on touches a line record. -/
theorem signOnChar_cr_sup (hc : s.sign[n] = some c) : (s.signOnChar n 0x0D).sup = s.sup := by
  have text (u : State) (t : Text) : (u.signOnText n t).sup = u.sup := by
    unfold State.signOnText
    split
    · exact takeText_sup u n t
    · rfl
  unfold State.signOnChar
  rw [hc]
  dsimp only
  split
  · rw [userChar_cr]
    unfold State.endUserField
    split
    · unfold State.failAttempt
      dsimp only
      split
      · exact text _ _
      · exact enterRefusing_sup _ n _
    · exact text _ _
  · rw [codeChar_cr]
    unfold State.enterAsking State.admitProvisionally
    repeat' split
    · exact enterClaiming_sup s n _
    · exact enterRefusing_sup s n _
    · exact raise_sup _ _
  all_goals rfl

end

theorem setSign_self (s : State) (n : LineNo) (c : Option Context) : (s.setSign n c).sign[n] = c := vector_set_get_self _ _ _

/-- Settles O20: one clause per phase and branch. -/
theorem carriageReturnEndsAField : Obligations.CarriageReturnEndsAField := by
  intro t n parity s c hst hc speed passes
  refine leads_of_take rfl (receiveChar_signon (s := s.at t) hst speed passes) ?_
  intro asked
  have hcAt : (s.at t).sign[n] = some c := hc
  have hstAt : (s.at t).st n = .signon := hst
  have call : (s.st n).onCall = true := by rw [hst]; rfl
  have askedIff : ((s.at t).cfg.noAccountant || !(s.at t).accountantPresent) = false ↔ asked := asked_iff (s.at t)
  have unasked (no : ¬asked) : ((s.at t).cfg.noAccountant || !(s.at t).accountantPresent) = true :=
    Bool.not_eq_false _ ▸ fun e => no (askedIff.mp e)
  have taken (rest : OutputAtRest s) (running : s.loader = .running) (c' : Context) (text : Text) :
      TextTaken s ((((s.at t).setSign n (some c')).takeText n text).settle (s.at t) false) n text :=
    textTaken_settle rest (sameOutput_setSign rest t n _) (decide_eq_true running) call text _ _
  have signed (v : State) (c' : Context) (text : Text) (h : v = ((s.at t).setSign n (some c')).takeText n text) :
      (v.settle (s.at t) false).sign[n] = some c' := by
    have kept := (settle_kept v (s.at t) false).trans ((congrArg State.kept h).trans (kept_takeText _ _ _))
    rw [eq_of_kept_sign kept, setSign_self]
  refine ⟨(settle_sup _ _ _).trans (signOnChar_cr_sup hcAt), fun phase number => ?_, fun phase zero few => ?_, fun phase zero many => ?_,
    fun user code => ?_, fun phase yes => ?_, fun phase no enabled => ?_, fun phase no disabled => ?_⟩
  · have e := (signOnChar_user hcAt phase 0x0D).trans (endUserField_number hstAt number)
    refine ⟨signed _ { c with code := [], phase := .code } _ e, fun running rest => ?_⟩
    rw [e]
    exact taken rest running _ _
  · have e := (signOnChar_user hcAt phase 0x0D).trans ((endUserField_zero zero).trans (failAttempt_again hstAt few))
    refine ⟨(signed _ _ _ e).trans (by rw [← phase]), fun running rest => ?_⟩
    rw [e]
    exact taken rest running _ _
  · have e := (signOnChar_user hcAt phase 0x0D).trans ((endUserField_zero zero).trans (failAttempt_last many))
    rw [e]
    have refused := refused_settle (setSign_self (s.at t) n (some { c with attempts := c.attempts + 1 }))
      (by rw [show ({ c with attempts := c.attempts + 1 } : Context).phase = c.phase from rfl, phase]; decide) (refusal 3) (s.at t) false
    exact ⟨refused.sign, refused.refuse⟩
  · rw [signOnChar_other hcAt user code]
    refine ⟨settle_kept _ _ _, fun slot hold => ?_⟩
    obtain ⟨sending, idle⟩ := sent_settle (v := s.at t) slot hold call (s.at t) false
    exact ⟨sending, fun running _ => idle running⟩
  · have e := (signOnChar_code hcAt phase 0x0D).trans (enterAsking_asked (askedIff.mpr yes))
    rw [e]
    have kept := (settle_kept ((askingState (s.at t) n c).raise (.admitReq n)) (s.at t) false).trans (kept_raise _ _)
    refine ⟨?_, eq_of_kept_requestSerial kept, settle_keeps_pending _ _ _ _ (raised_pending _ _)⟩
    rw [eq_of_kept_sign kept]
    exact vector_set_get_self _ _ _
  · rw [signOnChar_code hcAt phase 0x0D, codeChar_cr, enterAsking_admitted (unasked no) enabled]
    have claimed := claimed_settle (s.at t) n { c with granted := some s.cfg.provisional, provisional := true } (s.at t) false
    exact ⟨claimed.sign, claimed.sessionSerial, claimed.pending⟩
  · rw [signOnChar_code hcAt phase 0x0D, codeChar_cr, enterAsking_refused (unasked no) disabled]
    have refused := refused_settle hcAt (by rw [phase]; decide) (refusal 8) (s.at t) false
    exact ⟨refused.sign, refused.refuse⟩

end Sys2Proof.Proofs.CarriageReturns
end

section
/-! Characters of the USER and CODE fields (R55, R57, Table 3-3). On a sound queue every echo that is taken lowers the room by one place, so that as many
are taken as the room had places at the start. -/

namespace Sys2Proof.Proofs.SignOnFields

open Sys2Proof Sys2Proof.Machine Sys2Proof.Proofs.Lines Sys2Proof.Proofs.Disconnect Sys2Proof.Proofs.Texts Sys2Proof.Proofs.CarriageReturns

/-! ## Echoes -/

theorem append_nil (q : Queue) : q.append [] = q := by
  unfold Queue.append
  rw [List.append_nil]

theorem append_append (q : Queue) (a b : List Char7) : (q.append a).append b = q.append (a ++ b) := by
  unfold Queue.append
  rw [List.append_assoc]

theorem ok_append {q : Queue} (ok : q.ok) (c : Char7) (cs : List Char7) : (q.append (c :: cs)).ok :=
  ⟨ok.1, fun empty => absurd empty (by simp [Queue.append])⟩

/-- The blocks and the unwritten places of a sound queue, by the places read and written (R31, R32). -/
theorem blocks_of_ok {q : Queue} (ok : q.ok) : q.blocks = (q.read + q.chars.length + 15) / 16 := by
  unfold Queue.blocks
  split
  · next empty =>
    rw [empty, ok.2 empty]
    rfl
  · rfl

theorem unwritten_of_ok {q : Queue} (ok : q.ok) : q.unwritten = 16 * ((q.read + q.chars.length + 15) / 16) - (q.read + q.chars.length) := by
  unfold Queue.unwritten
  rw [blocks_of_ok ok]
  split
  · next empty =>
    rw [empty, ok.2 empty]
    rfl
  · rfl

/-- A place taken on a sound queue (R32). -/
theorem outRoom_sendOut_one {s : State} {n : LineNo} (ok : s.path[n].outQ.ok) (room : 1 ≤ s.outRoom n) (c : Char7) :
    (s.sendOut n [c]).outRoom n + 1 = s.outRoom n := by
  have okAppend := ok_append ok c []
  have length : (s.path[n].outQ.append [c]).chars.length = s.path[n].outQ.chars.length + 1 := List.length_append
  have read : (s.path[n].outQ.append [c]).read = s.path[n].outQ.read := rfl
  have free : (s.sendOut n [c]).free = s.free + s.path[n].outQ.blocks - (s.path[n].outQ.append [c]).blocks := rfl
  have group : (s.sendOut n [c]).group n = s.group n := rfl
  unfold State.outRoom Path.held at room ⊢
  dsimp only at room ⊢
  rw [sendOut_self, free, group]
  dsimp only
  rw [unwritten_of_ok ok, blocks_of_ok ok] at *
  rw [unwritten_of_ok okAppend, blocks_of_ok okAppend, read, length]
  simp only [blockSize] at *
  omega

/-- An echo changes nothing but the outbound queue, the free list and the counter of echoes lost. -/
theorem sendEchoes_keeps {α : Type} {g : State → α} (out : ∀ s n q, g (State.setOut s n q) = g s) (lost : ∀ s : State, g (s.count .echoesLost) = g s)
    (s : State) (n : LineNo) (cs : List Char7) : g (s.sendEchoes n cs) = g s := by
  unfold State.sendEchoes
  induction cs generalizing s with
  | nil => rfl
  | cons c cs ih =>
    rw [List.foldl_cons, ih]
    unfold State.sendEcho
    split
    · exact out s n _
    · exact lost s

/-- As many echoes are taken as the room has places, and the others are counted (R33, R55). -/
theorem sendEchoes_spec (s : State) (n : LineNo) (cs : List Char7) (ok : s.path[n].outQ.ok) :
    (s.sendEchoes n cs).path[n] = { s.path[n] with outQ := s.path[n].outQ.append (cs.take (s.outRoom n)) } ∧
      (s.sendEchoes n cs).counters.echoesLost = (cs.drop (s.outRoom n)).foldl (fun k _ => sat16 k) s.counters.echoesLost := by
  unfold State.sendEchoes
  induction cs generalizing s with
  | nil =>
    rw [List.take_nil, append_nil, List.drop_nil]
    exact ⟨rfl, rfl⟩
  | cons c cs ih =>
    rw [List.foldl_cons]
    by_cases room : 1 ≤ s.outRoom n
    · have taken : s.sendEcho n c = s.sendOut n [c] := if_pos room
      have less := outRoom_sendOut_one ok room c
      have self := sendOut_self s n [c]
      obtain ⟨path, lost⟩ := ih (s.sendOut n [c]) (by rw [self]; exact ok_append ok c [])
      rw [taken, path, lost, self, ← less, List.take_succ_cons, List.drop_succ_cons]
      dsimp only
      rw [append_append]
      exact ⟨rfl, rfl⟩
    · have dropped : s.sendEcho n c = s.count .echoesLost := if_neg room
      have full : s.outRoom n = 0 := by omega
      obtain ⟨path, lost⟩ := ih (s.count .echoesLost) ok
      have still : (s.count .echoesLost).outRoom n = 0 := full
      rw [still, List.take_zero] at path
      rw [still, List.drop_zero] at lost
      rw [dropped, path, lost, full, List.take_zero, List.drop_zero]
      exact ⟨rfl, rfl⟩

/-! ## What a character makes of a field -/

/-- The digits after a character in USER (R55). -/
def newDigits (digits : List (Fin 10)) (ch : Char7) : List (Fin 10) :=
  if ch = 0x18 then [] else if ch = 0x08 ∨ ch = 0x7F then digits.dropLast
  else match digitOf ch with
    | some d => if digits.length < 6 then digits ++ [d] else digits
    | none => digits

/-- The characters echoed in USER (Table 3-3). -/
def echoesOf (digits : List (Fin 10)) (ch : Char7) : List Char7 :=
  if ch = 0x08 ∨ ch = 0x7F then (if digits = [] then [0x07] else [0x08, 0x20, 0x08])
  else if (digitOf ch).isSome = true ∧ digits.length < 6 then [ch] else [0x07]

/-- The code after a character in CODE (R57). -/
def newCode (code : List Char7) (ch : Char7) : List Char7 :=
  if ch = 0x18 then [] else if ch = 0x08 ∨ ch = 0x7F then code.dropLast
  else if 0x20 ≤ ch.toNat ∧ ch.toNat ≤ 0x7E ∧ code.length < 8 then code ++ [ch] else code

section
variable {s : State} {n : LineNo} {c : Context} {ch : Char7}

theorem setSign_same (hc : s.sign[n] = some c) : s.setSign n (some c) = s := by
  have same : s.sign.set n (some c) = s.sign := by
    refine vector_ext_fin fun m => ?_
    rw [vector_set_get]
    split
    · next e => subst e; exact hc.symm
    · rfl
  unfold State.setSign
  rw [same]

/-- The control characters of a field are no digits. -/
theorem not_control_of_digit {d : Fin 10} (h : digitOf ch = some d) : ch ≠ 0x18 ∧ ¬(ch = 0x08 ∨ ch = 0x7F) := by
  refine ⟨?_, ?_⟩
  · rintro rfl
    cases h
  · rintro (rfl | rfl) <;> cases h

/-- A character in USER that is neither CR nor CAN (R55, Table 3-3). -/
theorem userChar_eq (hc : s.sign[n] = some c) (cr : ch ≠ 0x0D) (can : ch ≠ 0x18) :
    s.userChar n c ch = (s.setSign n (some { c with digits := newDigits c.digits ch })).sendEchoes n (echoesOf c.digits ch) := by
  unfold State.userChar newDigits echoesOf
  rw [if_neg can]
  cases digit : digitOf ch with
  | some d =>
    obtain ⟨-, erase⟩ := not_control_of_digit digit
    rw [if_neg erase, if_neg erase]
    dsimp only
    by_cases short : c.digits.length < 6
    · rw [if_pos short, if_pos short, if_pos ⟨rfl, short⟩]
    · rw [if_neg short, if_neg short, if_neg fun h => short h.2]
      show s.sendEchoes n [chBEL] = (s.setSign n (some c)).sendEchoes n [chBEL]
      rw [setSign_same hc]
  | none =>
    dsimp only
    by_cases erase : ch = 0x08 ∨ ch = 0x7F
    · rw [if_pos erase, if_pos erase]
      refine (if_pos erase).trans ?_
      by_cases empty : c.digits = []
      · have dropped : c.digits.dropLast = c.digits := by rw [empty]; rfl
        have same : ({ c with digits := c.digits.dropLast } : Context) = c := by rw [dropped]
        rw [if_pos empty, if_pos empty, same, setSign_same hc]
        rfl
      · rw [if_neg empty, if_neg empty]
        rfl
    · rw [if_neg erase, if_neg erase]
      refine (if_neg erase).trans ((if_neg can).trans ((if_neg cr).trans ?_))
      show s.sendEchoes n [chBEL] = (s.setSign n (some c)).sendEchoes n [chBEL]
      rw [setSign_same hc]

theorem userChar_can (hst : s.st n = .signon) : s.userChar n c 0x18 = (s.setSign n (some { c with digits := [] })).takeText n (messageText [1]) :=
  if_pos hst

theorem printable_iff (ch : Char7) : printable ch = true ↔ 0x20 ≤ ch.toNat ∧ ch.toNat ≤ 0x7E := by
  simp [printable]

/-- A character in CODE that is not CR (R57). -/
theorem codeChar_eq (hc : s.sign[n] = some c) (cr : ch ≠ 0x0D) : s.codeChar n c ch = s.setSign n (some { c with code := newCode c.code ch }) := by
  have still : s = s.setSign n (some { c with code := c.code }) := (setSign_same hc).symm
  unfold State.codeChar newCode
  refine (if_neg cr).trans ?_
  by_cases plain : printable ch = true
  · obtain ⟨low, high⟩ := (printable_iff ch).mp plain
    have can : ch ≠ 0x18 := by rintro rfl; exact absurd low (by decide)
    have erase : ¬(ch = 0x08 ∨ ch = 0x7F) := by
      rintro (rfl | rfl)
      · exact absurd low (by decide)
      · exact absurd high (by decide)
    rw [if_pos plain, if_neg can, if_neg erase]
    by_cases short : c.code.length < 8
    · rw [if_pos short, if_pos ⟨low, high, short⟩]
    · rw [if_neg short, if_neg fun h => short h.2.2]
      exact still
  · rw [if_neg plain]
    have unfit : ¬(0x20 ≤ ch.toNat ∧ ch.toNat ≤ 0x7E ∧ c.code.length < 8) := fun h => plain ((printable_iff ch).mpr ⟨h.1, h.2.1⟩)
    by_cases can : ch = 0x18
    · subst can
      rfl
    · rw [if_neg can]
      by_cases erase : ch = 0x08 ∨ ch = 0x7F
      · rw [if_pos erase]
        exact if_pos erase
      · rw [if_neg erase, if_neg unfit]
        exact (if_neg erase).trans ((if_neg can).trans still)

end

theorem setOut_inQ (s : State) (m n : LineNo) (q : Queue) : (s.setOut m q).path[n].inQ = s.path[n].inQ := by
  show (s.path.set m { s.path[m] with outQ := q })[n].inQ = _
  rw [vector_set_get]
  split
  · next e => subst e; rfl
  · rfl

/-- The event of a character whose echoes are sent, seen from the line. -/
theorem echoes_settle {s : State} {t : Moment} {n : LineNo} {c : Context} (call : (s.st n).onCall = true) (sent : List Char7) :
    let u := (((s.at t).setSign n (some c)).sendEchoes n sent).settle (s.at t) false
    u.sup = s.sup ∧ u.claims = s.claims ∧ u.path[n].inQ = s.path[n].inQ ∧ u.sign = s.sign.set n (some c) ∧
      (s.path[n].outQ.ok →
        u.counters.echoesLost = (sent.drop (s.outRoom n)).foldl (fun k _ => sat16 k) s.counters.echoesLost ∧
          (s.path[n].slot = none → s.entersHold n = false →
            (s.path[n].tx.isSome = true → u.path[n].tx = s.path[n].tx ∧ u.path[n].outQ = s.path[n].outQ.append (sent.take (s.outRoom n))) ∧
              (s.loader = .running →
                u.path[n].tx = (Path.started { s.path[n] with outQ := s.path[n].outQ.append (sent.take (s.outRoom n)) }).tx ∧
                  u.path[n].outQ = (Path.started { s.path[n] with outQ := s.path[n].outQ.append (sent.take (s.outRoom n)) }).outQ))) := by
  intro u
  have spec := sendEchoes_spec ((s.at t).setSign n (some c)) n sent
  have keeps := sendEchoes_keeps (g := fun v : State => (v.sup, v.claims, v.sign, v.sess, v.roster, v.bus, v.loader)) (fun _ _ _ => rfl) (fun _ => rfl)
    ((s.at t).setSign n (some c)) n sent
  have inQ := sendEchoes_keeps (g := fun v : State => v.path[n].inQ) (fun v m q => setOut_inQ v m n q) (fun _ => rfl) ((s.at t).setSign n (some c)) n sent
  have kept := settle_kept (((s.at t).setSign n (some c)).sendEchoes n sent) (s.at t) false
  have output := fun slot hold call => sent_settle (v := ((s.at t).setSign n (some c)).sendEchoes n sent) (n := n) slot hold call (s.at t) false
  change u.kept = _ at kept
  change ∀ slot hold call, (_ → u.path[n].tx = _ ∧ u.path[n].outQ = _) ∧ (_ → u.path[n].tx = _ ∧ u.path[n].outQ = _) at output
  clear_value u
  generalize ((s.at t).setSign n (some c)).sendEchoes n sent = v at *
  simp only [Prod.mk.injEq] at keeps
  obtain ⟨sup, claims, sign, sess, roster, bus, loader⟩ := keeps
  refine ⟨(eq_of_kept_sup kept).trans sup, (eq_of_kept_claims kept).trans claims, ?_, (eq_of_kept_sign kept).trans sign, fun ok => ?_⟩
  · exact (congrArg Path.inQ (eq_of_kept_inward kept n) : u.path[n].inward.inQ = _).trans inQ
  · obtain ⟨path, lost⟩ := spec ok
    have path : v.path[n] = { s.path[n] with outQ := s.path[n].outQ.append (sent.take (s.outRoom n)) } := path
    refine ⟨(congrArg (fun w : State => w.counters.echoesLost) kept : u.kept.counters.echoesLost = _).trans lost, fun slot hold => ?_⟩
    have calls : (v.st n).onCall = true := by unfold State.st; rw [sup]; exact call
    obtain ⟨sending, idle⟩ := output (by rw [path]; exact slot) ((entersHold_congr (s := s) sess roster bus n).trans hold) calls
    rw [path] at sending idle
    exact ⟨sending, fun running => idle (loader.trans running)⟩

theorem ite_append_nil (q : Queue) (l : List Char7) : (if l = [] then q else q.append l) = q.append l := by
  split
  · next e => rw [e, append_nil]
  · rfl

/-- Settles O19: a character of USER is a new field and its echoes, CAN a new field and M1, one of CODE a new field, and any other nothing. -/
theorem signOnCharactersCollectFields : Obligations.SignOnCharactersCollectFields := by
  intro t n ch parity s c hst hc speed passes cr
  have received := receiveChar_signon (s := s.at t) hst speed passes
  have hcAt : (s.at t).sign[n] = some c := hc
  have hstAt : (s.at t).st n = .signon := hst
  have call : (s.st n).onCall = true := by rw [hst]; rfl
  by_cases cancel : c.phase = .user ∧ ch = 0x18
  · obtain ⟨user, rfl⟩ := cancel
    refine leads_of_take rfl (received.trans ((signOnChar_user hcAt user _).trans (userChar_can hstAt))) ?_
    have kept := (settle_kept (((s.at t).setSign n (some { c with digits := [] })).takeText n (messageText [1])) (s.at t) false).trans
      (kept_takeText _ _ _)
    refine ⟨(eq_of_kept_sup kept).trans rfl, (eq_of_kept_claims kept).trans rfl, ?_, { c with digits := [] }, eq_of_kept_sign kept, fun _ => ⟨rfl, rfl⟩, fun code => ?_,
      fun other _ => absurd user other, fun _ _ running rest => ?_, fun other => absurd ⟨user, rfl⟩ other⟩
    · exact (congrArg Path.inQ (eq_of_kept_inward kept n) : _ = Path.inQ _)
    · rw [user] at code
      cases code
    · exact textTaken_settle rest (sameOutput_setSign rest t n _) (decide_eq_true running) call _ _ _
  · have effect : ∃ c' : Context, (s.at t).receiveChar n ch parity =
        ((s.at t).setSign n (some c')).sendEchoes n (if c.phase ≠ .user then [] else echoesOf c.digits ch) ∧
        (c.phase = .user → c' = { c with digits := newDigits c.digits ch }) ∧ (c.phase = .code → c' = { c with code := newCode c.code ch }) ∧
          (c.phase ≠ .user → c.phase ≠ .code → c' = c) := by
      by_cases user : c.phase = .user
      · have notCode : c.phase ≠ .code := by rw [user]; decide
        refine ⟨_, ?_, fun _ => rfl, fun code => absurd code notCode, fun other => absurd user other⟩
        rw [if_neg (not_not_intro user)]
        exact received.trans ((signOnChar_user hcAt user ch).trans (userChar_eq hcAt cr fun can => cancel ⟨user, can⟩))
      · rw [if_pos user]
        by_cases code : c.phase = .code
        · refine ⟨_, ?_, fun h => absurd h user, fun _ => rfl, fun _ other => absurd code other⟩
          exact received.trans ((signOnChar_code hcAt code ch).trans (codeChar_eq hcAt cr))
        · refine ⟨c, ?_, fun h => absurd h user, fun h => absurd h code, fun _ _ => rfl⟩
          exact received.trans ((signOnChar_other hcAt user code ch).trans (setSign_same hcAt).symm)
    obtain ⟨c', effect, user, code, other⟩ := effect
    refine leads_of_take rfl effect ?_
    obtain ⟨sup, claims, inQ, sign, sent⟩ := echoes_settle (s := s) (t := t) (n := n) (c := c') call (if c.phase ≠ .user then [] else echoesOf c.digits ch)
    refine ⟨sup, claims, inQ, c', sign, fun h => ?_, fun h => ?_, other, fun h can => absurd ⟨h, can⟩ cancel, fun _ ok => ?_⟩
    · rw [user h]
      exact ⟨rfl, rfl⟩
    · rw [code h]
      exact ⟨rfl, rfl⟩
    · obtain ⟨lost, output⟩ := sent ok
      refine ⟨lost, fun slot hold => ?_⟩
      obtain ⟨sending, idle⟩ := output slot hold
      dsimp only
      rw [ite_append_nil]
      exact ⟨sending, fun running _ => idle running⟩

end Sys2Proof.Proofs.SignOnFields
end

section
/-! A reply for a line whose context is not in SIGNON (R45, R61). The statement asks only that the line holds a context, and not that the line is in SIGNON,
which `CallsOk` would give: a line in IDLE that holds one takes the reply but not the text of M3 and M1. -/

namespace Sys2Proof.Proofs.StrayContexts

open Sys2Proof Sys2Proof.Machine Sys2Proof.Proofs.UnsoundQueues

set_option maxRecDepth 100000

/-- A context that waits for the reply to request serial 0. -/
def waiting : Context :=
  { phase := .asking, tries := 0, attempts := 0, digits := [], code := [], requestSerial := some 0, answered := false, replyWait := none,
    signOnTimer := none, provisional := false, lateConfirmed := false, granted := none, sessionSerial := none, claimRaised := false, admitted := false,
    heldReply := none }

/-- Line 0 holds the context, is not in SIGNON, and its transmitter is sending. -/
def stray : State := (running.setSign 0 (some waiting)).setPath 0 { Path.fresh with tx := some 0x41 }

/-- The verdict UNKNOWN of station 15. -/
def unknown : ReplyPayload := ⟨0, 0, 1, 0, 0, 0, 0, 0⟩

/-- The first attempt is used up and no text stands in the queue. -/
theorem attempt_without_text : after (.admitReply 0 15 unknown) stray (fun u => u.path[(0 : LineNo)].outQ.chars) = some [] := by decide

/-- Refutes O23: the reply UNKNOWN to a context of a line out of SIGNON sends no text. -/
theorem not_repliesDecideOrAreStale : ¬Obligations.RepliesDecideOrAreStale := by
  intro h
  have rest : OutputAtRest stray := by
    unfold OutputAtRest
    decide
  obtain ⟨-, -, -, decided⟩ := h 0 15 unknown stray rfl (by decide) (.inr rfl)
  obtain ⟨u, e, -, -, -, text⟩ := (decided 0 waiting (by decide) rfl rfl rfl rfl).1 rfl
  obtain ⟨-, queued, -⟩ := text rest
  have room : (textChars stray.cfg ⟨[.message 3, .message 1], none⟩).length ≤ stray.outRoom 0 := by decide
  obtain ⟨-, standing⟩ := queued rfl
  rw [if_pos room] at standing
  have empty := (after_of_next e fun u => u.path[(0 : LineNo)].outQ.chars).symm.trans attempt_without_text
  rw [standing.2] at empty
  exact absurd empty (by decide)

end Sys2Proof.Proofs.StrayContexts
end

section
/-! DC1, DC3, attention characters and BREAK (R34, R35, R44, R70). The effect of each is an equation; `Touched` says what of the output the closing work
then makes of the line's path. -/

namespace Sys2Proof.Proofs.TerminalControls

open Sys2Proof Sys2Proof.Machine Sys2Proof.Proofs.Lines Sys2Proof.Proofs.Closing Sys2Proof.Proofs.Disconnect Sys2Proof.Proofs.Texts
open Sys2Proof.Proofs.HangUp Sys2Proof.Proofs.CarriageReturns

/-! ## A line whose path an effect has touched -/

/-- The effect of an event on one line on a call: its path, and no line record, loader or hold condition. -/
structure Touched (s v : State) (n : LineNo) (p : Path) : Prop where
  path : v.path[n] = p
  sup : v.sup = s.sup
  loader : v.loader = s.loader
  hold : v.entersHold n = s.entersHold n

section
variable {s v : State} {n : LineNo} {p : Path}

theorem Touched.output (h : Touched s v n p) (call : (s.st n).onCall = true) (slot : p.slot = none) (hold : s.entersHold n = false) (before : State)
    (every : Bool) :
    (p.tx.isSome = true → (v.settle before every).path[n].tx = p.tx ∧ (v.settle before every).path[n].outQ = p.outQ) ∧
      (s.loader = .running →
        (v.settle before every).path[n].tx = (Path.started p).tx ∧ (v.settle before every).path[n].outQ = (Path.started p).outQ) := by
  have calls : (v.st n).onCall = true := by unfold State.st; rw [h.sup]; exact call
  obtain ⟨sends, runs⟩ := sent_settle (v := v) (by rw [h.path]; exact slot) (h.hold.trans hold) calls before every
  rw [h.path] at sends runs
  exact ⟨sends, fun running => runs (h.loader.trans running)⟩

/-- A transmitter takes nothing from a queue without characters (R44). -/
theorem started_outQ_of_empty (empty : p.outQ.chars = []) : (Path.started p).outQ = p.outQ := by
  unfold Path.started
  split
  · rfl
  · rfl
  · next e => rw [empty] at e; cases e
  · rfl

/-- The output of a line with an empty queue and no text waiting. -/
theorem Touched.empty (h : Touched s v n p) (call : (s.st n).onCall = true) (slot : p.slot = none) (hold : s.entersHold n = false)
    (empty : p.outQ.chars = []) (before : State) (every : Bool) :
    (v.settle before every).path[n].outQ = p.outQ ∧ (v.settle before every).path[n].slot = none := by
  have calls : (v.st n).onCall = true := by unfold State.st; rw [h.sup]; exact call
  cases started : v.started with
  | false => rw [Commands.settle_of_not_started before every started, h.path]; exact ⟨rfl, slot⟩
  | true =>
    obtain ⟨f, e⟩ := settle_path v before every n started (by rw [h.path]; exact slot) (h.hold.trans hold)
    rw [if_pos calls, h.path] at e
    rw [e]
    exact ⟨started_outQ_of_empty empty, (started_slot p).trans slot⟩

end

/-! ## Characters of a session -/

section
variable {s : State} {n : LineNo} {x : Session} {c : Char7} {parity : Bool}

theorem receiveChar_session (hst : s.st n = .session) (hx : s.sess[n] = some x) (speed : s.path[n].speed.isSome = true)
    (passes : parityPasses (s.group n).parity c parity = true) : s.receiveChar n c parity = s.sessionChar n x c := by
  unfold State.receiveChar State.handChar
  rw [if_pos ((receiving_iff s n).mpr ⟨by rw [hst]; rfl, speed⟩), if_pos passes, hst, hx]

theorem receiveChar_closing (hst : s.st n = .closing) (speed : s.path[n].speed.isSome = true)
    (passes : parityPasses (s.group n).parity c parity = true) : s.receiveChar n c parity = s.closingChar n c := by
  unfold State.receiveChar State.handChar
  rw [if_pos ((receiving_iff s n).mpr ⟨by rw [hst]; rfl, speed⟩), if_pos passes, hst]

/-- DC3 and DC1 are the two flow commands (R34). -/
theorem flowCommand_control {g : Group} (watches : g.xonXoff = true) (pause : Bool) : flowCommand g (if pause then 0x13 else 0x11) = some pause := by
  unfold flowCommand
  rw [if_pos watches]
  cases pause <;> rfl

theorem flowCommand_other {g : Group} (other : g.xonXoff = true → c ≠ 0x11 ∧ c ≠ 0x13) : flowCommand g c = none := by
  unfold flowCommand
  split
  · next watches =>
    obtain ⟨notDC1, notDC3⟩ := other watches
    exact (if_neg notDC3).trans (if_neg notDC1)
  · rfl

theorem sessionChar_flow {pause : Bool} (e : flowCommand (s.group n) c = some pause) :
    s.sessionChar n x c = (s.setSess n (some (x.reload s.cfg))).updPath n fun p => { p with paused := pause } := by
  unfold State.sessionChar
  rw [e]

theorem closingChar_flow {pause : Bool} (e : flowCommand (s.group n) c = some pause) :
    s.closingChar n c = s.updPath n fun p => { p with paused := pause } := by
  unfold State.closingChar
  rw [e]

theorem sessionChar_attention (other : flowCommand (s.group n) c = none) (attention : isAttention (s.group n) c = true) :
    s.sessionChar n x c = (s.setSess n (some (x.reload s.cfg))).interrupt n false := by
  unfold State.sessionChar
  rw [other]
  exact if_pos attention

theorem sessionChar_plain (other : flowCommand (s.group n) c = none) (plain : isAttention (s.group n) c = false) :
    s.sessionChar n x c = (s.setSess n (some (x.reload s.cfg))).acceptChar n x.echo c := by
  unfold State.sessionChar
  rw [other]
  exact if_neg (Bool.eq_false_iff.mp plain)

/-- A reloaded idle timer makes no session enter hold. -/
theorem entersHold_reload (hx : s.sess[n] = some x) (cfg : Configuration) : (s.setSess n (some (x.reload cfg))).entersHold n = s.entersHold n := by
  have self : (s.setSess n (some (x.reload cfg))).sess[n] = some (x.reload cfg) := vector_set_get_self _ _ _
  unfold State.entersHold
  rw [self, hx]
  by_cases open' : x.reason = none
  · rw [show x.reload cfg = { x with idle := idleLoad cfg x.cls } from if_pos open']
    rfl
  · rw [show x.reload cfg = x from if_neg open']
    rfl

/-- The path of a line after an attention character or a BREAK. -/
def interruptedPath (p : Path) (isBreak : Bool) : Path := Path.setFlag { p with outQ := Queue.empty } isBreak

theorem interrupt_path (s : State) (n : LineNo) (isBreak : Bool) : (s.interrupt n isBreak).path[n] = interruptedPath s.path[n] isBreak := by
  unfold State.interrupt
  rw [updPath_self]
  exact congrArg (fun p => Path.setFlag p isBreak) (vector_set_get_self _ _ _)

theorem interruptedPath_output (p : Path) (isBreak : Bool) : output (interruptedPath p isBreak) = output { p with outQ := Queue.empty } := rfl

/-- The output after an attention character or a BREAK. -/
theorem interrupted_output {v : State} {isBreak : Bool} (h : Touched s v n (interruptedPath s.path[n] isBreak)) (call : (s.st n).onCall = true)
    (before : State) (every : Bool) (slot : s.path[n].slot = none) (hold : s.entersHold n = false) :
    let u := v.settle before every
    u.path[n].outQ = Queue.empty ∧ u.path[n].slot = none ∧ u.path[n].owed = s.path[n].owed ∧ (s.path[n].tx.isSome = true → u.path[n].tx = s.path[n].tx) ∧
      (s.loader = .running → s.path[n].tx = none → u.path[n].tx = (Path.started { s.path[n] with outQ := Queue.empty }).tx) := by
  obtain ⟨outQ, slot'⟩ := h.empty call slot hold rfl before every
  obtain ⟨sends, runs⟩ := h.output call slot hold before every
  have owed : (v.settle before every).path[n].inward.owed = v.path[n].inward.owed := congrArg Path.owed (eq_of_kept_inward (settle_kept v before every) n)
  rw [h.path] at owed
  exact ⟨outQ, slot', owed, fun sending => (sends sending).1,
    fun running _ => (runs running).1.trans (output_tx (output_started (interruptedPath_output s.path[n] isBreak)))⟩

end

/-- Settles O16: DC1 and DC3 move `paused` alone, and an attention character or a BREAK sets its flag, places the mark and flushes. -/
theorem terminalControlsActOnTheLine : Obligations.TerminalControlsActOnTheLine := by
  intro t n s speed reloaded flushed
  have reload (x : Session) : x.reload s.cfg = reloaded x := rfl
  clear_value reloaded
  refine ⟨fun pause parity watches on => ?_, fun hst => ?_, fun hst => ?_, fun c parity x hst hx passes other attention => ?_⟩
  · intro c passes
    have flow : flowCommand ((s.at t).group n) c = some pause := flowCommand_control watches pause
    clear_value c
    rcases on with hst | ⟨hst, holds⟩
    · have effect := (receiveChar_closing (s := s.at t) (c := c) (parity := parity) hst speed passes).trans (closingChar_flow flow)
      refine leads_of_take rfl effect ?_
      have touched : Touched s ((s.at t).updPath n fun p => { p with paused := pause }) n { s.path[n] with paused := pause } :=
        ⟨updPath_self _ _ _, rfl, rfl, rfl⟩
      have kept := settle_kept ((s.at t).updPath n fun p => { p with paused := pause }) (s.at t) false
      have inward := (eq_of_kept_inward kept n).trans (congrArg Path.inward touched.path)
      refine ⟨(congrArg Path.paused inward :), (congrArg Path.inQ inward :), (eq_of_kept_sup kept).trans rfl, fun e => ?_,
        (congrArg (fun w : State => w.counters.echoesLost) kept :), (congrArg (fun w : State => w.counters.overruns) kept :), fun slot hold => ?_⟩
      · rw [hst] at e; cases e
      · obtain ⟨sends, runs⟩ := touched.output (by rw [hst]; rfl) slot hold (s.at t) false
        exact ⟨sends, fun running _ => runs running⟩
    · obtain ⟨x, hx⟩ := Option.isSome_iff_exists.mp holds
      have effect := (receiveChar_session (s := s.at t) (c := c) (parity := parity) hst hx speed passes).trans (sessionChar_flow flow)
      refine leads_of_take rfl effect ?_
      have touched : Touched s (((s.at t).setSess n (some (x.reload s.cfg))).updPath n fun p => { p with paused := pause }) n
          { s.path[n] with paused := pause } := ⟨updPath_self _ _ _, rfl, rfl, entersHold_reload (s := s.at t) hx s.cfg⟩
      have kept := settle_kept (((s.at t).setSess n (some (x.reload s.cfg))).updPath n fun p => { p with paused := pause }) (s.at t) false
      have inward := (eq_of_kept_inward kept n).trans (congrArg Path.inward touched.path)
      refine ⟨(congrArg Path.paused inward :), (congrArg Path.inQ inward :), (eq_of_kept_sup kept).trans rfl, fun _ => ?_,
        (congrArg (fun w : State => w.counters.echoesLost) kept :), (congrArg (fun w : State => w.counters.overruns) kept :), fun slot hold => ?_⟩
      · refine (eq_of_kept_metered kept n).trans ?_
        rw [hx]
        show _ = some (reloaded x).metered
        rw [← reload]
        exact congrArg (Option.map Session.metered) (vector_set_get_self s.sess n (some (x.reload s.cfg)))
      · obtain ⟨sends, runs⟩ := touched.output (by rw [hst]; rfl) slot hold (s.at t) false
        exact ⟨sends, fun running _ => runs running⟩
  · have call : (s.st n).onCall = true := by rw [hst]; rfl
    refine leads_of_take (v := (s.at t).interrupt n true) rfl (if_pos ⟨(receiving_iff (s.at t) n).mpr ⟨call, speed⟩, hst⟩) ?_
    have touched : Touched s ((s.at t).interrupt n true) n (interruptedPath s.path[n] true) := ⟨interrupt_path _ _ _, rfl, rfl, rfl⟩
    have kept := settle_kept ((s.at t).interrupt n true) (s.at t) false
    have inward := (eq_of_kept_inward kept n).trans (congrArg Path.inward touched.path)
    refine ⟨(congrArg Path.brk inward).trans (Bool.or_true _), (congrArg Path.attention inward).trans (Bool.or_false _), (congrArg Path.mark inward :),
      (congrArg Path.inQ inward :), (eq_of_kept_sup kept).trans rfl, (eq_of_kept_claims kept).trans rfl, ?_, eq_of_kept_metered kept n⟩
    exact interrupted_output touched (by rw [hst]; rfl) (s.at t) false
  · exact gives_of_eq (t := t) rfl (if_neg fun h => hst h.2)
  · have plain : flowCommand ((s.at t).group n) c = none := flowCommand_other other
    have attends : isAttention ((s.at t).group n) c = true := by
      unfold isAttention
      rw [Bool.or_eq_true, decide_eq_true_iff, decide_eq_true_iff]
      exact attention
    have effect := (receiveChar_session (s := s.at t) (c := c) (parity := parity) hst hx speed passes).trans (sessionChar_attention plain attends)
    refine leads_of_take rfl effect ?_
    have touched : Touched s (((s.at t).setSess n (some (x.reload s.cfg))).interrupt n false) n (interruptedPath s.path[n] false) :=
      ⟨interrupt_path _ _ _, rfl, rfl, entersHold_reload (s := s.at t) hx s.cfg⟩
    have kept := settle_kept (((s.at t).setSess n (some (x.reload s.cfg))).interrupt n false) (s.at t) false
    have inward := (eq_of_kept_inward kept n).trans (congrArg Path.inward touched.path)
    refine ⟨(congrArg Path.attention inward).trans (Bool.or_true _), (congrArg Path.brk inward).trans (Bool.or_false _), (congrArg Path.mark inward :),
      (congrArg Path.inQ inward :), (eq_of_kept_sup kept).trans rfl, (eq_of_kept_claims kept).trans rfl, ?_, ?_⟩
    · exact interrupted_output touched (by rw [hst]; rfl) (s.at t) false
    · refine (eq_of_kept_metered kept n).trans ?_
      rw [← reload]
      exact congrArg (Option.map Session.metered) (vector_set_get_self s.sess n (some (x.reload s.cfg)))

end Sys2Proof.Proofs.TerminalControls
end

section
/-! A character of a session (R33, R34, R36, R37): the echo first, then the append with its timer and its XOFF, or the overrun. -/

namespace Sys2Proof.Proofs.SessionCharacters

open Sys2Proof Sys2Proof.Machine Sys2Proof.Proofs.Lines Sys2Proof.Proofs.Closing Sys2Proof.Proofs.Disconnect Sys2Proof.Proofs.Texts
open Sys2Proof.Proofs.HangUp Sys2Proof.Proofs.CarriageReturns Sys2Proof.Proofs.TerminalControls

/-! ## The echo -/

/-- What a state after the echo of a character on line `n` has of the state `w` before it: the queue `q` stands on the line, and `lost` echoes have been
lost so far. -/
structure EchoOn (w v : State) (n : LineNo) (q : Queue) (lost : Nat) : Prop where
  path : v.path[n] = { w.path[n] with outQ := q }
  others : ∀ m : LineNo, m ≠ n → v.path[m] = w.path[m]
  sup : v.sup = w.sup
  sign : v.sign = w.sign
  claims : v.claims = w.claims
  sess : v.sess = w.sess
  roster : v.roster = w.roster
  bus : v.bus = w.bus
  loader : v.loader = w.loader
  cfg : v.cfg = w.cfg
  now : v.now = w.now
  overruns : v.counters.overruns = w.counters.overruns
  echoesLost : v.counters.echoesLost = lost

/-- The echo of a character: it stands behind the queue where there is room, is lost and counted where there is none, and is none with echo mode off
(R33). -/
theorem echoOn (w : State) (n : LineNo) (echo : Bool) (c : Char7) :
    EchoOn w (if echo then w.sendEcho n c else w) n (if (echo && decide (1 ≤ w.outRoom n)) = true then w.path[n].outQ.append [c] else w.path[n].outQ)
        (if echo = true ∧ w.outRoom n = 0 then sat16 w.counters.echoesLost else w.counters.echoesLost) ∧
      (if echo then w.sendEcho n c else w).inRoom n =
        if (echo && decide (1 ≤ w.outRoom n)) = true then (w.sendOut n [c]).inRoom n else w.inRoom n := by
  unfold State.sendEcho
  cases echo with
  | false => exact ⟨⟨rfl, fun _ _ => rfl, rfl, rfl, rfl, rfl, rfl, rfl, rfl, rfl, rfl, rfl, rfl⟩, rfl⟩
  | true =>
    by_cases room : 1 ≤ w.outRoom n
    · have some' : ¬(True ∧ w.outRoom n = 0) := fun h => absurd h.2 (by omega)
      simp only [if_true, if_pos room, Bool.true_and, decide_eq_true room]
      exact ⟨⟨sendOut_self _ _ _, fun m hm => vector_set_get_ne _ _ (Ne.symm hm), rfl, rfl, rfl, rfl, rfl, rfl, rfl, rfl, rfl, rfl, (if_neg some').symm⟩, trivial⟩
    · have none' : True ∧ w.outRoom n = 0 := ⟨trivial, by omega⟩
      simp only [if_true, if_neg room, Bool.true_and, decide_eq_false room]
      exact ⟨⟨rfl, fun _ _ => rfl, rfl, rfl, rfl, rfl, rfl, rfl, rfl, rfl, rfl, rfl, (if_pos none').symm⟩, rfl⟩

/-! ## The append -/

/-- An appended character's path, before XOFF is thought of. -/
def appendedPath (p : Path) (c : Char7) (timer : Moment) : Path := { p with inQ := p.inQ.append [c], fwdTimer := some (p.fwdTimer.getD timer) }

/-- The path of a line whose inbound queue has just grown (R36). -/
def heldPath (g : Group) (p : Path) : Path :=
  if g.xonXoff = true ∧ p.inputHeld = false ∧ 16 * g.inAllowance - 8 ≤ p.inQ.chars.length then Path.owe { p with inputHeld := true } .xoff else p

theorem inputAppended_path (s : State) (n : LineNo) : (s.inputAppended n).path[n] = heldPath (s.group n) s.path[n] := by
  unfold State.inputAppended heldPath
  dsimp only
  simp only [Bool.and_eq_true, Bool.not_eq_true', decide_eq_true_eq, and_assoc]
  split
  · exact vector_set_get_self _ _ _
  · rfl

/-- What the append leaves alone. -/
theorem inputAppended_keeps {α : Type} {g : State → α} (hg : ∀ s n p, g (State.setPath s n p) = g s) (s : State) (n : LineNo) :
    g (s.inputAppended n) = g s := by
  unfold State.inputAppended
  dsimp only
  split
  · exact hg s n _
  · rfl

theorem appendIn_path (s : State) (n : LineNo) (c : Char7) :
    (s.appendIn n c).path[n] = heldPath (s.group n) (appendedPath s.path[n] c (s.now + s.cfg.forwardingTimer)) := by
  unfold State.appendIn
  dsimp only
  rw [inputAppended_path, updPath_self]
  have set : (s.setIn n (s.path[n].inQ.append [c])).path[n] = { s.path[n] with inQ := s.path[n].inQ.append [c] } := vector_set_get_self _ _ _
  rw [set]
  rfl

theorem appendIn_keeps {α : Type} {g : State → α} (hg : ∀ s n p, g (State.setPath s n p) = g s) (hfree : ∀ (s : State) k, g { s with free := k } = g s)
    (s : State) (n : LineNo) (c : Char7) : g (s.appendIn n c) = g s := by
  unfold State.appendIn
  dsimp only
  exact (inputAppended_keeps hg _ n).trans ((hg _ _ _).trans ((hfree _ _).trans (hg s n _)))

theorem inputAppended_path_ne (s : State) {n m : LineNo} (h : m ≠ n) : (s.inputAppended n).path[m] = s.path[m] := by
  unfold State.inputAppended
  dsimp only
  split
  · exact vector_set_get_ne _ _ (Ne.symm h)
  · rfl

theorem appendIn_path_ne (s : State) {n m : LineNo} (h : m ≠ n) (c : Char7) : (s.appendIn n c).path[m] = s.path[m] := by
  unfold State.appendIn
  dsimp only
  rw [inputAppended_path_ne _ h]
  exact (vector_set_get_ne _ _ (Ne.symm h)).trans (vector_set_get_ne _ _ (Ne.symm h))

/-- XOFF is owed, or none where XON was, when the queue reaches its mark (R36; log entry 41). -/
theorem heldPath_full {g : Group} {p : Path} (full : g.xonXoff = true ∧ p.inputHeld = false ∧ 16 * g.inAllowance - 8 ≤ p.inQ.chars.length) :
    (heldPath g p).inputHeld = true ∧ (heldPath g p).owed = if p.owed = some .xon then none else some .xoff := by
  rw [show heldPath g p = Path.owe { p with inputHeld := true } .xoff from if_pos full]
  have both : ∀ o, p.owed = o → (Path.owe { p with inputHeld := true } .xoff).inputHeld = true ∧
      (Path.owe { p with inputHeld := true } .xoff).owed = if o = some .xon then none else some .xoff := by
    intro o owed
    unfold Path.owe
    dsimp only
    rw [owed]
    cases o with
    | none => exact ⟨rfl, rfl⟩
    | some d =>
      cases d with
      | xon => exact ⟨rfl, rfl⟩
      | xoff => exact ⟨rfl, rfl⟩
  exact both _ rfl

theorem heldPath_same (g : Group) (p : Path) :
    (heldPath g p).inQ = p.inQ ∧ (heldPath g p).fwdTimer = p.fwdTimer ∧ (heldPath g p).outQ = p.outQ ∧ (heldPath g p).tx = p.tx ∧
      (heldPath g p).slot = p.slot ∧ (heldPath g p).paused = p.paused := by
  unfold heldPath Path.owe
  repeat' split
  all_goals exact ⟨rfl, rfl, rfl, rfl, rfl, rfl⟩

/-- What a transmitter takes depends on the output alone (R44). -/
theorem started_congr {p q : Path} (tx : p.tx = q.tx) (owed : p.owed = q.owed) (paused : p.paused = q.paused) (outQ : p.outQ = q.outQ) :
    (Path.started p).tx = (Path.started q).tx ∧ (Path.started p).outQ = (Path.started q).outQ := by
  unfold Path.started
  rw [tx, owed, paused, outQ]
  split
  · exact ⟨rfl, rfl⟩
  · exact ⟨rfl, rfl⟩
  · exact ⟨rfl, rfl⟩
  · exact ⟨tx, outQ⟩

/-! ## The accepted character -/

/-- What is left of a character of a session when it has been echoed and queued, or echoed and found no room. -/
theorem acceptChar_room {w : State} {n : LineNo} {echo : Bool} {c : Char7} (room : 1 ≤ w.inRoom n) :
    w.acceptChar n echo c =
      if 1 ≤ (if echo then w.sendEcho n c else w).inRoom n then (if echo then w.sendEcho n c else w).appendIn n c
      else (if echo then w.sendEcho n c else w).count .overruns := by
  unfold State.acceptChar
  exact if_pos room

theorem acceptChar_full {w : State} {n : LineNo} {echo : Bool} {c : Char7} (full : w.inRoom n = 0) : w.acceptChar n echo c = w.count .overruns := by
  unfold State.acceptChar
  exact if_neg (by omega)

/-- An accepted character, seen from its line and from the others. -/
structure Accepted (w v : State) (n : LineNo) (p : Path) (lost overruns : Nat) : Prop where
  path : v.path[n] = p
  others : ∀ m : LineNo, m ≠ n → v.path[m] = w.path[m]
  sup : v.sup = w.sup
  sign : v.sign = w.sign
  claims : v.claims = w.claims
  sess : v.sess = w.sess
  roster : v.roster = w.roster
  bus : v.bus = w.bus
  loader : v.loader = w.loader
  echoesLost : v.counters.echoesLost = lost
  overruns : v.counters.overruns = overruns

theorem EchoOn.appendIn {w v : State} {n : LineNo} {q : Queue} {lost : Nat} (h : EchoOn w v n q lost) (c : Char7) :
    Accepted w (v.appendIn n c) n (heldPath (w.group n) (appendedPath { w.path[n] with outQ := q } c (w.now + w.cfg.forwardingTimer))) lost
      w.counters.overruns := by
  have keeps := appendIn_keeps (g := fun u : State => (u.sup, u.sign, u.claims, u.sess, u.roster, u.bus, u.loader, u.counters)) (fun _ _ _ => rfl)
    (fun _ _ => rfl) v n c
  simp only [Prod.mk.injEq] at keeps
  obtain ⟨sup, sign, claims, sess, roster, bus, loader, counters⟩ := keeps
  refine ⟨?_, fun m hm => (appendIn_path_ne v hm c).trans (h.others m hm), sup.trans h.sup, sign.trans h.sign, claims.trans h.claims, sess.trans h.sess,
    roster.trans h.roster, bus.trans h.bus, loader.trans h.loader, ?_, ?_⟩
  · rw [appendIn_path, h.path, group_congr h.cfg, h.now, h.cfg]
  · rw [counters]; exact h.echoesLost
  · rw [counters]; exact h.overruns

theorem EchoOn.overrun {w v : State} {n : LineNo} {q : Queue} {lost : Nat} (h : EchoOn w v n q lost) :
    Accepted w (v.count .overruns) n { w.path[n] with outQ := q } lost (sat16 w.counters.overruns) :=
  ⟨h.path, h.others, h.sup, h.sign, h.claims, h.sess, h.roster, h.bus, h.loader, h.echoesLost, congrArg sat16 h.overruns⟩

/-- What the event leaves of an accepted character of the session `x`. -/
theorem accepted_settle {s v : State} {n : LineNo} {x : Session} {p : Path} {lost overruns : Nat} (t : Moment) (hst : s.st n = .session)
    (hx : s.sess[n] = some x) (h : Accepted ((s.at t).setSess n (some (x.reload s.cfg))) v n p lost overruns) :
    let u := v.settle (s.at t) false
    u.path[n].inward = p.inward ∧ u.counters.overruns = overruns ∧ u.counters.echoesLost = lost ∧
      (p.slot = none → s.entersHold n = false →
        (p.tx.isSome = true → u.path[n].tx = p.tx ∧ u.path[n].outQ = p.outQ) ∧
          (s.loader = .running → u.path[n].tx = (Path.started p).tx ∧ u.path[n].outQ = (Path.started p).outQ)) ∧
      u.sess[n].map Session.metered = some (x.reload s.cfg).metered ∧ u.sup = s.sup ∧ u.sign = s.sign ∧ u.claims = s.claims ∧
      ∀ m : LineNo, m ≠ n → u.path[m].inward = s.path[m].inward := by
  intro u
  have kept := settle_kept v (s.at t) false
  have touched : Touched s v n p :=
    ⟨h.path, h.sup, h.loader, (entersHold_congr (s := (s.at t).setSess n (some (x.reload s.cfg))) h.sess h.roster h.bus n).trans
      (entersHold_reload (s := s.at t) hx s.cfg)⟩
  have self : v.sess[n] = some (x.reload s.cfg) := by rw [h.sess]; exact vector_set_get_self _ _ _
  refine ⟨(eq_of_kept_inward kept n).trans (congrArg Path.inward h.path), (congrArg (fun w : State => w.counters.overruns) kept : u.kept.counters.overruns = v.kept.counters.overruns).trans h.overruns,
    (congrArg (fun w : State => w.counters.echoesLost) kept : u.kept.counters.echoesLost = v.kept.counters.echoesLost).trans h.echoesLost,
    fun slot hold => touched.output (by rw [hst]; rfl) slot hold (s.at t) false, (eq_of_kept_metered kept n).trans (congrArg _ self),
    (eq_of_kept_sup kept).trans h.sup, (eq_of_kept_sign kept).trans h.sign, (eq_of_kept_claims kept).trans h.claims,
    fun m hm => (eq_of_kept_inward kept m).trans (congrArg Path.inward (h.others m hm))⟩

/-- Settles O15: the forwarding timer's expiry is one test; a character of a session is an overrun at once, or echoed and then appended or an overrun. -/
theorem sessionCharacterQueuesOrOverruns : Obligations.SessionCharacterQueuesOrOverruns := by
  intro t n s
  refine ⟨gives_of_eq (t := t) rfl ?_, fun c parity x hst hx speed passes other one two => ?_⟩
  · dsimp only
    exact rfl
  intro y
  have reload : x.reload s.cfg = y := rfl
  have plain : isAttention ((s.at t).group n) c = false := by
    unfold isAttention
    exact Bool.or_eq_false_iff.mpr ⟨decide_eq_false one, decide_eq_false two⟩
  have effect := (receiveChar_session (s := s.at t) (c := c) (parity := parity) hst hx speed passes).trans
    (sessionChar_plain (flowCommand_other other) plain)
  rw [← reload]
  clear_value y
  refine ⟨fun full => ?_, fun room => ?_⟩
  · have accepted := effect.trans (acceptChar_full (w := (s.at t).setSess n (some (x.reload s.cfg))) (echo := x.echo) (c := c) full)
    refine ⟨gives_of_eq rfl accepted, leads_of_take rfl accepted ?_⟩
    intro p slot hold
    obtain ⟨-, -, -, output, -⟩ := accepted_settle t hst hx
      (⟨rfl, fun _ _ => rfl, rfl, rfl, rfl, rfl, rfl, rfl, rfl, rfl, rfl⟩ :
        Accepted ((s.at t).setSess n (some (x.reload s.cfg))) (((s.at t).setSess n (some (x.reload s.cfg))).count .overruns) n s.path[n] _ _)
    obtain ⟨sends, runs⟩ := output slot hold
    exact ⟨sends, fun running _ => runs running⟩
  · intro p echoed q left
    obtain ⟨echo, inRoom⟩ := echoOn ((s.at t).setSess n (some (x.reload s.cfg))) n x.echo c
    have accepts := effect.trans (acceptChar_room (w := (s.at t).setSess n (some (x.reload s.cfg))) (echo := x.echo) (c := c) room)
    change EchoOn _ _ n q (if x.echo = true ∧ s.outRoom n = 0 then sat16 s.counters.echoesLost else s.counters.echoesLost) at echo
    change _ = left at inRoom
    rw [inRoom] at accepts
    generalize (if x.echo = true then ((s.at t).setSess n (some (x.reload s.cfg))).sendEcho n c else (s.at t).setSess n (some (x.reload s.cfg))) = v at *
    clear_value q left
    by_cases fits : 1 ≤ left
    · rw [if_pos fits] at accepts
      refine leads_of_take rfl accepts ?_
      have appended : Accepted ((s.at t).setSess n (some (x.reload s.cfg))) (v.appendIn n c) n
          (heldPath (s.group n) (appendedPath { p with outQ := q } c (max s.now t + s.cfg.forwardingTimer))) _ s.counters.overruns := echo.appendIn c
      obtain ⟨inward, overruns, lost, output, rest⟩ := accepted_settle t hst hx appended
      generalize (v.appendIn n c).settle (s.at t) false = u at *
      intro full
      have length : (appendedPath { p with outQ := q } c (max s.now t + s.cfg.forwardingTimer)).inQ.chars.length = p.inQ.chars.length + 1 := List.length_append
      have owes := heldPath_full (g := s.group n) (p := appendedPath { p with outQ := q } c (max s.now t + s.cfg.forwardingTimer))
      have same := heldPath_same (s.group n) (appendedPath { p with outQ := q } c (max s.now t + s.cfg.forwardingTimer))
      have still : ¬full → heldPath (s.group n) (appendedPath { p with outQ := q } c (max s.now t + s.cfg.forwardingTimer)) = _ :=
        fun h => if_neg (by rw [length]; exact h)
      rw [length] at owes
      generalize heldPath (s.group n) (appendedPath { p with outQ := q } c (max s.now t + s.cfg.forwardingTimer)) = h at *
      obtain ⟨inQ, timer, outQ, tx, slot, paused⟩ := same
      have owed : u.path[n].owed = h.owed := (congrArg Path.owed inward : u.path[n].inward.owed = h.inward.owed)
      have held : u.path[n].inputHeld = h.inputHeld := (congrArg Path.inputHeld inward : u.path[n].inward.inputHeld = h.inward.inputHeld)
      refine ⟨fun _ => ⟨(congrArg Path.inQ inward : u.path[n].inward.inQ = h.inward.inQ).trans inQ,
        (congrArg Path.fwdTimer inward : u.path[n].inward.fwdTimer = h.inward.fwdTimer).trans timer, fun marks => ?_, fun marks => ?_, overruns⟩,
        fun none' => absurd fits (by omega), lost, fun slotless hold => ?_, rest⟩
      · obtain ⟨holds, owe⟩ := owes marks
        exact ⟨held.trans holds, owed.trans owe⟩
      · rw [still marks] at held owed
        exact ⟨held, owed⟩
      · obtain ⟨sends, runs⟩ := output (slot.trans slotless) hold
        refine ⟨fun sending => ?_, fun running _ => ?_⟩
        · obtain ⟨tx', outQ'⟩ := sends (by rw [tx]; exact sending)
          exact ⟨tx'.trans tx, outQ'.trans outQ⟩
        · obtain ⟨tx', outQ'⟩ := runs running
          obtain ⟨tx'', outQ''⟩ := started_congr (p := h) (q := { p with owed := u.path[n].owed, outQ := q }) tx owed.symm paused outQ
          exact ⟨tx'.trans tx'', outQ'.trans outQ''⟩
    · rw [if_neg fits] at accepts
      refine leads_of_take rfl accepts ?_
      obtain ⟨inward, overruns, lost, output, rest⟩ := accepted_settle t hst hx echo.overrun
      generalize (v.count .overruns).settle (s.at t) false = u at *
      intro full
      change u.path[n].inward = p.inward at inward
      refine ⟨fun h => absurd h fits, fun _ => ⟨inward, overruns⟩, lost, fun slotless hold => ?_, rest⟩
      obtain ⟨sends, runs⟩ := output slotless hold
      have owed : u.path[n].owed = p.owed := (congrArg Path.owed inward : u.path[n].inward.owed = p.inward.owed)
      refine ⟨sends, fun running _ => ?_⟩
      rw [owed]
      exact runs running

end Sys2Proof.Proofs.SessionCharacters
end

section
/-! The drained reports of the closing work (R18, R41): what an event makes of a line's session record and its waiting requests, once for every event. -/

namespace Sys2Proof.Proofs.Reports

open Sys2Proof Sys2Proof.Machine Sys2Proof.Proofs.Closing Sys2Proof.Proofs.SessionMoves

/-- What the drained report of a line reads and writes. -/
structure Report where
  sess : Option Session
  asks : Asks
  drained : Bool
  st : LineState

/-- A line as its drained report sees it. -/
def reportOf (s : State) (n : LineNo) : Report := ⟨s.sess[n], s.asks[n], s.path[n].drained, s.st n⟩

/-- The session of a line that may report drained: END closes it with ENDED (R41). -/
def endedAt (drained : Bool) (st : LineState) (x : Session) : Session :=
  if drained = true ∧ st = .session ∧ x.endMark = true then closedBy .ended x else x

/-- A line's waiting requests once it may have reported drained (R18, R41). -/
def askedAt (drained : Bool) (st : LineState) (x : Option Session) (a : Asks) : Asks :=
  if drained = true ∧ st = .closing then { a with drained := true }
  else if drained = true ∧ st = .session ∧ ∃ y ∈ x, y.endMark = true ∧ y.reason = none then { a with close := true }
  else a

/-- The drained report of a line. -/
def Report.made (v : Report) : Report := ⟨v.sess.map (endedAt v.drained v.st), askedAt v.drained v.st v.sess v.asks, v.drained, v.st⟩

theorem endedAt_of_no_end {x : Session} (h : x.endMark = false) (drained : Bool) (st : LineState) : endedAt drained st x = x :=
  if_neg fun e => by rw [h] at e; exact absurd e.2.2 (by decide)

theorem endedAt_of_other {st : LineState} (h : st ≠ .session) (drained : Bool) (x : Session) : endedAt drained st x = x := if_neg fun e => h e.2.1

theorem closeCause_asks_self (n : LineNo) (r : CloseReason) (s : State) :
    (s.closeCause n r).asks[n] = if r.direct = false ∧ ∃ x ∈ s.sess[n], x.reason = none then { s.asks[n] with close := true } else s.asks[n] := by
  unfold State.closeCause
  cases h : s.sess[n] with
  | none => exact (if_neg fun e => by obtain ⟨x, mem, -⟩ := e.2; cases mem).symm
  | some x =>
    dsimp only
    by_cases open' : x.reason = none
    · rw [if_pos open']
      cases direct : r.direct with
      | true => exact (if_neg fun e => absurd e.1 (by decide)).symm
      | false => exact (vector_set_get_self _ _ _).trans (if_pos ⟨rfl, x, rfl, open'⟩).symm
    · rw [if_neg open']
      exact (if_neg fun e => by obtain ⟨y, mem, r⟩ := e.2; cases mem; exact open' r).symm

theorem closeCause_asks_ne {n m : LineNo} (h : n ≠ m) (r : CloseReason) (s : State) : (s.closeCause n r).asks[m] = s.asks[m] := by
  unfold State.closeCause
  split
  · rfl
  · split
    · dsimp only
      split
      · rfl
      · exact vector_set_get_ne _ _ h
    · rfl

theorem closeCause_st (n m : LineNo) (r : CloseReason) (s : State) : (s.closeCause n r).st m = s.st m := by
  unfold State.closeCause
  repeat' split
  all_goals rfl

/-! The three outcomes of a drained report. -/

section
variable {s : State} {n : LineNo}

theorem reportDrained_closing (drained : s.path[n].drained = true) (st : s.st n = .closing) :
    s.reportDrained n = s.setAsks n { s.asks[n] with drained := true } := by
  unfold State.reportDrained
  rw [if_pos drained, st]

theorem reportDrained_session {x : Session} (drained : s.path[n].drained = true) (st : s.st n = .session) (hx : s.sess[n] = some x)
    (mark : x.endMark = true) : s.reportDrained n = s.closeCause n .ended := by
  unfold State.reportDrained
  rw [if_pos drained, st, hx]
  exact if_pos mark

theorem reportDrained_still (closing : ¬(s.path[n].drained = true ∧ s.st n = .closing))
    (ended : ¬(s.path[n].drained = true ∧ s.st n = .session ∧ ∃ x ∈ s.sess[n], x.endMark = true)) : s.reportDrained n = s := by
  unfold State.reportDrained
  split
  · next drained =>
    split
    · next st => exact absurd ⟨drained, st⟩ closing
    · next st =>
      split
      · next x hx => exact if_neg fun mark => ended ⟨drained, st, x, hx, mark⟩
      · rfl
    · rfl
  · rfl

theorem reportOf_self : reportOf (s.reportDrained n) n = (reportOf s n).made := by
  unfold Report.made
  by_cases closing : s.path[n].drained = true ∧ s.st n = .closing
  · obtain ⟨drained, st⟩ := closing
    have ended : s.sess[n].map (endedAt s.path[n].drained (s.st n)) = s.sess[n] := by
      rw [st]
      cases s.sess[n] with
      | none => rfl
      | some x => exact congrArg some (endedAt_of_other (by decide) _ _)
    have asked : askedAt s.path[n].drained (s.st n) s.sess[n] s.asks[n] = { s.asks[n] with drained := true } := if_pos ⟨drained, st⟩
    rw [reportDrained_closing drained st]
    show _ = Report.mk (s.sess[n].map (endedAt s.path[n].drained (s.st n))) (askedAt s.path[n].drained (s.st n) s.sess[n] s.asks[n]) _ _
    rw [ended, asked]
    exact congrArg (fun a => Report.mk _ a _ _) (vector_set_get_self _ _ _)
  by_cases session : s.path[n].drained = true ∧ s.st n = .session ∧ ∃ x ∈ s.sess[n], x.endMark = true
  · obtain ⟨drained, st, x, hx, mark⟩ := session
    have ended : s.sess[n].map (endedAt s.path[n].drained (s.st n)) = s.sess[n].map (closedBy .ended) := by
      rw [show s.sess[n] = some x from hx]
      exact congrArg some (if_pos ⟨drained, st, mark⟩)
    have asked : askedAt s.path[n].drained (s.st n) s.sess[n] s.asks[n] = (s.closeCause n .ended).asks[n] := by
      rw [closeCause_asks_self]
      unfold askedAt
      rw [if_neg closing]
      by_cases open' : x.reason = none
      · rw [if_pos ⟨drained, st, x, hx, mark, open'⟩, if_pos ⟨rfl, x, hx, open'⟩]
      · have closed (p : Session → Prop) : ¬∃ y ∈ s.sess[n], p y ∧ y.reason = none := by
          rintro ⟨y, mem, -, r⟩
          rw [show s.sess[n] = some x from hx] at mem
          cases mem
          exact open' r
        rw [if_neg fun e => closed _ e.2.2, if_neg fun e => by obtain ⟨y, mem, r⟩ := e.2; exact closed (fun _ => True) ⟨y, mem, trivial, r⟩]
    rw [reportDrained_session drained st hx mark]
    show _ = Report.mk (s.sess[n].map (endedAt s.path[n].drained (s.st n))) (askedAt s.path[n].drained (s.st n) s.sess[n] s.asks[n]) _ _
    rw [ended, asked]
    unfold reportOf
    rw [closeCause_sess_self, closeCause_path, closeCause_st]
  · have ended : s.sess[n].map (endedAt s.path[n].drained (s.st n)) = s.sess[n] := by
      cases hx : s.sess[n] with
      | none => rfl
      | some x => exact congrArg some (if_neg fun e => session ⟨e.1, e.2.1, x, hx, e.2.2⟩)
    have asked : askedAt s.path[n].drained (s.st n) s.sess[n] s.asks[n] = s.asks[n] := by
      unfold askedAt
      rw [if_neg closing, if_neg fun e => by obtain ⟨y, mem, mark, -⟩ := e.2.2; exact session ⟨e.1, e.2.1, y, mem, mark⟩]
    rw [reportDrained_still closing session]
    show _ = Report.mk (s.sess[n].map (endedAt s.path[n].drained (s.st n))) (askedAt s.path[n].drained (s.st n) s.sess[n] s.asks[n]) _ _
    rw [ended, asked]
    rfl

end

theorem reportOf_ne {n m : LineNo} (h : n ≠ m) (s : State) : reportOf (s.reportDrained n) m = reportOf s m := by
  have closes (u : State) : reportOf (u.closeCause n .ended) m = reportOf u m := by
    unfold reportOf
    rw [closeCause_sess_ne h, closeCause_asks_ne h, closeCause_path, closeCause_st]
  unfold State.reportDrained
  repeat' split
  · exact congrArg (fun a => Report.mk _ a _ _) (vector_set_get_ne _ _ h)
  · exact closes s
  · rfl
  · rfl
  · rfl
  · rfl

theorem reportOf_raise (s : State) (i : ReqId) (n : LineNo) : reportOf (s.raise i) n = reportOf s n := by
  unfold State.raise
  split <;> rfl

/-- What the service leaves of a line, less what it does to its path. -/
theorem served_line (s : State) (n : LineNo) :
    (served s).sess[n] = s.sess[n].map s.holdTest ∧ (served s).asks[n] = s.asks[n] ∧ (served s).st n = s.st n := by
  have keeps {α : Type} (g : State → α) (path : ∀ (u : State) n p k, g { u.setPath n p with free := k } = g u) (draws : ∀ (u : State) k, g { u with draws := k } = g u)
      (raises : ∀ u i, g (State.raise u i) = g u) (queue : ∀ (u : State) q, g { u with queue := q } = g u) : g (served s) = g s.testHold :=
    (serve_keeps (g := g) path draws _ _).trans (Texts.updateOffers_keeps raises queue _)
  have sess := keeps State.sess (fun _ _ _ _ => rfl) (fun _ _ => rfl) raise_sess (fun _ _ => rfl)
  have asks := keeps State.asks (fun _ _ _ _ => rfl) (fun _ _ => rfl) raise_asks (fun _ _ => rfl)
  have sup := keeps State.sup (fun _ _ _ _ => rfl) (fun _ _ => rfl) raise_sup (fun _ _ => rfl)
  have tested : s.testHold.sess = mapTable s.sess fun _ x => x.map s.holdTest :=
    inFreeOrder_keeps State.sess _ (fun n s => noticeMessages_sess _ n s) (fun _ _ => rfl) _ _
  have asksKept : s.testHold.asks = s.asks := testHold_keeps (g := State.asks) (fun _ _ _ _ => rfl) (fun _ _ => rfl) (fun _ => rfl) (fun _ _ => rfl) s
  have supKept : s.testHold.sup = s.sup := testHold_keeps (g := State.sup) (fun _ _ _ _ => rfl) (fun _ _ => rfl) (fun _ => rfl) (fun _ _ => rfl) s
  refine ⟨?_, by rw [asks, asksKept], by unfold State.st; rw [sup, supKept]⟩
  rw [sess, tested, mapTable_get]

/-- The closing work of an event, seen by the drained report of a line (R18, R41). -/
theorem settle_report {s : State} (h : s.started = true) (before : State) (every : Bool) (n : LineNo) :
    (s.settle before every).sess[n] = s.sess[n].map (fun x => endedAt (served s).path[n].drained (s.st n) (s.holdTest x)) ∧
      (s.settle before every).asks[n] = askedAt (served s).path[n].drained (s.st n) (s.sess[n].map s.holdTest) s.asks[n] := by
  obtain ⟨sess, asks, st⟩ := served_line s n
  have flow : reportOf (flowed s) n = reportOf (served s) n := by
    refine eachLine_keeps (fun u => reportOf u n) _ (fun m u => ?_) _ _
    unfold State.updateFlow
    split
    · rfl
    · rw [reportOf_raise]
      unfold reportOf
      have same : (u.updPath m fun p => { p with flow := u.flowWanted m }).path[n].drained = u.path[n].drained := by
        show (u.path.set m { u.path[m] with flow := u.flowWanted m })[n].drained = _
        rw [vector_set_get]
        split
        · next e => subst e; rfl
        · rfl
      rw [same]
      rfl
  have made : reportOf (s.settle before every) n = (reportOf (served s) n).made := by
    rw [settle_eq_reported (g := fun u => reportOf u n) (fun u i => reportOf_raise u i n) h before every, reported,
      eachLine_get reportOf State.reportDrained (fun _ => Report.made) (fun n s => reportOf_self) (fun n m s hne => reportOf_ne hne s) allLines_nodup,
      if_pos (mem_allLines n), flow]
  have sessOf := congrArg Report.sess made
  have asksOf := congrArg Report.asks made
  simp only [reportOf, Report.made, sess, asks, st] at sessOf asksOf
  exact ⟨by rw [sessOf, Option.map_map]; rfl, asksOf⟩

end Sys2Proof.Proofs.Reports
end

section
/-! A transmitter that finishes a character (R36, R41, R44, R46, R146). `Served` says what the service makes of the path of a line with no text waiting;
a waiting text is served before the transmitter where it is ready, and after it where the character taken makes the room. -/

namespace Sys2Proof.Proofs.Transmitters

open Sys2Proof Sys2Proof.Machine Sys2Proof.Proofs.Lines Sys2Proof.Proofs.Closing Sys2Proof.Proofs.Disconnect Sys2Proof.Proofs.Texts
open Sys2Proof.Proofs.SessionMoves Sys2Proof.Proofs.Proving Sys2Proof.Proofs.Reports

/-! ## The path of a line after the service -/

theorem served_path {s : State} {n : LineNo} (slot : s.path[n].slot = none) (hold : s.entersHold n = false) (call : (s.st n).onCall = true) :
    (served s).path[n] = Path.started s.path[n] := by
  have tested : s.testHold.updateOffers.path[n] = s.path[n] := by rw [updateOffers_path]; exact testHold_path s n hold
  have sup : s.testHold.updateOffers.sup = s.sup :=
    (updateOffers_keeps (g := State.sup) raise_sup (fun _ _ => rfl) _).trans
      (testHold_keeps (g := State.sup) (fun _ _ _ _ => rfl) (fun _ _ => rfl) (fun _ => rfl) (fun _ _ => rfl) s)
  have calls : (s.testHold.updateOffers.st n).onCall = true := by unfold State.st; rw [sup]; exact call
  have := (serve_path serveRounds s.testHold.updateOffers (le_trans (toServe_le _) (by decide)) n (by rw [tested]; exact slot)).2
  rw [if_pos calls, tested] at this
  exact this

/-- A path that can send nothing stands as it was, and is drained where its slot is empty. -/
theorem started_still {p : Path} (tx : p.tx = none) (owed : p.owed = none) (still : p.paused = true ∨ p.outQ.chars = []) : Path.started p = p := by
  unfold Path.started
  rw [tx, owed]
  rcases still with paused | empty
  · rw [paused]
  · rw [empty]
    cases p.paused <;> rfl

theorem started_flow {p : Path} (c : FlowChar) (tx : p.tx = none) (owed : p.owed = some c) :
    Path.started p = { p with tx := some c.code, txFlow := true } := by
  unfold Path.started
  rw [tx, owed]
  cases c <;> rfl

theorem started_char {p : Path} {c : Char7} {rest : List Char7} (tx : p.tx = none) (owed : p.owed = none) (paused : p.paused = false)
    (chars : p.outQ.chars = c :: rest) : Path.started p = { p with tx := some (c.setWidth 8), outQ := p.outQ.remove 1 } := by
  unfold Path.started
  rw [tx, owed, paused, chars]

theorem started_same (p : Path) : (Path.started p).inQ = p.inQ ∧ (Path.started p).paused = p.paused ∧ (Path.started p).owed = p.owed := by
  unfold Path.started
  split <;> exact ⟨rfl, rfl, rfl⟩

theorem holdTest_reason (s : State) (x : Session) : (s.holdTest x).reason = x.reason ∧ (s.holdTest x).endMark = x.endMark := by
  unfold State.holdTest
  repeat' split
  all_goals exact ⟨rfl, rfl⟩

/-! ## Rounds of service -/

/-- With no text ready the transmitter of the one line that can takes its character. -/
theorem serve_of_sender {s : State} {n : LineNo} (texts : ∀ m, s.textReady m = false) (ready : s.txReady n = true)
    (others : ∀ m, m ≠ n → s.txReady m = false) (k : Nat) : State.serve (k + 1) s = State.serve k (s.startTx n) := by
  have noText : allLines.filter s.textReady = [] := List.filter_eq_nil_iff.mpr fun m _ => by rw [texts m]; decide
  have one : allLines.filter s.txReady = [n] := by
    have same : ∀ m ∈ allLines, s.txReady m = decide (m = n) := fun m _ => by
      by_cases e : m = n
      · rw [e, ready, decide_eq_true rfl]
      · rw [others m e, decide_eq_false e]
    rw [List.filter_congr same]
    exact filter_eq_one n
  have once : s.serveOnce = some (s.startTx n) := by
    unfold State.serveOnce
    rw [noText, one]
    rfl
  show (match s.serveOnce with
    | none => s
    | some u => State.serve k u) = _
  rw [once]

theorem textReady_of_no_slot {s : State} {n : LineNo} (slot : s.path[n].slot = none) : s.textReady n = false :=
  Bool.eq_false_iff.mpr fun ready => by
    have := textReady_slot ready
    rw [slot] at this
    cases this

/-- A path whose transmitter has finished and whose text has been served, with the outbound queue it then has. -/
def freedPath (p : Path) (q : Queue) : Path := { p with tx := none, txFlow := false, owed := none, slot := none, outQ := q }

/-- The line whose transmitter has just finished, before the service. -/
structure Finished (s w : State) (n : LineNo) : Prop where
  self : w.path[n] = { s.path[n] with tx := none, txFlow := false, owed := none }
  others : ∀ m : LineNo, m ≠ n → w.path[m] = s.path[m]
  free : w.free = s.free
  cfg : w.cfg = s.cfg
  sup : w.sup = s.sup

section
variable {s w : State} {n : LineNo} {text : Text}

theorem Finished.room (h : Finished s w n) : w.outRoom n = s.outRoom n := by
  unfold State.outRoom Path.held
  dsimp only
  rw [group_congr h.cfg, h.free, h.self]

theorem Finished.quiet (h : Finished s w n) (others : ∀ m : LineNo, m ≠ n → s.path[m].slot = none ∧ s.txReady m = false) (m : LineNo) (hm : m ≠ n) :
    w.textReady m = false ∧ w.txReady m = false := by
  obtain ⟨slot, tx⟩ := others m hm
  refine ⟨textReady_of_no_slot (by rw [h.others m hm]; exact slot), (txReady_congr ?_ ?_).trans tx⟩
  · rw [h.others m hm]
  · unfold State.st
    rw [h.sup]

/-- Room made by the character that the transmitter takes lets the whole text follow it, or leaves it waiting (R46). -/
theorem Finished.served_after (h : Finished s w n) (slot : s.path[n].slot = some text) (call : (s.st n).onCall = true)
    (others : ∀ m : LineNo, m ≠ n → s.path[m].slot = none ∧ s.txReady m = false) {c : Char7} {rest : List Char7}
    (chars : s.path[n].outQ.chars = c :: rest) (paused : s.path[n].paused = false) (short : s.outRoom n < (textChars s.cfg text).length) :
    let q := s.path[n].outQ.remove 1
    let room := q.unwritten + 16 * min ((s.group n).allowance - (s.path[n].inQ.blocks + q.blocks)) (s.free + s.path[n].outQ.blocks - q.blocks)
    (State.serve serveRounds w).path[n].tx = some (c.setWidth 8) ∧
      if (textChars s.cfg text).length ≤ room then
        (State.serve serveRounds w).path[n].slot = none ∧ (State.serve serveRounds w).path[n].outQ = q.append (textChars s.cfg text)
      else (State.serve serveRounds w).path[n].slot = some text ∧ (State.serve serveRounds w).path[n].outQ = q := by
  intro q room
  have chars' : w.path[n].outQ.chars = c :: rest := by rw [h.self]; exact chars
  have slot' : w.path[n].slot = some text := by rw [h.self]; exact slot
  have calls : (w.st n).onCall = true := by unfold State.st; rw [h.sup]; exact call
  have noText (m : LineNo) : w.textReady m = false := by
    by_cases e : m = n
    · subst e
      have most : w.roomAtMost m = false := by
        unfold State.roomAtMost
        dsimp only
        rw [chars']
        rfl
      unfold State.textReady
      rw [slot']
      dsimp only
      rw [most, Bool.or_false, h.room, h.cfg]
      exact decide_eq_false (Nat.not_le.mpr short)
    · exact (h.quiet others m e).1
  have ready : w.txReady n = true := by
    unfold State.txReady
    dsimp only
    rw [calls, chars', show w.path[n].tx = none by rw [h.self], show w.path[n].owed = none by rw [h.self],
      show w.path[n].paused = false by rw [h.self]; exact paused]
    rfl
  have first := serve_of_sender noText ready (fun m hm => (h.quiet others m hm).2) 39
  have startPath : (w.startTx n).path[n] = { s.path[n] with txFlow := false, owed := none, tx := some (c.setWidth 8), outQ := q } := by
    rw [startTx_path, if_pos ⟨rfl, calls⟩, started_char (by rw [h.self]) (by rw [h.self]) (by rw [h.self]; exact paused) chars', h.self]
  have startEq : w.startTx n = (w.setOut n (w.path[n].outQ.remove 1)).updPath n fun p => { p with tx := some (c.setWidth 8) } := by
    unfold State.startTx
    rw [if_pos ready, show w.path[n].owed = none by rw [h.self]]
    dsimp only
    rw [chars']
  have startFree : (w.startTx n).free = s.free + s.path[n].outQ.blocks - q.blocks := by
    rw [startEq]
    show w.free + w.path[n].outQ.blocks - (w.path[n].outQ.remove 1).blocks = _
    rw [h.free, h.self]
  have startCfg : (w.startTx n).cfg = s.cfg := by rw [startEq]; exact h.cfg
  have startRoom : (w.startTx n).outRoom n = room := by
    unfold State.outRoom Path.held
    dsimp only
    rw [group_congr startCfg, startFree, startPath]
    rfl
  have startOthers (m : LineNo) (hm : m ≠ n) : (w.startTx n).path[m] = w.path[m] := by
    rw [startTx_path, if_neg fun e => hm e.1.symm]
  have sends : (w.startTx n).path[n].tx.isSome = true := by rw [startPath]; rfl
  have fits : (w.startTx n).textReady n = true ↔ (textChars s.cfg text).length ≤ room := by
    rw [textReady_of_sending (t := text) (by rw [startPath]; exact slot) sends, startRoom, startCfg]
    rfl
  have still (m : LineNo) (hm : m ≠ n) : (w.startTx n).textReady m = false ∧ (w.startTx n).txReady m = false := by
    refine ⟨textReady_of_no_slot (by rw [startOthers m hm, h.others m hm]; exact (others m hm).1), ?_⟩
    exact (txReady_congr (by rw [startOthers m hm]) (by unfold State.st; rw [startTx_sup])).trans (h.quiet others m hm).2
  rw [show serveRounds = 39 + 1 from rfl, first]
  generalize w.startTx n = v at *
  by_cases whole : (textChars s.cfg text).length ≤ room
  · rw [if_pos whole]
    have second : State.serve 39 v = State.serve 38 (v.serveText n) := serve_of_one (fits.mpr whole) (fun m hm => (still m hm).1) 38
    have appended : (v.serveText n).path[n] = { v.path[n] with slot := none, outQ := v.path[n].outQ.append (textChars s.cfg text) } := by
      rw [serveText_self (t := text) (by rw [startPath]; exact slot), startRoom, startCfg, List.take_of_length_le whole]
    rw [second, serve_sending 38 (le_trans (toServe_le _) (by decide)) (by rw [appended]) (by rw [appended]; exact sends), appended, startPath]
    exact ⟨rfl, rfl, rfl⟩
  · rw [if_neg whole]
    have texts (m : LineNo) : v.textReady m = false := by
      by_cases e : m = n
      · rw [e]; exact Bool.eq_false_iff.mpr fun r => whole (fits.mp r)
      · exact (still m e).1
    have senders (m : LineNo) : v.txReady m = false := by
      by_cases e : m = n
      · rw [e]
        unfold State.txReady
        dsimp only
        rw [decide_eq_false (Option.isSome_iff_ne_none.mp sends), Bool.and_false, Bool.false_and]
      · exact (still m e).2
    rw [serve_of_rest texts senders, startPath]
    exact ⟨rfl, slot, rfl⟩

/-- A text whose room cannot grow is cut to it before the transmitter takes a character (R46). -/
theorem Finished.served_cut (h : Finished s w n) (slot : s.path[n].slot = some text) (call : (s.st n).onCall = true)
    (others : ∀ m : LineNo, m ≠ n → s.path[m].slot = none ∧ s.txReady m = false) (outEmpty : s.path[n].outQ.chars = [])
    (inEmpty : s.path[n].inQ.chars = []) (allowed : (s.group n).allowance ≤ s.free) :
    (State.serve serveRounds w).path[n] =
      Path.started (freedPath s.path[n] (s.path[n].outQ.append ((textChars s.cfg text).take (16 * (s.group n).allowance)))) := by
  have slot' : w.path[n].slot = some text := by rw [h.self]; exact slot
  have room : w.outRoom n = 16 * (s.group n).allowance := by
    have unwritten : s.path[n].outQ.unwritten = 0 := by unfold Queue.unwritten; rw [if_pos outEmpty]
    have outBlocks : s.path[n].outQ.blocks = 0 := by unfold Queue.blocks; rw [if_pos outEmpty]
    have inBlocks : s.path[n].inQ.blocks = 0 := by unfold Queue.blocks; rw [if_pos inEmpty]
    rw [h.room]
    unfold State.outRoom Path.held
    dsimp only
    rw [unwritten, outBlocks, inBlocks, Nat.zero_add, Nat.sub_zero, Nat.min_eq_left allowed]
    rfl
  have ready : w.textReady n = true := by
    have most : w.roomAtMost n = true := by
      unfold State.roomAtMost
      dsimp only
      rw [h.free, group_congr h.cfg, show w.path[n].outQ.chars = [] by rw [h.self]; exact outEmpty,
        show w.path[n].inQ.chars = [] by rw [h.self]; exact inEmpty, show w.path[n].tx = none by rw [h.self], decide_eq_true allowed]
      rfl
    unfold State.textReady
    rw [slot']
    dsimp only
    rw [most, Bool.or_true]
  have first : State.serve serveRounds w = State.serve 39 (w.serveText n) := serve_of_one ready (fun m hm => (h.quiet others m hm).1) 39
  have cut : (w.serveText n).path[n] =
      freedPath s.path[n] (s.path[n].outQ.append ((textChars s.cfg text).take (16 * (s.group n).allowance))) := by
    rw [serveText_self slot', room, h.cfg, h.self]
    rfl
  have calls : ((w.serveText n).st n).onCall = true := by unfold State.st; rw [serveText_sup, h.sup]; exact call
  have := (serve_path 39 (w.serveText n) (le_trans (toServe_le _) (by decide)) n (by rw [cut]; rfl)).2
  rw [if_pos calls, cut] at this
  rw [first, this]

end

/-! ## The command -/

theorem charSent_idle {s : State} {n : LineNo} (idle : s.path[n].tx = none) : s.charSent n = s := if_pos idle

theorem charSent_call {s : State} {n : LineNo} (sends : s.path[n].tx ≠ none) (call : (s.st n).onCall = true) :
    s.charSent n = s.updPath n Path.sent := by
  unfold State.charSent
  rw [if_neg sends]
  exact if_neg fun e => by rw [e.1] at call; cases call

theorem charSent_pattern {s : State} {n : LineNo} (sends : s.path[n].tx ≠ none) (proving : s.st n = .proving) (phase : s.run[n].phase = .running) :
    s.charSent n = s.sendPattern n := by
  unfold State.charSent
  rw [if_neg sends]
  exact if_pos ⟨proving, phase⟩

/-- The line of a transmitter that has just finished, when the service begins. -/
theorem finished_toServe {s : State} {n : LineNo} (t : Moment) (holds : ∀ m, s.entersHold m = false)
    (owed : (if s.path[n].txFlow then none else s.path[n].owed) = none) : Finished s (toServe ((s.at t).updPath n Path.sent)) n := by
  obtain ⟨path, free, cfg, sup⟩ := toServe_same (s := (s.at t).updPath n Path.sent) holds
  refine ⟨?_, fun m hm => ?_, free, cfg, sup⟩
  · rw [path, updPath_self]
    show { s.path[n] with tx := none, txFlow := false, owed := if s.path[n].txFlow then none else s.path[n].owed } = _
    rw [owed]
  · rw [path]
    exact vector_set_get_ne _ _ (Ne.symm hm)

/-- Settles O18: on a call the transmitter takes what `Path.started` gives, a waiting text before it or after it; in a run the next of the pattern. -/
theorem transmitterTakesTheNextCharacter : Obligations.TransmitterTakesTheNextCharacter := by
  intro t n s p owed
  refine ⟨fun idle => gives_of_eq (t := t) rfl (charSent_idle idle), fun b busy => ?_⟩
  have sends : (s.at t).path[n].tx ≠ none := by
    show s.path[n].tx ≠ none
    rw [show s.path[n].tx = some b from busy]
    exact Option.some_ne_none b
  refine ⟨fun running call slot hold => ?_, fun text running call slot unowed holds others => ?_, fun proving phase => ?_⟩
  · refine leads_of_take rfl (charSent_call sends call) ?_
    have self : ((s.at t).updPath n Path.sent).path[n] = p.sent := updPath_self _ _ _
    have started : ((s.at t).updPath n Path.sent).started = true := decide_eq_true running
    have service := served_path (s := (s.at t).updPath n Path.sent) (n := n) (by rw [self]; exact slot) hold call
    obtain ⟨f, path⟩ := settle_path ((s.at t).updPath n Path.sent) (s.at t) false n started (by rw [self]; exact slot) hold
    have kept := settle_kept ((s.at t).updPath n Path.sent) (s.at t) false
    obtain ⟨sess, asks⟩ := settle_report started (s.at t) false n
    rw [if_pos (show (((s.at t).updPath n Path.sent).st n).onCall = true from call), self] at path
    rw [self] at service
    have sup := eq_of_kept_sup kept
    have inward := fun m => eq_of_kept_inward kept m
    change _ = s.sess[n].map _ at sess
    change _ = askedAt _ (s.st n) (s.sess[n].map _) s.asks[n] at asks
    rw [service] at sess asks
    obtain ⟨inQ, paused, owedSame⟩ := started_same p.sent
    have hOwed : p.sent.owed = owed := rfl
    generalize ((s.at t).updPath n Path.sent).settle (s.at t) false = u at *
    dsimp only
    rw [path]
    refine ⟨inQ, paused, (started_slot _).trans slot, owedSame, sup, fun m hm => ?_, fun e => ?_, fun e => ?_, fun c rest e open' chars => ?_,
      fun e still => ?_, fun e empty => ?_⟩
    · exact (inward m).trans (congrArg Path.inward (vector_set_get_ne _ _ (Ne.symm hm)))
    · rw [started_flow .xon rfl (hOwed.trans e)]
      exact ⟨rfl, rfl, rfl⟩
    · rw [started_flow .xoff rfl (hOwed.trans e)]
      exact ⟨rfl, rfl, rfl⟩
    · rw [started_char (p := p.sent) rfl (hOwed.trans e) open' chars]
      exact ⟨rfl, rfl, rfl⟩
    · rw [started_still (p := p.sent) rfl (hOwed.trans e) still]
      exact ⟨rfl, rfl⟩
    · rw [started_still (p := p.sent) rfl (hOwed.trans e) (.inr empty)] at sess asks
      have drained : p.sent.drained = true := by
        unfold Path.drained
        rw [show p.sent.outQ.chars = [] from empty, show p.sent.slot = none from slot]
        rfl
      rw [drained] at sess asks
      refine ⟨fun st => ?_, fun x st hx mark => ?_⟩
      · rw [asks, st]
        rfl
      · rw [hx, show ((s.at t).updPath n Path.sent).st n = .session from st] at sess
        rw [hx, st, Option.map_some] at asks
        rw [Option.map_some] at sess
        have tested := holdTest_reason ((s.at t).updPath n Path.sent) x
        generalize ((s.at t).updPath n Path.sent).holdTest x = y at *
        have ended : endedAt true .session y = closedBy .ended y := if_pos ⟨rfl, rfl, tested.2.trans mark⟩
        rw [ended] at sess
        refine ⟨_, sess, ?_, fun open' => ?_⟩
        · unfold closedBy
          split
          · next open' => rw [show x.reason = none from tested.1.symm.trans open']; rfl
          · next closing =>
            rw [tested.1] at closing ⊢
            cases r : x.reason with
            | none => exact absurd r closing
            | some r => rfl
        · have asked : askedAt true .session (some y) s.asks[n] = { s.asks[n] with close := true } :=
            (if_neg fun e => by cases e.2).trans (if_pos ⟨rfl, rfl, y, rfl, tested.2.trans mark, tested.1.trans open'⟩)
          rw [show u.asks[n] = _ from asks]
          exact congrArg Asks.close asked
  · have started : ((s.at t).updPath n Path.sent).started = true := decide_eq_true running
    have finished := finished_toServe t holds unowed
    intro chars
    refine ⟨fun c rest e open' short => ?_, fun outEmpty inEmpty allowed => ?_⟩
    · intro q room
      refine leads_of_take rfl (charSent_call sends call) ?_
      rw [settle_view (g := Path.tx) (fun _ _ => rfl) started, settle_view (g := Path.slot) (fun _ _ => rfl) started,
        settle_view (g := Path.outQ) (fun _ _ => rfl) started]
      exact finished.served_after slot call others e open' short
    · intro cut
      refine leads_of_take rfl (charSent_call sends call) ?_
      rw [settle_view (g := Path.tx) (fun _ _ => rfl) started, settle_view (g := Path.slot) (fun _ _ => rfl) started,
        settle_view (g := Path.outQ) (fun _ _ => rfl) started]
      have path := finished.served_cut slot call others outEmpty inEmpty allowed
      change (served ((s.at t).updPath n Path.sent)).path[n] = _ at path
      rw [path]
      have queue : (s.path[n].outQ.append ((textChars s.cfg text).take (16 * (s.group n).allowance))).chars = cut := by
        show s.path[n].outQ.chars ++ cut = cut
        rw [show s.path[n].outQ.chars = [] from outEmpty]
        rfl
      refine ⟨started_slot _, fun paused => ?_, fun c rest open' e => ?_⟩
      · rw [started_still (p := freedPath s.path[n] _) rfl rfl (.inl paused)]
        exact ⟨rfl, queue⟩
      · have head := queue.trans e
        rw [started_char (p := freedPath s.path[n] (s.path[n].outQ.append _)) rfl rfl open' head]
        refine ⟨rfl, ?_⟩
        show ((s.path[n].outQ.append _).remove 1).chars = rest
        unfold Queue.remove
        rw [head]
        split
        · next short => rw [List.eq_nil_of_length_eq_zero (l := rest) (by rw [List.length_cons] at short; omega)]; rfl
        · rfl
  · refine ⟨gives_of_event (t := t) rfl ?_, leads_of_take rfl (charSent_pattern sends proving phase) ?_⟩
    · exact (congrArg State.kept (charSent_pattern sends proving phase)).trans (kept_updPath _ n _ fun _ => rfl)
    · exact settle_tx ⟨congrArg Path.tx (updPath_self _ _ _), .inl rfl⟩ _ _

end Sys2Proof.Proofs.Transmitters
end

section
/-! Confirmations (R69, R108). A session record through hearing a present station and through the closing work keeps all but its hold, unless END closes
it; so the effect of a verdict stands in the record that the event leaves. -/

namespace Sys2Proof.Proofs.Confirmations

open Sys2Proof Sys2Proof.Machine Sys2Proof.Proofs.Lines Sys2Proof.Proofs.Closing Sys2Proof.Proofs.Disconnect Sys2Proof.Proofs.Texts
open Sys2Proof.Proofs.SessionMoves Sys2Proof.Proofs.Reports Sys2Proof.Proofs.Orders Sys2Proof.Proofs.Transmitters

/-! ## A record but for its hold -/

/-- Two records that differ in the hold counter and HELD at most. -/
def SameButHold (x y : Session) : Prop := ∃ (hold : Option Nat) (held : Bool), y = { x with hold := hold, held := held }

theorem SameButHold.refl (x : Session) : SameButHold x x := ⟨x.hold, x.held, rfl⟩

theorem SameButHold.trans {x y z : Session} (h : SameButHold x y) (k : SameButHold y z) : SameButHold x z := by
  obtain ⟨_, _, rfl⟩ := h
  obtain ⟨hold, held, rfl⟩ := k
  exact ⟨hold, held, rfl⟩

theorem sameButHold_holdTest (s : State) (x : Session) : SameButHold x (s.holdTest x) := by
  unfold State.holdTest
  repeat' split
  · exact ⟨some 0, true, rfl⟩
  · exact .refl x
  · exact ⟨none, x.held, rfl⟩
  · exact .refl x

/-- The closing work leaves a record without the END mark but for its hold. -/
theorem settle_sameButHold {s : State} {n : LineNo} {x : Session} (hx : s.sess[n] = some x) (mark : x.endMark = false) (before : State) (every : Bool) :
    ∃ y, (s.settle before every).sess[n] = some y ∧ SameButHold x y := by
  cases started : s.started with
  | false => rw [Commands.settle_of_not_started before every started]; exact ⟨x, hx, .refl x⟩
  | true =>
    rw [(settle_report started before every n).1, hx]
    refine ⟨_, rfl, ?_⟩
    dsimp only
    rw [endedAt_of_no_end ((holdTest_reason s x).2.trans mark)]
    exact sameButHold_holdTest s x

theorem testHold_sess (s : State) (n : LineNo) : s.testHold.sess[n] = s.sess[n].map s.holdTest := by
  have tested : s.testHold.sess = mapTable s.sess fun _ x => x.map s.holdTest :=
    inFreeOrder_keeps State.sess _ (fun n s => noticeMessages_sess _ n s) (fun _ _ => rfl) _ _
  rw [tested, mapTable_get]

/-- Hearing a present station is a test of the hold conditions and of the offers. -/
theorem hear_present {s : State} {i : Station} (other : i ≠ s.station) (present : s.roster[i].present = true) :
    s.hear i = (State.testHold { s with roster := s.roster.set i { s.roster[i] with age := 0 } }).updateOffers := by
  have roster (u : State) : u.testHold.updateOffers.roster = u.roster := eq_of_kept_roster (by simp)
  have turned : accountantTurned s.roster (s.roster.set i { s.roster[i] with age := 0 }) none = false := by
    simp only [accountantTurned, List.any_eq_false]
    intro j _
    rw [vector_set_get]
    split
    · next e =>
      subst e
      have present' : s.roster[(i : Nat)].present = true := present
      simp [RosterEntry.accountant, present']
    · simp
  unfold State.hear State.changeRoster
  rw [if_neg other]
  unfold State.reactRoster
  rw [clearChannelHold_none _ _ fun n => channelTurnedAbsent_heard s i n]
  dsimp only
  rw [roster, turned, if_neg (by decide)]

theorem hear_sameButHold {s : State} {i : Station} (other : i ≠ s.station) (present : s.roster[i].present = true) {n : LineNo} {x : Session}
    (hx : s.sess[n] = some x) : ∃ y, (s.hear i).sess[n] = some y ∧ SameButHold x y := by
  have offers (u : State) : u.updateOffers.sess = u.sess := updateOffers_keeps (g := State.sess) raise_sess (fun _ _ => rfl) u
  rw [hear_present other present, offers, testHold_sess]
  exact ⟨_, congrArg (Option.map _) hx, sameButHold_holdTest _ x⟩

/-! ## The verdict -/

theorem applyVerdict_accept {s : State} {n : LineNo} {x : Session} {r : Reply} (hx : s.sess[n] = some x) (accept : r.verdict = .accept) :
    s.applyVerdict n r = s.applyStep n ((x.confirmed s.cfg r.granted).testAllowance s.cfg) := by
  unfold State.applyVerdict
  rw [hx]
  exact if_pos accept

theorem applyVerdict_other {s : State} {n : LineNo} {x : Session} {r : Reply} (hx : s.sess[n] = some x) (other : r.verdict ≠ .accept) :
    s.applyVerdict n r = (s.setSess n (some { x with confirm := none })).closeCause n .notConfirmed := by
  unfold State.applyVerdict
  rw [hx]
  exact if_neg other

/-- The session of line `n` once a meter step has been applied, and the close request that the step makes. -/
theorem applyStep_line (s : State) (n : LineNo) (m : MeterStep) :
    (s.applyStep n m).sess[n] = some (closedStep m) ∧
      (∀ r, m.close = some r → r.direct = false → m.sess.reason = none → (s.applyStep n m).asks[n].close = true) := by
  have noticed : (State.noticeMessages m.notices n (s.setSess n (some m.sess))).sess[n] = some m.sess := by
    rw [noticeMessages_sess]
    exact vector_set_get_self _ _ _
  unfold State.applyStep closedStep
  dsimp only
  generalize State.noticeMessages m.notices n (s.setSess n (some m.sess)) = v at *
  cases m.close with
  | none => exact ⟨noticed, fun r h => by cases h⟩
  | some r =>
    refine ⟨by dsimp only; rw [closeCause_sess_self, noticed]; rfl, fun r' h direct open' => ?_⟩
    cases h
    dsimp only
    rw [closeCause_asks_self, if_pos ⟨direct, m.sess, noticed, open'⟩]

/-! ## The allowance a confirmation leaves -/

section
variable (cfg : Configuration) (x : Session)

/-- The allowance test of an open session with no step to take. -/
theorem testAllowance_none (h : x.remaining = none) : x.testAllowance cfg = ⟨x, [], none⟩ := by
  unfold Session.testAllowance
  rw [h]

theorem testAllowance_zero (h : x.remaining = some 0) :
    x.testAllowance cfg =
      if x.grace = none then
        if 0 < cfg.graceTime then ⟨{ x with grace := some cfg.graceTime }, [11], none⟩ else ⟨x, [], some .allowance⟩
      else ⟨x, [], none⟩ := by
  unfold Session.testAllowance
  rw [h]

theorem testAllowance_some {r : Nat} (h : x.remaining = some (r + 1)) :
    x.testAllowance cfg =
      if r + 1 ≤ cfg.warnThreshold ∧ x.warned = false then ⟨{ x with warned := true }, [10], none⟩ else ⟨x, [], none⟩ := by
  unfold Session.testAllowance
  rw [h]

end

/-- The remaining allowance of a session granted anew (R69). -/
def allowanceLeft (x : Session) (g : Granted) : Option Nat := if g.allowance = 65535 then none else some (g.allowance - x.units)

/-- What a confirmation leaves of the session `x`, apart from the allowance that is tested. -/
structure ConfirmedFrom (x : Session) (g : Granted) (y : Session) : Prop where
  user : y.user = x.user
  serial : y.serial = x.serial
  units : y.units = x.units
  channel : y.channel = x.channel
  residue : y.residue = x.residue
  duration : y.duration = x.duration
  echo : y.echo = x.echo
  idle : y.idle = x.idle
  endMark : y.endMark = x.endMark
  cls : y.cls = g.cls
  table : y.table = g.table
  provisional : y.provisional = false
  late : y.lateConfirmed = true
  confirm : y.confirm = none
  remaining : y.remaining = allowanceLeft x g

theorem ConfirmedFrom.sameButHold {x y z : Session} {g : Granted} (h : ConfirmedFrom x g y) (same : SameButHold y z) : ConfirmedFrom x g z := by
  obtain ⟨_, _, rfl⟩ := same
  exact ⟨h.user, h.serial, h.units, h.channel, h.residue, h.duration, h.echo, h.idle, h.endMark, h.cls, h.table, h.provisional, h.late, h.confirm,
    h.remaining⟩

/-- The confirmed session with its new allowance tested (R69, R105, R106, R108). -/
theorem confirmed_tested (cfg : Configuration) (g : Granted) {x : Session} (open' : x.reason = none) :
    ∀ (m : MeterStep) (y : Session), m = (x.confirmed cfg g).testAllowance cfg → y = closedStep m →
    ConfirmedFrom x g y ∧
      ((∀ r ∈ allowanceLeft x g, cfg.warnThreshold < r) → allowanceLeft x g ≠ some 0 → y.grace = none ∧ y.warned = false ∧ y.reason = none) ∧
      (∀ r : Nat, allowanceLeft x g = some (r + 1) → r + 1 ≤ cfg.warnThreshold → y.grace = none ∧ y.warned = true ∧ y.reason = none) ∧
      (allowanceLeft x g = some 0 → y.warned = x.warned ∧
        if x.grace.isSome = true then y.grace = x.grace ∧ y.reason = none
        else if 0 < cfg.graceTime then y.grace = some cfg.graceTime ∧ y.reason = none
        else y.grace = none ∧ y.reason = some .allowance ∧ m.close = some .allowance ∧ m.sess.reason = none) := by
  intro m y em ey
  have remaining : (x.confirmed cfg g).remaining = allowanceLeft x g := rfl
  have warned : (x.confirmed cfg g).warned = (x.warned && match allowanceLeft x g with
      | none => false
      | some r => decide (r ≤ cfg.warnThreshold)) := rfl
  have grace : (x.confirmed cfg g).grace = if allowanceLeft x g = some 0 then x.grace else none := rfl
  have stands : ConfirmedFrom x g (x.confirmed cfg g) := ⟨rfl, rfl, rfl, rfl, rfl, rfl, rfl, rfl, rfl, rfl, rfl, rfl, rfl, rfl, rfl⟩
  have reason : (x.confirmed cfg g).reason = none := open'
  generalize x.confirmed cfg g = z at *
  cases left : allowanceLeft x g with
  | none =>
    rw [left] at remaining warned grace
    rw [testAllowance_none cfg z remaining] at em
    subst em
    have step : y = z := ey
    subst step
    refine ⟨stands, fun _ _ => ⟨?_, warned.trans (Bool.and_false _), reason⟩, fun r e => (by cases e), fun e => (by cases e)⟩
    rw [grace]
    rfl
  | some k =>
    rw [left] at remaining warned grace
    cases k with
    | zero =>
      have warnedStands : z.warned = x.warned := warned.trans (Bool.and_true _)
      have graceStands : z.grace = x.grace := grace
      have step := testAllowance_zero cfg z remaining
      refine ⟨?_, fun _ e => absurd rfl e, fun r e => (by cases e), fun _ => ?_⟩ <;> subst ey <;> rw [em, step] <;> rw [graceStands]
      · split
        · split
          · exact ⟨stands.user, stands.serial, stands.units, stands.channel, stands.residue, stands.duration, stands.echo, stands.idle, stands.endMark,
              stands.cls, stands.table, stands.provisional, stands.late, stands.confirm, stands.remaining⟩
          · show ConfirmedFrom x g (closedBy .allowance z)
            rw [show closedBy .allowance z = { z with reason := some .allowance, confirm := none } from if_pos reason]
            exact ⟨stands.user, stands.serial, stands.units, stands.channel, stands.residue, stands.duration, stands.echo, stands.idle, stands.endMark,
              stands.cls, stands.table, stands.provisional, stands.late, rfl, stands.remaining⟩
        · exact stands
      · cases runs : x.grace with
        | some k =>
          rw [if_neg (by exact Option.some_ne_none k), if_pos (show (some k).isSome = true from rfl)]
          exact ⟨warnedStands, graceStands.trans runs, reason⟩
        | none =>
          rw [if_pos rfl, if_neg (show ¬(none : Option Nat).isSome = true by decide)]
          by_cases time : 0 < cfg.graceTime
          · rw [if_pos time, if_pos time]
            exact ⟨warnedStands, rfl, reason⟩
          · rw [if_neg time, if_neg time]
            have closed : closedStep ⟨z, [], some .allowance⟩ = { z with reason := some .allowance, confirm := none } := if_pos reason
            rw [closed]
            exact ⟨warnedStands, graceStands.trans runs, rfl, rfl, reason⟩
    | succ k =>
      have graceless : z.grace = none := grace
      have step := testAllowance_some cfg z remaining
      refine ⟨?_, fun above _ => ?_, fun r e low => ?_, fun e => (by cases e)⟩ <;> subst ey <;> rw [em, step]
      · split
        · exact ⟨stands.user, stands.serial, stands.units, stands.channel, stands.residue, stands.duration, stands.echo, stands.idle, stands.endMark,
            stands.cls, stands.table, stands.provisional, stands.late, stands.confirm, stands.remaining⟩
        · exact stands
      · have high : cfg.warnThreshold < k + 1 := above _ rfl
        rw [if_neg fun e => absurd e.1 (by omega)]
        refine ⟨graceless, warned.trans ?_, reason⟩
        dsimp only
        rw [decide_eq_false (by omega), Bool.and_false]
      · cases e
        by_cases first : z.warned = false
        · rw [if_pos ⟨low, first⟩]
          exact ⟨graceless, rfl, reason⟩
        · rw [if_neg fun e => first e.2]
          exact ⟨graceless, Bool.not_eq_false _ ▸ first, reason⟩

/-- Settles O22: the reply wait's expiry stops the wait of the confirmation, and a verdict confirms the session or closes it. -/
theorem confirmationsAct : Obligations.ConfirmationsAct := by
  intro t n s x c hx hc mark
  refine ⟨fun d wait due => ?_, fun src p running other bus accountant age line serial fresh unsigned provisional open' => ?_⟩
  · have waits : fallenDue c.wait (s.at t).now = true := by
      rw [wait]
      exact decide_eq_true due
    have effect : (s.at t).confirmWaitExpiry n = (s.at t).setSess n (some { x with confirm := some { c with wait := none } }) := by
      have hx' : (s.at t).sess[n] = some x := hx
      unfold State.confirmWaitExpiry State.updSess
      rw [hx']
      dsimp only
      rw [hc, Option.map_some, if_pos waits]
    refine leads_of_take rfl effect ?_
    obtain ⟨y, sess, hold, held, rfl⟩ := settle_sameButHold (s := (s.at t).setSess n (some { x with confirm := some { c with wait := none } }))
      (n := n) (vector_set_get_self _ _ _) mark (s.at t) false
    exact ⟨_, sess, rfl, rfl, rfl⟩
  · intro left
    have comes : Comes s t src := ⟨running, other, bus⟩
    have present : s.roster[src].present = true := decide_eq_true age
    have core := comes.hear_core
    obtain ⟨x1, hx1, hold, held, rfl⟩ := hear_sameButHold (s := { s.at t with echo := true }) other present (show s.sess[n] = some x from hx)
    have named : lineOf p.line = some n := lineOf_of_eq line
    have entry : (State.hear { s.at t with echo := true } src).roster[src].roles.accountant = true := by
      rw [eq_of_core_roster core, takenFrom_roles]
      exact accountant
    have sign : (State.hear { s.at t with echo := true } src).sign[n] = none := by
      rw [eq_of_core_sign core]
      unfold takenFrom State.heard
      split <;> exact unsigned
    have cfg : (State.hear { s.at t with echo := true } src).cfg = s.cfg := by
      rw [eq_of_core_cfg core]
      unfold takenFrom State.heard
      split <;> rfl
    have effect := comes.takeOwn (fun s => s.takeReply src p)
    generalize State.hear { s.at t with echo := true } src = v at *
    have taker : v.replyTaker n p.serial = .session := by
      unfold State.replyTaker
      rw [sign, hx1]
      dsimp only
      rw [provisional, open', hc]
      simp [serial, fresh]
    have verdict : v.takeReply src p = v.applyVerdict n (readReply p) := by
      unfold State.takeReply
      rw [named]
      dsimp only
      rw [entry, taker]
      rfl
    by_cases accept : (readReply p).verdict = .accept
    · have applied := (effect.trans verdict).trans (applyVerdict_accept hx1 accept)
      rw [cfg] at applied
      refine leads_of_take rfl applied ?_
      obtain ⟨sess, closes⟩ := applyStep_line v n
        (Session.testAllowance s.cfg (Session.confirmed s.cfg (readReply p).granted { x with hold := hold, held := held }))
      obtain ⟨from', high, low, zero⟩ := confirmed_tested s.cfg (readReply p).granted (x := { x with hold := hold, held := held }) open' _ _ rfl rfl
      generalize Session.testAllowance s.cfg (Session.confirmed s.cfg (readReply p).granted { x with hold := hold, held := held }) = m at *
      obtain ⟨y, settled, same⟩ := settle_sameButHold sess (from'.endMark.trans mark) (s.at t) false
      have asked := fun h => settle_close (v.applyStep n m) (s.at t) false n h
      have all := from'.sameButHold same
      obtain ⟨hold', held', rfl⟩ := same
      have left' : allowanceLeft { x with hold := hold, held := held } (readReply p).granted = left := rfl
      rw [left'] at high low zero
      refine ⟨_, settled, all.user, all.serial, all.units, all.channel, all.residue, all.duration, all.echo, all.idle, ?_⟩
      rw [if_pos accept]
      refine ⟨all.cls, all.table, all.provisional, all.late, all.confirm, all.remaining, fun above => high above ?_, low, fun none' => ?_⟩
      · intro none'
        exact absurd (above 0 none') (Nat.not_lt_zero _)
      · obtain ⟨warned, rest⟩ := zero none'
        refine ⟨warned, ?_⟩
        dsimp only at rest ⊢
        split
        · next g => rw [if_pos g] at rest; exact rest
        · next g =>
          rw [if_neg g] at rest
          split
          · next time => rw [if_pos time] at rest; exact rest
          · next time =>
            rw [if_neg time] at rest
            obtain ⟨grace, reason, close, open''⟩ := rest
            exact ⟨grace, reason, asked (closes _ close rfl open'')⟩
    · have applied := (effect.trans verdict).trans (applyVerdict_other hx1 accept)
      refine leads_of_take rfl applied ?_
      have self : (v.setSess n (some { x with hold := hold, held := held, confirm := none })).sess[n] =
        some { x with hold := hold, held := held, confirm := none } := vector_set_get_self _ _ _
      have sess := closeCause_sess_self n .notConfirmed (v.setSess n (some { x with hold := hold, held := held, confirm := none }))
      have asks := closeCause_asks_self n .notConfirmed (v.setSess n (some { x with hold := hold, held := held, confirm := none }))
      rw [self, if_pos ⟨rfl, _, rfl, open'⟩] at asks
      rw [self, Option.map_some, show closedBy .notConfirmed { x with hold := hold, held := held, confirm := none } =
        { x with hold := hold, held := held, confirm := none, reason := some .notConfirmed } from if_pos open'] at sess
      have settled := settle_closing _ (s.at t) false n _ (Option.some_ne_none _) sess
      have asked := settle_close _ (s.at t) false n (congrArg Asks.close asks)
      refine ⟨_, settled, rfl, rfl, rfl, rfl, rfl, rfl, rfl, rfl, ?_⟩
      rw [if_neg accept]
      exact ⟨rfl, asked⟩

end Sys2Proof.Proofs.Confirmations
end

section
/-! The timebase supervisor (R94 to R96): an edge or expiry that is no tick changes the supervisor alone, and the closing work then leaves every hold, which
stands as its conditions call for. -/

namespace Sys2Proof.Proofs.Timebases

open Sys2Proof Sys2Proof.Machine Sys2Proof.Proofs.Lines Sys2Proof.Proofs.Closing Sys2Proof.Proofs.Disconnect Sys2Proof.Proofs.Texts
open Sys2Proof.Proofs.SessionMoves Sys2Proof.Proofs.Reports

/-! ## The supervisor's tests -/

theorem tickDue_iff (b : Timebase) (now : Moment) : b.tickDue now = true ↔ ∀ l ∈ b.lastTick, l + 500 < now := by
  unfold Timebase.tickDue
  cases b.lastTick with
  | none => exact ⟨fun _ l mem => (by cases mem), fun _ => rfl⟩
  | some l => exact ⟨fun due l' mem => (by cases mem; exact of_decide_eq_true due), fun due => decide_eq_true (due l rfl)⟩

theorem returns_iff (b : Timebase) (now : Moment) : b.returns now = true ↔ ∃ c ∈ b.candidate, c + 900 ≤ now ∧ now ≤ c + 1100 := by
  unfold Timebase.returns
  cases b.candidate with
  | none => exact ⟨fun h => (by cases h), fun ⟨c, mem, _⟩ => by cases mem⟩
  | some c =>
    simp only [Bool.and_eq_true, decide_eq_true_eq]
    exact ⟨fun h => ⟨c, rfl, h⟩, fun ⟨c', mem, h⟩ => by cases mem; exact h⟩

/-! ## What a tick leaves of the rest -/

/-- What the notices, the records and the clock do not touch, a tick leaves alone. -/
theorem tick_keeps {α : Type} {g : State → α} (sess : ∀ (s : State) x, g { s with sess := x } = g s) (text : ∀ s n t, g (State.takeText s n t) = g s)
    (close : ∀ s n r, g (State.closeCause n r s) = g s) (draws : ∀ (s : State) k, g { s with draws := k } = g s)
    (clock : ∀ (s : State) c, g { s with clock := c } = g s) (s : State) : g s.tick = g s := by
  have notice (ms : List (Fin 16)) (n : LineNo) (u : State) : g (State.noticeMessages ms n u) = g u := by
    unfold State.noticeMessages
    induction ms generalizing u with
    | nil => rfl
    | cons m ms ih =>
      refine (ih _).trans ?_
      show g (u.noticeText n (messageText [m])) = g u
      unfold State.noticeText
      split
      · exact text u n _
      · rfl
  have closes (n : LineNo) (m : Option MeterStep) (u : State) : g (State.closeBy n m u) = g u := by
    unfold State.closeBy
    split
    · exact close u n _
    · rfl
  unfold State.tick
  dsimp only
  refine (clock _ _).trans ((eachLine_keeps g _ (fun n u => closes n _ u) _ _).trans ?_)
  exact (inFreeOrder_keeps g _ (fun n u => notice _ n u) draws _ _).trans (sess s _)

theorem takeText_timebase (s : State) (n : LineNo) (t : Text) : (s.takeText n t).timebase = s.timebase := by
  unfold State.takeText
  repeat' split
  all_goals rfl

theorem closeCause_timebase (s : State) (n : LineNo) (r : CloseReason) : (s.closeCause n r).timebase = s.timebase := by
  unfold State.closeCause
  repeat' split
  all_goals rfl

theorem takeTick_timebase (s : State) : s.takeTick.timebase = { s.timebase with lastTick := some s.now } :=
  tick_keeps (g := State.timebase) (fun _ _ => rfl) takeText_timebase closeCause_timebase (fun _ _ => rfl) (fun _ _ => rfl) _

/-! ## Holds that stand -/

theorem endedAt_hold (drained : Bool) (st : LineState) (x : Session) : (endedAt drained st x).hold = x.hold := by
  unfold endedAt closedBy
  repeat' split
  all_goals rfl

/-- Where every hold stands as its conditions call for, their test leaves it. -/
theorem holdTest_hold {s : State} {x : Session} (h : x.reason = none → (x.hold.isSome = true ↔ s.holdCondition x = true)) :
    (s.holdTest x).hold = x.hold := by
  unfold State.holdTest
  split
  · next open' =>
    have stands := h open'
    split
    · next condition =>
      split
      · next none' =>
        rw [none'] at stands
        exact absurd (stands.mpr condition) (by decide)
      · rfl
    · next condition =>
      cases hold : x.hold with
      | none => rfl
      | some k =>
        rw [hold] at stands
        exact absurd (stands.mp rfl) condition
  · rfl

/-- The closing work leaves every hold that stands. -/
theorem settle_hold {s : State} (holds : HoldOk s) (before : State) (every : Bool) (n : LineNo) :
    (s.settle before every).sess[n].map Session.hold = s.sess[n].map Session.hold := by
  cases started : s.started with
  | false => rw [Commands.settle_of_not_started before every started]
  | true =>
    rw [(settle_report started before every n).1]
    cases hx : s.sess[n] with
    | none => rfl
    | some x =>
      have held := (holdOk_iff s).mp holds (of_decide_eq_true started) n x hx
      exact congrArg some ((endedAt_hold _ _ _).trans (holdTest_hold held))

/-! ## The commands -/

section
variable {c : Instr} {s : State} {t : Moment} {effect : State → State}

/-- An edge or expiry that is no tick. -/
theorem no_tick {b : Timebase} (h : exec c s = take s t effect) (e : effect (s.at t) = { s.at t with timebase := b }) :
    Gives c s { s.at t with timebase := b } ∧
      Leads c s fun u => u.clock = s.clock ∧ (HoldOk s → ∀ n : LineNo, u.sess[n].map Session.hold = s.sess[n].map Session.hold) := by
  refine ⟨gives_of_eq h e, leads_of_take h e ⟨settle_clock _ _ _, fun holds n => ?_⟩⟩
  exact settle_hold (s := { s.at t with timebase := b }) holds (s.at t) false n

/-- What an edge or expiry leaves of the supervisor. -/
theorem leads_timebase {b : Timebase} (h : exec c s = take s t effect) (e : (effect (s.at t)).timebase = b) : Leads c s fun u => u.timebase = b :=
  leads_of_take h rfl ((settle_timebase _ _ _).trans e)

end

theorem tbEdge_following {s : State} (mode : s.timebase.mode = .following) :
    s.tbEdge = if s.timebase.tickDue s.now then State.takeTick { s with timebase := { s.timebase with watch := some (s.now + watchMs) } } else s := by
  unfold State.tbEdge
  rw [mode]

/-- The supervisor of a reference that has returned. -/
def returnedBase (s : State) : Timebase :=
  { s.timebase with mode := .following, divider := none, candidate := none, watch := some (s.now + watchMs) }

theorem tbEdge_fault {s : State} (mode : s.timebase.mode = .fault) :
    s.tbEdge =
      if s.timebase.returns s.now then
        if s.timebase.tickDue s.now then State.takeTick { s with timebase := returnedBase s } else { s with timebase := returnedBase s }
      else { s with timebase := { s.timebase with candidate := some s.now } } := by
  unfold State.tbEdge
  rw [mode]
  rfl

/-- Settles O29: each edge and expiry by the supervisor's mode and its tests. -/
theorem timebaseFollowsFailsAndReturns : Obligations.TimebaseFollowsFailsAndReturns := by
  intro t s b now tickDue returned noTick
  have due : (s.at t).timebase.tickDue (s.at t).now = true ↔ tickDue := tickDue_iff b now
  have back : (s.at t).timebase.returns (s.at t).now = true ↔ returned := returns_iff b now
  clear_value tickDue returned
  refine ⟨fun mode early => ?_, fun mode candidate => ?_, fun mode back' early => ?_, fun still => ?_, fun still => ?_, fun mode => ?_, fun mode => ?_,
    fun d mode watch fallen => ?_, fun d mode divider fallen => ?_⟩
  · exact no_tick rfl ((tbEdge_following (s := s.at t) mode).trans (if_neg fun e => early (due.mp e)))
  · exact no_tick rfl ((tbEdge_fault (s := s.at t) mode).trans (if_neg fun e => candidate (back.mp e)))
  · exact no_tick rfl ((tbEdge_fault (s := s.at t) mode).trans ((if_pos (back.mpr back')).trans (if_neg fun e => early (due.mp e))))
  · refine no_tick rfl (if_neg fun e => ?_)
    rcases still with mode | later
    · have := e.1.symm.trans mode
      cases this
    · rw [show fallenDue (s.at t).timebase.watch (s.at t).now = false from later] at e
      cases e.2
  · refine no_tick rfl (if_neg fun e => ?_)
    rcases still with mode | later
    · have := e.1.symm.trans mode
      cases this
    · rw [show fallenDue (s.at t).timebase.divider (s.at t).now = false from later] at e
      cases e.2
  · by_cases h : tickDue
    · have e := (tbEdge_following (s := s.at t) mode).trans (if_pos (due.mpr h))
      obtain ⟨u, run, base⟩ := leads_timebase (c := .tbRisingEdge t) rfl ((congrArg State.timebase e).trans (takeTick_timebase _))
      exact ⟨u, run, fun _ => base, fun early => absurd h early⟩
    · have e := (tbEdge_following (s := s.at t) mode).trans (if_neg fun e => h (due.mp e))
      obtain ⟨u, run, base⟩ := leads_timebase (c := .tbRisingEdge t) rfl (congrArg State.timebase e)
      exact ⟨u, run, fun tick => absurd tick h, fun _ => base⟩
  · have all : (b.lastTick.all fun l => decide (l + 500 < now)) = (s.at t).timebase.tickDue (s.at t).now := by
      show (b.lastTick.all fun l => decide (l + 500 < now)) = b.tickDue now
      unfold Timebase.tickDue
      cases b.lastTick <;> rfl
    by_cases h : returned
    · have e := (tbEdge_fault (s := s.at t) mode).trans (if_pos (back.mpr h))
      by_cases tick : (s.at t).timebase.tickDue (s.at t).now = true
      · obtain ⟨u, run, base⟩ := leads_timebase (c := .tbRisingEdge t) rfl ((congrArg State.timebase (e.trans (if_pos tick))).trans (takeTick_timebase _))
        refine ⟨u, run, fun _ => base.trans ?_, fun other => absurd h other⟩
        rw [if_pos (all.trans tick)]
        rfl
      · obtain ⟨u, run, base⟩ := leads_timebase (c := .tbRisingEdge t) rfl (congrArg State.timebase (e.trans (if_neg tick)))
        refine ⟨u, run, fun _ => base.trans ?_, fun other => absurd h other⟩
        rw [if_neg fun e => tick (all.symm.trans e)]
        rfl
    · have e := (tbEdge_fault (s := s.at t) mode).trans (if_neg fun e => h (back.mp e))
      obtain ⟨u, run, base⟩ := leads_timebase (c := .tbRisingEdge t) rfl (congrArg State.timebase e)
      exact ⟨u, run, fun other => absurd other h, fun _ => base⟩
  · have watches : fallenDue (s.at t).timebase.watch (s.at t).now = true := by
      rw [show (s.at t).timebase.watch = some d from watch]
      exact decide_eq_true fallen
    exact leads_timebase rfl ((congrArg State.timebase (if_pos ⟨mode, watches⟩)).trans (takeTick_timebase _))
  · have divides : fallenDue (s.at t).timebase.divider (s.at t).now = true := by
      rw [show (s.at t).timebase.divider = some d from divider]
      exact decide_eq_true fallen
    refine leads_timebase rfl ((congrArg State.timebase (if_pos ⟨mode, divides⟩)).trans ((takeTick_timebase _).trans ?_))
    show Timebase.mk _ _ _ (b.divider.map _) _ = Timebase.mk _ _ _ _ _
    rw [show b.divider = some d from divider]
    rfl

end Sys2Proof.Proofs.Timebases
end

section
/-! A tick (R70, R101 to R107, R110). `MeterSpec` says what one metered tick makes of a session, in the terms of the manual's sections; `tick_line` what a
tick makes of a line; the notices of a tick are taken once for each line, in whatever order. -/

namespace Sys2Proof.Proofs.Ticks

open Sys2Proof Sys2Proof.Machine Sys2Proof.Proofs.Lines Sys2Proof.Proofs.Closing Sys2Proof.Proofs.Disconnect Sys2Proof.Proofs.Texts
open Sys2Proof.Proofs.SessionMoves Sys2Proof.Proofs.Reports Sys2Proof.Proofs.ClosingTexts Sys2Proof.Proofs.Timebases
open Sys2Proof.Proofs.Confirmations Sys2Proof.Proofs.Transmitters Sys2Proof.Proofs.Moves Sys2Proof.Proofs.Proving

/-! ## One metered tick -/

/-- The remaining allowance after a tick at rate `r` (R104). -/
def leftAt (x : Session) (r : Nat) : Option Nat := x.remaining.map (· - x.produced r)

/-- The new remaining allowance warns (R105). -/
def Warns (cfg : Configuration) (x : Session) (r : Nat) : Prop :=
  leftAt x r ≠ x.remaining ∧ x.warned = false ∧ ∃ k ∈ leftAt x r, 0 < k ∧ k ≤ cfg.warnThreshold

/-- The new remaining allowance exhausts the session (R106). -/
def Exhausts (x : Session) (r : Nat) : Prop := leftAt x r ≠ x.remaining ∧ leftAt x r = some 0 ∧ x.grace = none

/-- The tick closes the session with ALLOWANCE (R106, R107). -/
def Closes (cfg : Configuration) (x : Session) (r : Nat) : Prop := Exhausts x r ∧ cfg.graceTime = 0 ∨ ∃ g ∈ x.grace, g ≤ 1

/-- What one metered tick at rate `r` makes of the session `x`. -/
structure MeterSpec (cfg : Configuration) (x : Session) (r : Nat) (m : MeterStep) : Prop where
  user : m.sess.user = x.user
  serial : m.sess.serial = x.serial
  table : m.sess.table = x.table
  channel : m.sess.channel = x.channel
  timebase : m.sess.timebase = x.timebase
  endMark : m.sess.endMark = x.endMark
  reason : m.sess.reason = x.reason
  hold : m.sess.hold = x.hold
  residue : m.sess.residue = (x.residue + r) % 3600
  duration : m.sess.duration = min 16777215 (x.duration + 1)
  units : m.sess.units = min 16777215 (x.units + x.produced r)
  remaining : m.sess.remaining = leftAt x r
  saturated : m.sess.saturated = (x.saturated || decide (16777215 < x.units + x.produced r ∨ 16777215 ≤ x.duration))
  warned : Warns cfg x r → m.sess.warned = true
  unwarned : ¬Warns cfg x r → m.sess.warned = x.warned
  graced : Exhausts x r ∧ 0 < cfg.graceTime → m.sess.grace = some cfg.graceTime
  ungraced : ¬(Exhausts x r ∧ 0 < cfg.graceTime) → m.sess.grace = x.grace.map (· - 1)
  closed : Closes cfg x r → m.sess.idle = x.idle ∧ m.close = some .allowance
  idled : ¬Closes cfg x r → m.sess.idle = x.idle.map (· - 1) ∧ m.close = if x.idle = some 1 then some .idle else none
  warning : Warns cfg x r → x.idle ≠ some 61 → m.notices = [10]
  exhausted : Exhausts x r → 0 < cfg.graceTime → x.idle ≠ some 61 → m.notices = [11]
  idling : ¬Warns cfg x r → ¬Exhausts x r → ¬Closes cfg x r → x.idle = some 61 → m.notices = [12]

/-- The grace counter that stood before the tick is lowered (R107). -/
theorem lowerGrace_none (m : MeterStep) : m.lowerGrace none = m := rfl

theorem lowerGrace_some {m : MeterStep} {g : Nat} (h : m.sess.grace = some g) :
    m.lowerGrace (some g) = { m with sess := { m.sess with grace := some (g - 1) }, close := if g ≤ 1 then some .allowance else m.close } := by
  unfold MeterStep.lowerGrace
  rw [h]

/-- The idle timer is lowered unless the session has been closed (R70). -/
theorem lowerIdle_of_closed {m : MeterStep} (h : m.close ≠ none) : m.lowerIdle = m := by
  unfold MeterStep.lowerIdle
  split
  · next e _ => exact absurd e h
  · rfl

theorem lowerIdle_of_open {m : MeterStep} (h : m.close = none) :
    m.lowerIdle =
      { sess := { m.sess with idle := m.sess.idle.map (· - 1) }
        notices := if m.sess.idle = some 61 then m.notices ++ [12] else m.notices
        close := if m.sess.idle = some 1 then some .idle else none } := by
  unfold MeterStep.lowerIdle
  rw [h]
  obtain ⟨x, notices, close⟩ := m
  obtain rfl : close = none := h
  dsimp only
  cases idle : x.idle with
  | none =>
    rw [if_neg (by decide), if_neg (by decide)]
    exact congrArg (fun y => MeterStep.mk y notices none) (by cases x; cases idle; rfl)
  | some i =>
    cases i with
    | zero =>
      rw [if_neg (by decide), if_neg (by decide)]
      exact congrArg (fun y => MeterStep.mk y notices none) (by cases x; cases idle; rfl)
    | succ i =>
      dsimp only
      rw [Option.map_some, Nat.add_sub_cancel]
      simp only [Option.some.injEq, Nat.reduceEqDiff]

/-- A step before the counters are lowered: the record with what the allowance test changed. -/
structure TestedSpec (cfg : Configuration) (x : Session) (r : Nat) (m : MeterStep) : Prop where
  user : m.sess.user = x.user
  serial : m.sess.serial = x.serial
  table : m.sess.table = x.table
  channel : m.sess.channel = x.channel
  timebase : m.sess.timebase = x.timebase
  endMark : m.sess.endMark = x.endMark
  reason : m.sess.reason = x.reason
  hold : m.sess.hold = x.hold
  idle : m.sess.idle = x.idle
  residue : m.sess.residue = (x.residue + r) % 3600
  duration : m.sess.duration = min 16777215 (x.duration + 1)
  units : m.sess.units = min 16777215 (x.units + x.produced r)
  remaining : m.sess.remaining = leftAt x r
  saturated : m.sess.saturated = (x.saturated || decide (16777215 < x.units + x.produced r ∨ 16777215 ≤ x.duration))
  warned : Warns cfg x r → m.sess.warned = true ∧ m.notices = [10]
  unwarned : ¬Warns cfg x r → m.sess.warned = x.warned
  graced : Exhausts x r ∧ 0 < cfg.graceTime → m.sess.grace = some cfg.graceTime ∧ m.notices = [11]
  ungraced : ¬(Exhausts x r ∧ 0 < cfg.graceTime) → m.sess.grace = x.grace
  quiet : ¬Warns cfg x r → ¬Exhausts x r → m.notices = []
  closed : Exhausts x r ∧ cfg.graceTime = 0 → m.close = some .allowance
  standing : ¬(Exhausts x r ∧ cfg.graceTime = 0) → m.close = none

/-- The meter advanced and the allowance tested (R102 to R106). -/
def testedStep (cfg : Configuration) (r : Nat) (x : Session) : MeterStep :=
  let y := (x.advance r).deduct (x.produced r)
  if y.remaining = x.remaining then ⟨y, [], none⟩ else y.testAllowance cfg

theorem meter_eq (cfg : Configuration) (r : Nat) (x : Session) : x.meter cfg r = ((testedStep cfg r x).lowerGrace x.grace).lowerIdle := rfl

theorem testedStep_spec (cfg : Configuration) (x : Session) (r : Nat) : TestedSpec cfg x r (testedStep cfg r x) := by
  have saturated : ((x.advance r).deduct (x.produced r)).saturated =
      (x.saturated || decide (16777215 < x.units + x.produced r ∨ 16777215 ≤ x.duration)) := by
    show (x.saturated || decide (16777215 ≤ x.duration) || decide (16777215 < x.units + x.produced r)) = _
    rw [Bool.or_assoc, ← Bool.decide_or]
    exact congrArg _ (decide_eq_decide.mpr or_comm)
  have remaining : ((x.advance r).deduct (x.produced r)).remaining = leftAt x r := rfl
  have warned : ((x.advance r).deduct (x.produced r)).warned = x.warned := rfl
  have grace : ((x.advance r).deduct (x.produced r)).grace = x.grace := rfl
  have still (w : ¬Warns cfg x r) (e : ¬Exhausts x r) : TestedSpec cfg x r ⟨(x.advance r).deduct (x.produced r), [], none⟩ :=
    ⟨rfl, rfl, rfl, rfl, rfl, rfl, rfl, rfl, rfl, rfl, rfl, rfl, rfl, saturated, fun h => absurd h w, fun _ => rfl, fun h => absurd h.1 e, fun _ => rfl,
      fun _ _ => rfl, fun h => absurd h.1 e, fun _ => rfl⟩
  unfold testedStep
  dsimp only
  rw [remaining]
  by_cases same : leftAt x r = x.remaining
  · rw [if_pos same]
    exact still (fun h => h.1 same) fun h => h.1 same
  rw [if_neg same]
  cases left : leftAt x r with
  | none =>
    rw [testAllowance_none _ _ (remaining.trans left)]
    refine still (fun h => ?_) fun h => ?_
    · obtain ⟨k, mem, -⟩ := h.2.2
      rw [left] at mem
      cases mem
    · have := left.symm.trans h.2.1
      cases this
  | some k =>
    cases k with
    | zero =>
      have mild : ¬Warns cfg x r := fun h => by
        obtain ⟨k, mem, pos, -⟩ := h.2.2
        rw [left] at mem
        cases mem
        exact absurd pos (Nat.lt_irrefl 0)
      rw [testAllowance_zero _ _ (remaining.trans left), grace]
      by_cases none' : x.grace = none
      · have exhausts : Exhausts x r := ⟨same, left, none'⟩
        rw [if_pos none']
        by_cases time : 0 < cfg.graceTime
        · rw [if_pos time]
          exact ⟨rfl, rfl, rfl, rfl, rfl, rfl, rfl, rfl, rfl, rfl, rfl, rfl, rfl, saturated, fun h => absurd h mild, fun _ => rfl, fun _ => ⟨rfl, rfl⟩,
            fun h => absurd ⟨exhausts, time⟩ h, fun _ h => absurd exhausts h, fun h => absurd h.2 (by omega), fun _ => rfl⟩
        · rw [if_neg time]
          exact ⟨rfl, rfl, rfl, rfl, rfl, rfl, rfl, rfl, rfl, rfl, rfl, rfl, rfl, saturated, fun h => absurd h mild, fun _ => rfl, fun h => absurd h.2 time,
            fun _ => rfl, fun _ _ => rfl, fun _ => rfl, fun h => absurd ⟨exhausts, by omega⟩ h⟩
      · rw [if_neg none']
        exact still mild fun h => none' h.2.2
    | succ k =>
      have solvent : ¬Exhausts x r := fun h => by
        have := left.symm.trans h.2.1
        cases this
      rw [testAllowance_some _ _ (remaining.trans left), warned]
      by_cases low : k + 1 ≤ cfg.warnThreshold ∧ x.warned = false
      · have warns : Warns cfg x r := ⟨same, low.2, k + 1, left, Nat.succ_pos k, low.1⟩
        rw [if_pos low]
        exact ⟨rfl, rfl, rfl, rfl, rfl, rfl, rfl, rfl, rfl, rfl, rfl, rfl, rfl, saturated, fun _ => ⟨rfl, rfl⟩, fun h => absurd warns h,
          fun h => absurd h.1 solvent, fun _ => rfl, fun h => absurd warns h, fun h => absurd h.1 solvent, fun _ => rfl⟩
      · rw [if_neg low]
        refine still (fun h => low ?_) solvent
        obtain ⟨-, first, k', mem, -, le⟩ := h
        rw [left] at mem
        cases mem
        exact ⟨le, first⟩

theorem not_exhausts_of_grace {x : Session} {r g : Nat} (h : x.grace = some g) : ¬Exhausts x r := fun e => by
  have := h.symm.trans e.2.2
  cases this

/-- A step whose grace counter has been lowered. -/
structure GracedSpec (cfg : Configuration) (x : Session) (r : Nat) (m : MeterStep) : Prop where
  user : m.sess.user = x.user
  serial : m.sess.serial = x.serial
  table : m.sess.table = x.table
  channel : m.sess.channel = x.channel
  timebase : m.sess.timebase = x.timebase
  endMark : m.sess.endMark = x.endMark
  reason : m.sess.reason = x.reason
  hold : m.sess.hold = x.hold
  idle : m.sess.idle = x.idle
  residue : m.sess.residue = (x.residue + r) % 3600
  duration : m.sess.duration = min 16777215 (x.duration + 1)
  units : m.sess.units = min 16777215 (x.units + x.produced r)
  remaining : m.sess.remaining = leftAt x r
  saturated : m.sess.saturated = (x.saturated || decide (16777215 < x.units + x.produced r ∨ 16777215 ≤ x.duration))
  warned : Warns cfg x r → m.sess.warned = true ∧ m.notices = [10]
  unwarned : ¬Warns cfg x r → m.sess.warned = x.warned
  graced : Exhausts x r ∧ 0 < cfg.graceTime → m.sess.grace = some cfg.graceTime ∧ m.notices = [11]
  ungraced : ¬(Exhausts x r ∧ 0 < cfg.graceTime) → m.sess.grace = x.grace.map (· - 1)
  quiet : ¬Warns cfg x r → ¬Exhausts x r → m.notices = []
  closed : Closes cfg x r → m.close = some .allowance
  standing : ¬Closes cfg x r → m.close = none

theorem TestedSpec.lowerGrace {cfg : Configuration} {x : Session} {r : Nat} {m : MeterStep} (h : TestedSpec cfg x r m) :
    GracedSpec cfg x r (m.lowerGrace x.grace) := by
  cases grace : x.grace with
  | none =>
    rw [lowerGrace_none]
    refine ⟨h.user, h.serial, h.table, h.channel, h.timebase, h.endMark, h.reason, h.hold, h.idle, h.residue, h.duration, h.units, h.remaining, h.saturated,
      h.warned, h.unwarned, h.graced, fun e => ?_, h.quiet, fun e => ?_, fun e => h.standing fun k => e (.inl k)⟩
    · rw [h.ungraced e, grace]
      rfl
    · rcases e with e | ⟨g, mem, -⟩
      · exact h.closed e
      · rw [grace] at mem
        cases mem
  | some g =>
    have solvent : ¬Exhausts x r := not_exhausts_of_grace grace
    have stands : m.sess.grace = some g := (h.ungraced fun e => solvent e.1).trans grace
    rw [lowerGrace_some stands]
    refine ⟨h.user, h.serial, h.table, h.channel, h.timebase, h.endMark, h.reason, h.hold, h.idle, h.residue, h.duration, h.units, h.remaining, h.saturated,
      h.warned, h.unwarned, fun e => absurd e.1 solvent, fun _ => ?_, h.quiet, fun e => ?_, fun e => ?_⟩
    · rw [grace]
      rfl
    · rcases e with e | ⟨g', mem, le⟩
      · exact absurd e.1 solvent
      · rw [grace] at mem
        cases mem
        exact if_pos le
    · have high : ¬g ≤ 1 := fun le => e (.inr ⟨g, grace, le⟩)
      exact (if_neg high).trans (h.standing fun k => solvent k.1)

theorem meter_spec (cfg : Configuration) (r : Nat) (x : Session) : MeterSpec cfg x r (x.meter cfg r) := by
  rw [meter_eq]
  have h := (testedStep_spec cfg x r).lowerGrace
  generalize (testedStep cfg r x).lowerGrace x.grace = m at *
  by_cases closes : Closes cfg x r
  · have close := h.closed closes
    rw [lowerIdle_of_closed (by rw [close]; exact Option.some_ne_none _)]
    exact ⟨h.user, h.serial, h.table, h.channel, h.timebase, h.endMark, h.reason, h.hold, h.residue, h.duration, h.units, h.remaining, h.saturated,
      fun w => (h.warned w).1, h.unwarned, fun e => (h.graced e).1, h.ungraced, fun _ => ⟨h.idle, close⟩, fun e => absurd closes e,
      fun w _ => (h.warned w).2, fun e time _ => (h.graced ⟨e, time⟩).2, fun _ _ e => absurd closes e⟩
  · rw [lowerIdle_of_open (h.standing closes)]
    refine ⟨h.user, h.serial, h.table, h.channel, h.timebase, h.endMark, h.reason, h.hold, h.residue, h.duration, h.units, h.remaining, h.saturated,
      fun w => (h.warned w).1, h.unwarned, fun e => (h.graced e).1, h.ungraced, fun e => absurd e closes, fun _ => ?_, fun w i => ?_, fun e time i => ?_,
      fun w e _ i => ?_⟩ <;> dsimp only <;> rw [h.idle]
    · exact ⟨rfl, rfl⟩
    · rw [if_neg i]
      exact (h.warned w).2
    · rw [if_neg i]
      exact (h.graced ⟨e, time⟩).2
    · rw [if_pos i, h.quiet w e]
      rfl

/-! ## A tick, line by line -/

/-- Steps in an open order, one for each line: what the other lines' steps keep, the line's own step changes once. -/
theorem freeLines_turn {P Q : State → Prop} {f : LineNo → State → State} {n : LineNo} (keepP : ∀ m s, m ≠ n → P s → P (f m s))
    (keepQ : ∀ m s, m ≠ n → Q s → Q (f m s)) (turn : ∀ s, P s → Q (f n s)) (drawsP : ∀ (s : State) k, P s → P { s with draws := k })
    (drawsQ : ∀ (s : State) k, Q s → Q { s with draws := k }) (k : Nat) {ls : List LineNo} (once : ls.Nodup) (fuel : ls.length < k) {s : State} :
    (n ∈ ls → P s → Q (freeLines k ls f s)) ∧ (n ∉ ls → Q s → Q (freeLines k ls f s)) := by
  induction k generalizing ls s with
  | zero => exact absurd fuel (Nat.not_lt_zero _)
  | succ k ih =>
    match ls, once, fuel with
    | [], _, _ => exact ⟨fun mem => (by cases mem), fun _ q => q⟩
    | [a], _, _ =>
      refine ⟨fun mem p => ?_, fun out q => ?_⟩
      · obtain rfl := List.mem_singleton.mp mem
        exact turn s p
      · exact keepQ a s (fun e => out (by rw [e]; exact List.mem_cons_self)) q
    | a :: b :: rest, once, fuel =>
      simp only [freeLines]
      have perm : (pickFirst s.draws (a :: b :: rest)).Perm (a :: b :: rest) := by
        unfold pickFirst
        exact (List.perm_append_comm).trans (by rw [List.take_append_drop])
      generalize pickFirst s.draws (a :: b :: rest) = picked at perm
      cases picked with
      | nil => exact absurd perm.length_eq (by simp)
      | cons p others =>
        dsimp only
        obtain ⟨out, once'⟩ := List.nodup_cons.mp (perm.nodup_iff.mpr once)
        have fuel' : others.length < k := by
          have := perm.length_eq
          simp only [List.length_cons] at this fuel
          omega
        obtain ⟨first, second⟩ := ih once' fuel' (s := f p { s with draws := s.draws + 1 })
        refine ⟨fun mem pre => ?_, fun absent q => ?_⟩
        · rcases List.mem_cons.mp (perm.mem_iff.mpr mem) with e | mem'
          · subst e
            exact second out (turn _ (drawsP _ _ pre))
          · exact first mem' (keepP p _ (fun e => out (e ▸ mem')) (drawsP _ _ pre))
        · have absent' : n ∉ p :: others := fun mem => absent (perm.mem_iff.mp mem)
          exact second (fun mem => absent' (List.mem_cons_of_mem _ mem)) (keepQ p _ (fun e => absent' (e ▸ List.mem_cons_self)) (drawsQ _ _ q))

theorem inFreeOrder_turn {P Q : State → Prop} {f : LineNo → State → State} {n : LineNo} {ls : List LineNo} (once : ls.Nodup) (mem : n ∈ ls)
    (keepP : ∀ m s, m ≠ n → P s → P (f m s)) (keepQ : ∀ m s, m ≠ n → Q s → Q (f m s)) (turn : ∀ s, P s → Q (f n s))
    (drawsP : ∀ (s : State) k, P s → P { s with draws := k }) (drawsQ : ∀ (s : State) k, Q s → Q { s with draws := k }) {s : State} (h : P s) :
    Q (inFreeOrder ls f s) := by
  unfold inFreeOrder
  exact (freeLines_turn keepP keepQ turn drawsP drawsQ (ls.length + 1) once (Nat.lt_succ_self _)).1 mem h

theorem noticeMessages_cfg (ms : List (Fin 16)) (n : LineNo) (s : State) : (State.noticeMessages ms n s).cfg = s.cfg := by
  unfold State.noticeMessages
  induction ms generalizing s with
  | nil => rfl
  | cons m ms ih =>
    refine (ih _).trans ?_
    show (s.noticeText n (messageText [m])).cfg = s.cfg
    unfold State.noticeText
    split
    · exact takeText_cfg s n _
    · rfl

theorem noticeMessages_sup (ms : List (Fin 16)) (n : LineNo) (s : State) : (State.noticeMessages ms n s).sup = s.sup := by
  unfold State.noticeMessages
  induction ms generalizing s with
  | nil => rfl
  | cons m ms ih =>
    refine (ih _).trans ?_
    show (s.noticeText n (messageText [m])).sup = s.sup
    unfold State.noticeText
    split
    · exact takeText_sup s n _
    · rfl

/-- A line in SESSION whose path stands at `p`, in a configuration. -/
def Waiting (cfg : Configuration) (n : LineNo) (p : Path) (s : State) : Prop := s.path[n] = p ∧ s.st n = .session ∧ s.cfg = cfg

/-- A single notice of each line in an open order: that of a line in SESSION is taken (R45). -/
theorem placed_notices {ms : LineNo → List (Fin 16)} {n : LineNo} {m : Fin 16} {ls : List LineNo} (once : ls.Nodup) (mem : n ∈ ls) (one : ms n = [m])
    {s : State} (st : s.st n = .session) :
    Placed s.cfg ⟨[.message m], none⟩ n s.path[n].outQ s.path[n].tx (inFreeOrder ls (fun n => State.noticeMessages (ms n) n) s) := by
  refine inFreeOrder_turn (P := Waiting s.cfg n s.path[n]) once mem (fun k u hk h => ?_) (fun k u hk h => ?_) (fun u h => ?_) (fun u k h => h)
    (fun u k h => ⟨h.config, h.sends, h.text⟩) ⟨rfl, st, rfl⟩
  · obtain ⟨path, st, cfg⟩ := h
    refine ⟨(noticeMessages_path_ne _ hk u).trans path, ?_, (noticeMessages_cfg _ k u).trans cfg⟩
    unfold State.st
    rw [noticeMessages_sup]
    exact st
  · exact h.of_same (noticeMessages_path_ne _ hk u) (noticeMessages_cfg _ k u)
  · obtain ⟨path, st, cfg⟩ := h
    rw [one]
    have taken : State.noticeMessages [m] n u = u.takeText n ⟨[.message m], none⟩ := noticeText_of_session _ st
    rw [taken, ← cfg, ← path]
    exact placed_takeText u n _

/-- The path that a tick leaves is that of its notices. -/
theorem tick_path (s : State) : s.tick.path = (tickNotices s).path := by
  have notices : ∀ v : Vector (Option Session) 16,
      inFreeOrder (allLines.filter fun n => noticesOf (s.tickLine n) ≠ []) (fun n => State.noticeMessages (noticesOf (s.tickLine n)) n)
        { s with sess := v } = { tickNotices s with sess := v } :=
    fun v => inFreeOrder_withSess _ (fun n t v => noticeMessages_withSess _ n t v) _ s v
  have closes (n : LineNo) (m : Option MeterStep) (u : State) : (State.closeBy n m u).path = u.path := by
    unfold State.closeBy
    split
    · exact closeCause_path u n _
    · rfl
  unfold State.tick
  dsimp only
  rw [notices]
  exact eachLine_keeps State.path _ (fun n u => closes n _ u) _ _

/-- The notice of a tick, taken for a line in SESSION. -/
theorem placed_tick {s : State} {n : LineNo} {m : MeterStep} {i : Fin 16} (step : s.tickLine n = some m) (one : m.notices = [i])
    (st : s.st n = .session) : Placed s.cfg ⟨[.message i], none⟩ n s.path[n].outQ s.path[n].tx s.tick := by
  have notices : noticesOf (s.tickLine n) = [i] := by rw [step]; exact one
  have mem : n ∈ allLines.filter fun n => noticesOf (s.tickLine n) ≠ [] := by
    refine List.mem_filter.mpr ⟨mem_allLines n, ?_⟩
    rw [notices]
    exact decide_eq_true (List.cons_ne_nil _ _)
  have placed : Placed s.cfg ⟨[.message i], none⟩ n s.path[n].outQ s.path[n].tx (tickNotices s) :=
    placed_notices (allLines_nodup.filter _) mem notices st
  refine placed.of_same (by rw [tick_path]) ?_
  have cfg := tick_keeps (g := State.cfg) (fun _ _ => rfl) takeText_cfg (fun _ _ _ => closeCause_cfg _ _ _) (fun _ _ => rfl) (fun _ _ => rfl) s
  exact cfg.trans placed.config.symm

/-- A line's session and waiting requests after a tick. -/
theorem tick_line (s : State) (n : LineNo) :
    s.tick.sess[n] = ticked s n ∧
      ∀ m r, s.tickLine n = some m → m.close = some r → r.direct = false → m.sess.reason = none → s.tick.asks[n].close = true := by
  have sess : s.tick.sess = tabulate 16 (ticked s) := congrArg Vital.sess (vital_tick s)
  refine ⟨by rw [sess, tabulate_get], fun m r step close direct open' => ?_⟩
  have notices : ∀ v : Vector (Option Session) 16,
      inFreeOrder (allLines.filter fun n => noticesOf (s.tickLine n) ≠ []) (fun n => State.noticeMessages (noticesOf (s.tickLine n)) n)
        { s with sess := v } = { tickNotices s with sess := v } :=
    fun v => inFreeOrder_withSess _ (fun n t v => noticeMessages_withSess _ n t v) _ s v
  unfold State.tick
  dsimp only
  rw [notices]
  generalize hv : (mapTable s.sess fun n x => match s.tickLine n with | some m => some m.sess | none => x) = v
  have here : v[n] = some m.sess := by
    subst hv
    rw [mapTable_get, step]
  have closes : ∀ (ls : List LineNo) (u : State), n ∈ ls → ls.Nodup → u.sess[n] = some m.sess →
      (eachLine ls (fun n => State.closeBy n (s.tickLine n)) u).asks[n].close = true := by
    intro ls
    induction ls with
    | nil => intro u mem; cases mem
    | cons k ls ih =>
      intro u mem once hu
      obtain ⟨out, once⟩ := List.nodup_cons.mp once
      show (eachLine ls (fun n => State.closeBy n (s.tickLine n)) (State.closeBy k (s.tickLine k) u)).asks[n].close = true
      by_cases e : k = n
      · subst e
        refine eachLine_induction (fun w : State => w.asks[k].close = true) _ (fun j w hw => ?_) _ _ ?_
        · unfold State.closeBy
          split
          · exact closeCause_close w j k _ hw
          · exact hw
        · rw [step]
          obtain ⟨z, notes, c⟩ := m
          obtain rfl : c = some r := close
          show (State.closeCause k r u).asks[k].close = true
          rw [closeCause_asks_self, if_pos ⟨direct, z, hu, open'⟩]
      · refine ih _ ((List.mem_cons.mp mem).resolve_left (Ne.symm e)) once ?_
        rw [closeBy_sess_ne e]
        exact hu
  exact closes allLines _ (mem_allLines n) allLines_nodup here

/-- The clock of a tick (R97). -/
theorem tick_clock (s : State) : s.tick.clock = s.clock.advance := by
  have clock : s.tick.clock = (tickNotices s).clock.advance := congrArg Vital.clock (vital_tick s)
  have kept : (tickNotices s).clock = s.clock :=
    inFreeOrder_keeps State.clock _ (fun n u => eq_of_kept_clock (kept_noticeMessages _ n u)) (fun _ _ => rfl) _ s
  rw [clock, kept]

/-! ## What the event leaves of a record -/

/-- A record through the closing work: its meter stands, a close reason stands, and without END none is set. -/
theorem settle_record {s : State} {n : LineNo} {z : Session} (hz : s.sess[n] = some z) (before : State) (every : Bool) :
    ∃ y, (s.settle before every).sess[n] = some y ∧ y.metered = z.metered ∧ (z.reason ≠ none → y = z) ∧ (z.endMark = false → y.reason = z.reason) ∧
      (∀ h, z.hold = some h → s.holdCondition z = true → y.hold = some h) := by
  by_cases closing : z.reason = none
  · have keep (w : Session) (d : Bool) (st : LineState) : (endedAt d st w).metered = w.metered := by
      unfold endedAt closedBy
      repeat' split
      all_goals rfl
    cases started : s.started with
    | false =>
      rw [Commands.settle_of_not_started before every started]
      exact ⟨z, hz, rfl, fun _ => rfl, fun _ => rfl, fun h e _ => e⟩
    | true =>
      rw [(settle_report started before every n).1, hz]
      refine ⟨_, rfl, (keep _ _ _).trans (holdTest_metered s z), fun e => absurd closing e, fun mark => ?_, fun h hold condition => ?_⟩
      · dsimp only
        rw [endedAt_of_no_end ((holdTest_reason s z).2.trans mark)]
        exact (holdTest_reason s z).1
      · dsimp only
        rw [endedAt_hold]
        have same : s.holdTest z = z := by
          unfold State.holdTest
          rw [if_pos closing, if_pos condition, if_neg (by rw [hold]; exact Option.some_ne_none h)]
        rw [same]
        exact hold
  · exact ⟨z, settle_closing s before every n z closing hz, rfl, fun _ => rfl, fun _ => rfl, fun h hold _ => hold⟩

/-! ## The command -/

/-- The record that a tick's source gives the session: TIMEBASE is set where the reference has failed (R95). -/
def flagged (failed : Bool) (x : Session) : Session := { x with timebase := x.timebase || failed }

/-- A state that a tick is taken in: that of `s` but for its moment, its supervisor and TIMEBASE. -/
structure TickFrom (s w : State) (failed : Bool) : Prop where
  sess : ∀ n : LineNo, w.sess[n] = s.sess[n].map (flagged failed)
  rest : ∃ (now : Moment) (base : Timebase), { w with sess := s.sess } = { s with now := now, timebase := base }

theorem flagged_false (x : Session) : flagged false x = x := by
  unfold flagged
  rw [Bool.or_false]

theorem TickFrom.of_timebase (s : State) (t : Moment) (b : Timebase) : TickFrom s { s.at t with timebase := b } false := by
  refine ⟨fun n => ?_, _, b, rfl⟩
  show s.sess[n] = _
  cases s.sess[n] with
  | none => rfl
  | some x => exact congrArg some (flagged_false x).symm

section
variable {s w : State} {failed : Bool}

theorem TickFrom.sup (h : TickFrom s w failed) : w.sup = s.sup := by obtain ⟨-, _, _, e⟩ := h; exact (congrArg State.sup e :)
theorem TickFrom.sign (h : TickFrom s w failed) : w.sign = s.sign := by obtain ⟨-, _, _, e⟩ := h; exact (congrArg State.sign e :)
theorem TickFrom.clock (h : TickFrom s w failed) : w.clock = s.clock := by obtain ⟨-, _, _, e⟩ := h; exact (congrArg State.clock e :)
theorem TickFrom.cfg (h : TickFrom s w failed) : w.cfg = s.cfg := by obtain ⟨-, _, _, e⟩ := h; exact (congrArg State.cfg e :)
theorem TickFrom.path (h : TickFrom s w failed) : w.path = s.path := by obtain ⟨-, _, _, e⟩ := h; exact (congrArg State.path e :)
theorem TickFrom.roster (h : TickFrom s w failed) : w.roster = s.roster := by obtain ⟨-, _, _, e⟩ := h; exact (congrArg State.roster e :)
theorem TickFrom.bus (h : TickFrom s w failed) : w.bus = s.bus := by obtain ⟨-, _, _, e⟩ := h; exact (congrArg State.bus e :)

end

/-- What a tick leaves alone of what the obligation names. -/
theorem tick_rest (w : State) : w.tick.sup = w.sup ∧ w.tick.sign = w.sign ∧ w.tick.roster = w.roster ∧ w.tick.bus = w.bus ∧ w.tick.cfg = w.cfg := by
  have keeps := tick_keeps (g := fun u : State => (u.sup, u.sign, u.roster, u.bus, u.cfg)) (fun _ _ => rfl)
    (fun s n t => by unfold State.takeText; repeat' split
                     all_goals rfl)
    (fun s n r => by unfold State.closeCause; repeat' split
                     all_goals rfl) (fun _ _ => rfl) (fun _ _ => rfl) w
  simp only [Prod.mk.injEq] at keeps
  exact keeps

/-- The event of a tick, from whichever of its sources. -/
theorem tick_leads {c : Instr} {s w : State} {t : Moment} {failed : Bool} {effect : State → State} (h : exec c s = take s t effect)
    (e : effect (s.at t) = w.tick) (from' : TickFrom s w failed) :
    Leads c s fun u =>
      u.clock = s.clock.advance ∧ u.sup = s.sup ∧ u.sign = s.sign ∧
        ∀ (n : LineNo) (x : Session), s.sess[n] = some x →
          (x.reason = none → x.hold = none →
            ∃ (m : MeterStep) (y : Session), MeterSpec s.cfg (flagged failed x) (rateAt s.cfg.tariffs[x.table] s.clock.minute) m ∧ u.sess[n] = some y ∧
              y.metered = (closedStep m).metered ∧ (∀ r, m.close = some r → y.reason = some r ∧ (r.direct = false → u.asks[n].close = true)) ∧
              (m.close = none → x.endMark = false → y.reason = none) ∧
              ∀ i, m.notices = [i] → s.st n = .session → s.entersHold n = false → s.path[n].slot = none → s.path[n].tx.isSome = true →
                TextAppendedOrWaits s.cfg ⟨[.message i], none⟩ s.path[n] u.path[n]) ∧
          (∀ h, x.reason = none → x.hold = some h →
            ∃ y : Session, u.sess[n] = some y ∧ y.metered = (flagged failed x).metered ∧
              (60 * s.cfg.channelLoss ≤ h + 1 → y.reason = some .channelLost ∧ u.asks[n].close = true) ∧
              (h + 1 < 60 * s.cfg.channelLoss → x.endMark = false → y.reason = none) ∧
              (s.holdCondition x = true → y.hold = some (h + 1))) ∧
          (x.reason ≠ none → u.sess[n] = some (flagged failed x)) := by
  refine leads_of_take h e ?_
  obtain ⟨sup, sign, roster, bus, cfg⟩ := tick_rest w
  have clock := tick_clock w
  have line := tick_line w
  have placed := fun n m i => placed_tick (s := w) (n := n) (m := m) (i := i)
  have room : ∀ n m i, w.tickLine n = some m → m.notices = [i] → w.st n = .session → w.path[n].tx.isSome = true → w.tick.entersHold n = false →
      (((w.tick.settle (s.at t) false).path[n].slot = none ∧
          (w.tick.settle (s.at t) false).path[n].outQ = w.path[n].outQ.append (textChars w.cfg ⟨[.message i], none⟩)) ∨
        ((w.tick.settle (s.at t) false).path[n].slot = some ⟨[.message i], none⟩ ∧ (w.tick.settle (s.at t) false).path[n].outQ = w.path[n].outQ)) :=
    fun n m i step one st sends hold => ((placed n m i step one st).settle sends hold (s.at t) false).2
  have record := fun n z hz => settle_record (s := w.tick) (n := n) (z := z) hz (s.at t) false
  have asked := fun n h => settle_close w.tick (s.at t) false n h
  have kept := settle_kept w.tick (s.at t) false
  have conditions (z : Session) : w.tick.holdCondition z = s.holdCondition z := by
    unfold State.holdCondition
    rw [roster, bus, from'.roster, from'.bus]
  have enters (n : LineNo) : w.tick.entersHold n = match w.tick.sess[n] with
      | some x => decide (x.reason = none) && decide (x.hold = none) && w.tick.holdCondition x
      | none => false := rfl
  have closing := fun n z hr hz => settle_closing w.tick (s.at t) false n z hr hz
  generalize w.tick.settle (s.at t) false = u at *
  generalize w.tick = v at *
  refine ⟨(eq_of_kept_clock kept).trans (clock.trans (congrArg Clock.advance from'.clock)), (eq_of_kept_sup kept).trans (sup.trans from'.sup),
    (eq_of_kept_sign kept).trans (sign.trans from'.sign), fun n x hx => ?_⟩
  have here : w.sess[n] = some (flagged failed x) := by rw [from'.sess, hx]; rfl
  obtain ⟨sess, closes⟩ := line n
  have wst : w.st n = s.st n := by unfold State.st; rw [from'.sup]
  refine ⟨fun open' free => ?_, fun h open' hold => ?_, fun closing' => ?_⟩
  · have step : w.tickLine n = some ((flagged failed x).meter s.cfg (rateAt s.cfg.tariffs[x.table] s.clock.minute)) := by
      have hold' : (flagged failed x).hold = none := free
      unfold State.tickLine State.tickSession
      rw [here, Option.bind_some, if_pos (show (flagged failed x).reason = none from open'), hold', from'.cfg, from'.clock]
      rfl
    have spec := meter_spec s.cfg (rateAt s.cfg.tariffs[x.table] s.clock.minute) (flagged failed x)
    generalize (flagged failed x).meter s.cfg (rateAt s.cfg.tariffs[x.table] s.clock.minute) = m at *
    have after : v.sess[n] = some (closedStep m) := by
      rw [sess]
      unfold ticked
      rw [step]
    have opens : m.sess.reason = none := spec.reason.trans open'
    obtain ⟨y, settled, metered, stands, unmarked, -⟩ := record n _ after
    refine ⟨m, y, spec, settled, metered, fun r close => ?_, fun close mark => ?_, fun i one st hold slot sends => ?_⟩
    · have closed : closedStep m = { m.sess with reason := some r, confirm := none } := by
        unfold closedStep
        rw [close]
        exact if_pos opens
      rw [closed] at stands
      refine ⟨?_, fun direct => asked n (closes m r step close direct opens)⟩
      rw [stands (Option.some_ne_none r)]
    · have same : closedStep m = m.sess := by unfold closedStep; rw [close]
      rw [same] at unmarked
      exact (unmarked (spec.endMark.trans mark)).trans opens
    · have still : v.entersHold n = false := by
        have condition : s.holdCondition x = false := by
          have e : s.entersHold n = (decide (x.reason = none) && decide (x.hold = none) && s.holdCondition x) := by
            unfold State.entersHold
            rw [hx]
          rw [e, open', free] at hold
          exact hold
        rw [enters, after]
        dsimp only
        have channel : (closedStep m).channel = x.channel := by
          unfold closedStep closedBy
          repeat' split
          all_goals exact spec.channel
        have same : v.holdCondition (closedStep m) = s.holdCondition x := by
          rw [conditions]
          exact congrArg (fun i : Station => !s.roster[i].channel || decide (s.bus ≠ .active)) channel
        rw [same, condition, Bool.and_false]
      have text := room n m i step one (wst.trans st) (by rw [from'.path]; exact sends) still
      rw [from'.path, from'.cfg] at text
      exact text
  · have step : w.tickLine n = some ((flagged failed x).holdTick s.cfg h) := by
      have hold' : (flagged failed x).hold = some h := hold
      unfold State.tickLine State.tickSession
      rw [here, Option.bind_some, if_pos (show (flagged failed x).reason = none from open'), hold', from'.cfg]
    have after : v.sess[n] = some (closedStep ((flagged failed x).holdTick s.cfg h)) := by
      rw [sess]
      unfold ticked
      rw [step]
    have condition (z : Session) (e : z.channel = x.channel) : v.holdCondition z = s.holdCondition x := by
      rw [conditions]
      exact congrArg (fun i : Station => !s.roster[i].channel || decide (s.bus ≠ .active)) e
    obtain ⟨y, settled, metered, stands, unmarked, holds⟩ := record n _ after
    by_cases lost : 60 * s.cfg.channelLoss ≤ h + 1
    · have close : ((flagged failed x).holdTick s.cfg h).close = some .channelLost := if_pos lost
      have closed : closedStep ((flagged failed x).holdTick s.cfg h) =
          { flagged failed x with hold := some (h + 1), reason := some .channelLost, confirm := none } := by
        unfold closedStep
        rw [close]
        exact if_pos open'
      rw [closed] at metered stands holds
      rw [stands (Option.some_ne_none _)] at settled
      exact ⟨_, settled, rfl, fun _ => ⟨rfl, asked n (closes _ _ step close rfl open')⟩, fun low => absurd lost (by omega), fun _ => rfl⟩
    · have close : ((flagged failed x).holdTick s.cfg h).close = none := if_neg lost
      have same : closedStep ((flagged failed x).holdTick s.cfg h) = { flagged failed x with hold := some (h + 1) } := by
        unfold closedStep
        rw [close]
        rfl
      rw [same] at metered unmarked holds
      refine ⟨y, settled, metered, fun high => absurd high lost, fun _ mark => (unmarked mark).trans open', fun c => holds _ rfl ((condition _ ?_).trans c)⟩
      rfl
  · have step : w.tickLine n = none := by
      unfold State.tickLine State.tickSession
      rw [here, Option.bind_some]
      exact if_neg closing'
    have after : v.sess[n] = some (flagged failed x) := by
      rw [sess]
      unfold ticked
      rw [step]
      exact here
    exact closing n _ closing' after

/-- Settles O30: `tick_leads` for each source of a tick, its `MeterSpec` read field by field. -/
theorem tickMetersEverySession : Obligations.TickMetersEverySession := by
  intro c t s source
  have ticks : ∃ (w : State) (effect : State → State), exec c s = take s t effect ∧ effect (s.at t) = w.tick ∧
      TickFrom s w (decide (c = .watchTimerExpiry t)) := by
    rcases source with ⟨rfl, mode, due⟩ | ⟨rfl, mode, due, back⟩ | ⟨rfl, mode, d, watch, fallen⟩ | ⟨rfl, mode, d, divider, fallen⟩
    · exact ⟨_, _, rfl, (tbEdge_following (s := s.at t) mode).trans (if_pos ((tickDue_iff _ _).mpr due)), TickFrom.of_timebase s t _⟩
    · exact ⟨_, _, rfl, (tbEdge_fault (s := s.at t) mode).trans ((if_pos ((returns_iff _ _).mpr back)).trans (if_pos ((tickDue_iff _ _).mpr due))),
        TickFrom.of_timebase s t _⟩
    · have watches : fallenDue (s.at t).timebase.watch (s.at t).now = true := by
        rw [show (s.at t).timebase.watch = some d from watch]
        exact decide_eq_true fallen
      refine ⟨_, _, rfl, if_pos ⟨mode, watches⟩, fun n => ?_, _, _, rfl⟩
      show (mapTable s.sess fun _ x => x.map fun x => { x with timebase := true })[n] = _
      rw [mapTable_get, decide_eq_true rfl]
      cases s.sess[n] with
      | none => rfl
      | some x => exact congrArg some (by unfold flagged; rw [Bool.or_true])
    · have divides : fallenDue (s.at t).timebase.divider (s.at t).now = true := by
        rw [show (s.at t).timebase.divider = some d from divider]
        exact decide_eq_true fallen
      exact ⟨_, _, rfl, if_pos ⟨mode, divides⟩, TickFrom.of_timebase s t _⟩
  obtain ⟨w, effect, run, e, from'⟩ := ticks
  generalize decide (c = .watchTimerExpiry t) = failed at *
  obtain ⟨u, out, clock, sup, sign, lines⟩ := tick_leads run e from'
  refine ⟨u, out, ?_, ?_, ?_, sup, sign, fun n x hx => ?_⟩
  · rw [clock]
    unfold Clock.advance
    split <;> rfl
  · rw [clock]
    unfold Clock.advance
    split <;> rfl
  · rw [clock]
    unfold Clock.advance
    split <;> rfl
  obtain ⟨metered, held, closing⟩ := lines n x hx
  by_cases open' : x.reason = none
  swap
  · exact ⟨_, closing open', rfl, rfl, rfl, rfl, fun h => absurd h.1 open', fun _ => ⟨rfl, rfl, rfl, rfl, rfl, rfl, rfl⟩, fun h e => absurd e open'⟩
  cases hold : x.hold with
  | some h =>
    obtain ⟨y, sess, same, lost, stays, counts⟩ := held h open' hold
    refine ⟨y, sess, (congrArg Session.user same :), (congrArg Session.serial same :), (congrArg Session.table same :), (congrArg Session.timebase same :),
      fun e => (by cases e.2), fun _ => ⟨(congrArg Session.residue same :), (congrArg Session.duration same :), (congrArg Session.units same :),
        (congrArg Session.remaining same :), (congrArg Session.grace same :), (congrArg Session.idle same :), (congrArg Session.saturated same :)⟩,
      fun h' _ e condition => ?_⟩
    obtain rfl := Option.some.inj e
    exact ⟨counts ((holdCondition_iff s x).mpr condition), lost, stays⟩
  | none =>
    obtain ⟨m, y, spec, sess, same, closes, stays, texts⟩ := metered open' hold
    have step : (closedStep m).metered = m.sess.metered := by
      unfold closedStep closedBy
      repeat' split
      all_goals rfl
    have same := same.trans step
    refine ⟨y, sess, (congrArg Session.user same : _).trans spec.user, (congrArg Session.serial same : _).trans spec.serial,
      (congrArg Session.table same : _).trans spec.table, (congrArg Session.timebase same : _).trans spec.timebase, fun _ => ?_,
      fun e => absurd e (by rw [open']; decide), fun h _ e => (by cases e)⟩
    intro rate produced left warns exhausts closes' noticed
    have idle : y.idle = m.sess.idle := (congrArg Session.idle same :)
    have grace : y.grace = m.sess.grace := (congrArg Session.grace same :)
    have warned : y.warned = m.sess.warned := (congrArg Session.warned same :)
    refine ⟨(congrArg Session.residue same : _).trans spec.residue, (congrArg Session.duration same : _).trans spec.duration,
      (congrArg Session.units same : _).trans spec.units, (congrArg Session.remaining same : _).trans spec.remaining,
      (congrArg Session.saturated same : _).trans spec.saturated, fun w => warned.trans (spec.warned w), fun w => warned.trans (spec.unwarned w),
      fun e => grace.trans (spec.graced e), fun e => grace.trans (spec.ungraced e), fun e => ?_, fun e => idle.trans (spec.idled e).1, fun e i => ?_,
      fun e i mark => ?_, fun w i => texts 10 (spec.warning w i), fun e time i => texts 11 (spec.exhausted e time i),
      fun w e c i => texts 12 (spec.idling w e c i)⟩
    · obtain ⟨still, close⟩ := spec.closed e
      obtain ⟨reason, asked⟩ := closes _ close
      exact ⟨idle.trans still, reason, asked rfl⟩
    · have close := (spec.idled e).2
      rw [if_pos (show (flagged failed x).idle = some 1 from i)] at close
      obtain ⟨reason, asked⟩ := closes _ close
      exact ⟨reason, asked rfl⟩
    · have close := (spec.idled e).2
      rw [if_neg (show ¬(flagged failed x).idle = some 1 from i)] at close
      exact stays close mark

end Sys2Proof.Proofs.Ticks
end

section
/-! The establish move (R67 to R69, R100, R105, R109): the new record, its allowance tested, its hold tested, and a held reply applied to it. -/

namespace Sys2Proof.Proofs.Establishment

open Sys2Proof Sys2Proof.Machine Sys2Proof.Proofs.Lines Sys2Proof.Proofs.Closing Sys2Proof.Proofs.Disconnect Sys2Proof.Proofs.Texts
open Sys2Proof.Proofs.SessionMoves Sys2Proof.Proofs.Reports Sys2Proof.Proofs.Transmitters Sys2Proof.Proofs.Confirmations

/-! ## The allowance of a new record -/

/-- A new record with its allowance tested. -/
structure TestedNew (cfg : Configuration) (x y : Session) (m : MeterStep) : Prop where
  same : ∃ (warned : Bool) (grace : Option Nat) (reason : Option CloseReason) (confirm : Option Confirm),
    y = { x with warned := warned, grace := grace, reason := reason, confirm := confirm }
  reason : y.reason = if x.remaining = some 0 ∧ cfg.graceTime = 0 then some .allowance else none
  warned : y.warned = match x.remaining with
    | some r => decide (0 < r ∧ r ≤ cfg.warnThreshold)
    | none => false
  grace : y.grace = if x.remaining = some 0 ∧ 0 < cfg.graceTime then some cfg.graceTime else none
  confirm : y.confirm = if y.reason = none then x.confirm else none
  close : y.reason ≠ none → m.close = some .allowance ∧ m.sess.reason = none

theorem tested_new (cfg : Configuration) {x : Session} (reason : x.reason = none) (grace : x.grace = none) (warned : x.warned = false) :
    TestedNew cfg x (closedStep (x.testAllowance cfg)) (x.testAllowance cfg) := by
  have self : x = { x with warned := x.warned, grace := x.grace, reason := x.reason, confirm := x.confirm } := rfl
  cases remaining : x.remaining with
  | none =>
    rw [testAllowance_none cfg x remaining]
    refine ⟨⟨_, _, _, _, self⟩, ?_, ?_, ?_, ?_, fun h => absurd reason h⟩ <;> show _ = _
    · rw [remaining, if_neg (fun e => (by cases e.1))]; exact reason
    · rw [remaining]; exact warned
    · rw [remaining, if_neg (fun e => (by cases e.1))]; exact grace
    · exact (if_pos reason).symm
  | some k =>
    cases k with
    | zero =>
      rw [testAllowance_zero cfg x remaining, if_pos grace]
      by_cases time : 0 < cfg.graceTime
      · rw [if_pos time]
        refine ⟨⟨x.warned, some cfg.graceTime, x.reason, x.confirm, rfl⟩, ?_, ?_, ?_, ?_, fun h => absurd reason h⟩
        · rw [remaining, if_neg (fun e => absurd e.2 (by omega))]; exact reason
        · rw [remaining]; exact warned
        · rw [remaining, if_pos ⟨rfl, time⟩]; rfl
        · exact (if_pos reason).symm
      · rw [if_neg time]
        have closed : closedStep ⟨x, [], some .allowance⟩ = { x with reason := some .allowance, confirm := none } := if_pos reason
        rw [closed]
        refine ⟨⟨x.warned, x.grace, _, _, rfl⟩, ?_, ?_, ?_, rfl, fun _ => ⟨rfl, reason⟩⟩
        · rw [remaining, if_pos ⟨rfl, by omega⟩]
        · rw [remaining]; exact warned
        · rw [remaining, if_neg (fun e => time e.2)]; exact grace
    | succ k =>
      have positive : (decide (0 < k + 1 ∧ k + 1 ≤ cfg.warnThreshold)) = decide (k + 1 ≤ cfg.warnThreshold) :=
        decide_eq_decide.mpr ⟨fun h => h.2, fun h => ⟨Nat.succ_pos k, h⟩⟩
      have finite (p : Prop) : ¬(some (k + 1) = some 0 ∧ p) := fun e => by cases e.1
      rw [testAllowance_some cfg x remaining]
      by_cases low : k + 1 ≤ cfg.warnThreshold
      · rw [if_pos ⟨low, warned⟩]
        refine ⟨⟨true, x.grace, x.reason, x.confirm, rfl⟩, ?_, ?_, ?_, ?_, fun h => absurd reason h⟩
        · rw [remaining, if_neg (finite _)]; exact reason
        · rw [remaining]
          exact (positive.trans (decide_eq_true low)).symm
        · rw [remaining, if_neg (finite _)]; exact grace
        · exact (if_pos reason).symm
      · rw [if_neg fun e => low e.1]
        refine ⟨⟨x.warned, x.grace, x.reason, x.confirm, rfl⟩, ?_, ?_, ?_, ?_, fun h => absurd reason h⟩
        · rw [remaining, if_neg (finite _)]; exact reason
        · rw [remaining]
          exact warned.trans (positive.trans (decide_eq_false low)).symm
        · rw [remaining, if_neg (finite _)]; exact grace
        · exact (if_pos reason).symm

/-! ## The move -/

theorem kept_applyStep (s : State) (n : LineNo) (m : MeterStep) : (s.applyStep n m).kept = (s.setSess n (some m.sess)).kept := by
  unfold State.applyStep
  dsimp only
  split
  · rw [kept_closeCause, kept_noticeMessages]
  · rw [kept_noticeMessages]

theorem takeEstablish_other {s : State} {n : LineNo} (asked : s.asks[n].establish = true) (hst : s.st n ≠ .signon) :
    s.takeEstablish n = s.setAsks n { s.asks[n] with establish := false } := by
  unfold State.takeEstablish
  rw [if_pos asked]
  dsimp only
  split
  · next e _ => exact absurd e hst
  · rfl

theorem takeEstablish_moves {s : State} {n : LineNo} {c : Context} {g : Granted} (asked : s.asks[n].establish = true) (hst : s.st n = .signon)
    (hc : s.sign[n] = some c) (passed : c.admitted = true) (granted : c.granted = some g) :
    s.takeEstablish n = (s.setAsks n { s.asks[n] with establish := false }).establish n c g := by
  unfold State.takeEstablish
  rw [if_pos asked]
  dsimp only
  have st : (s.setAsks n { s.asks[n] with establish := false }).st n = .signon := hst
  have sign : (s.setAsks n { s.asks[n] with establish := false }).sign[n] = some c := hc
  rw [st, sign]
  dsimp only
  rw [granted]
  exact if_pos passed

/-- The line just before its session's allowance is tested. -/
def entered (s : State) (n : LineNo) : State :=
  (((s.setAsks n { s.asks[n] with establish := false }).updSup n fun l => l.enterCall .session).setSign n none).beginPath n

/-- The line with its session's allowance and hold tested. -/
def opened (s : State) (n : LineNo) (c : Context) (g : Granted) : State :=
  ((entered s n).applyStep n ((s.newSession c g).testAllowance s.cfg)).testHold

theorem establish_eq (s : State) (n : LineNo) (c : Context) (g : Granted) :
    (s.setAsks n { s.asks[n] with establish := false }).establish n c g = (opened s n c g).applyHeld n c.heldReply := rfl

/-- What the opened line has of the rest. -/
structure OpenedLine (s v : State) (n : LineNo) : Prop where
  st : v.st n = .session
  sign : v.sign[n] = none
  inQ : v.path[n].inQ = s.path[n].inQ
  inputHeld : v.path[n].inputHeld = false
  paused : v.path[n].paused = false
  loader : v.loader = s.loader

theorem OpenedLine.of_kept {s v w : State} {n : LineNo} (h : OpenedLine s v n) {x : Option Session} (kept : w.kept = (v.setSess n x).kept) :
    OpenedLine s w n := by
  have inward := eq_of_kept_inward kept n
  refine ⟨?_, ?_, (congrArg Path.inQ inward : w.path[n].inward.inQ = v.path[n].inward.inQ).trans h.inQ,
    (congrArg Path.inputHeld inward : w.path[n].inward.inputHeld = v.path[n].inward.inputHeld).trans h.inputHeld,
    (congrArg Path.paused inward : w.path[n].inward.paused = v.path[n].inward.paused).trans h.paused, (eq_of_kept_loader kept).trans h.loader⟩
  · have sup : w.sup = v.sup := (eq_of_kept_sup kept).trans rfl
    unfold State.st
    rw [sup]
    exact h.st
  · have sign : w.sign = v.sign := (eq_of_kept_sign kept).trans rfl
    rw [sign]
    exact h.sign

theorem OpenedLine.of_same {s v w : State} {n : LineNo} (h : OpenedLine s v n) (kept : w.kept = v.kept) : OpenedLine s w n := by
  refine h.of_kept (x := v.sess[n]) (kept.trans ?_)
  exact (kept_setSess v n _ rfl).symm

theorem entered_line (s : State) (n : LineNo) : OpenedLine s (entered s n) n := by
  have path : (entered s n).path[n] = { s.path[n] with
      paused := false, inputHeld := false, owed := none, attention := false, brk := false, mark := none,
      fwdDue := false, fwdTimer := none, inFlight := none, flow := some .go, channelHold := false } := vector_set_get_self _ _ _
  have sup : (entered s n).sup = s.sup.set n (s.sup[n].enterCall .session) := rfl
  refine ⟨?_, vector_set_get_self _ _ _, by rw [path], by rw [path], by rw [path], rfl⟩
  unfold State.st
  rw [sup, vector_set_get_self]
  rfl

/-- What a meter step applied to a line leaves of the rest of the state. -/
theorem applyStep_rest (e : State) (n : LineNo) (m : MeterStep) :
    (e.applyStep n m).roster = e.roster ∧ (e.applyStep n m).bus = e.bus ∧ (e.applyStep n m).cfg = e.cfg := by
  have kept := kept_applyStep e n m
  exact ⟨(eq_of_kept_roster kept).trans rfl, (eq_of_kept_bus kept).trans rfl, (eq_of_kept_cfg kept).trans rfl⟩

theorem testHold_rest (e : State) : e.testHold.roster = e.roster ∧ e.testHold.bus = e.bus ∧ e.testHold.cfg = e.cfg :=
  ⟨eq_of_kept_roster (kept_testHold e), eq_of_kept_bus (kept_testHold e), eq_of_kept_cfg (kept_testHold e)⟩

theorem holdCondition_congr {s v : State} (roster : v.roster = s.roster) (bus : v.bus = s.bus) (x : Session) : v.holdCondition x = s.holdCondition x := by
  unfold State.holdCondition
  rw [roster, bus]

theorem holdTest_congr {s v : State} (roster : v.roster = s.roster) (bus : v.bus = s.bus) (x : Session) : v.holdTest x = s.holdTest x := by
  unfold State.holdTest
  rw [holdCondition_congr roster bus]

/-- The opened line's record and rest. -/
theorem opened_line (s : State) (n : LineNo) (c : Context) (g : Granted) :
    OpenedLine s (opened s n c g) n ∧
      (opened s n c g).cfg = s.cfg ∧ (∀ x, (opened s n c g).holdCondition x = s.holdCondition x) ∧
      ∃ y m, TestedNew s.cfg (s.newSession c g) y m ∧ (opened s n c g).sess[n] = some (s.holdTest y) ∧
        (y.reason ≠ none → (opened s n c g).asks[n].close = true) := by
  have enters := entered_line s n
  have roster : (entered s n).roster = s.roster := rfl
  have bus : (entered s n).bus = s.bus := rfl
  have cfg : (entered s n).cfg = s.cfg := rfl
  have tested := tested_new s.cfg (x := s.newSession c g) rfl rfl rfl
  unfold opened
  generalize entered s n = e at *
  generalize Session.testAllowance s.cfg (s.newSession c g) = m at *
  have applied := kept_applyStep e n m
  obtain ⟨roster', bus', cfg'⟩ := applyStep_rest e n m
  obtain ⟨sess, closes⟩ := applyStep_line e n m
  generalize e.applyStep n m = v at *
  obtain ⟨roster'', bus'', cfg''⟩ := testHold_rest v
  have asks : v.testHold.asks = v.asks :=
    testHold_keeps (g := State.asks) (fun _ _ _ _ => rfl) (fun _ _ => rfl) (fun _ => rfl) (fun _ _ => rfl) v
  refine ⟨enters.of_kept ((kept_testHold v).trans applied), cfg''.trans (cfg'.trans cfg),
    holdCondition_congr (roster''.trans (roster'.trans roster)) (bus''.trans (bus'.trans bus)), _, _, tested, ?_, fun h => ?_⟩
  · rw [testHold_sess, sess]
    exact congrArg some (holdTest_congr (roster'.trans roster) (bus'.trans bus) _)
  · obtain ⟨close, open'⟩ := tested.close h
    rw [asks]
    exact closes _ close rfl open'

/-! ## The command -/

/-- The record of a new session after the event, with no reply held. -/
theorem opened_settle {s : State} (t : Moment) (n : LineNo) (c : Context) (g : Granted) :
    let u := (opened (s.at t) n c g).settle (s.at t) false
    OpenedLine s u n ∧
      ∃ y m x, TestedNew s.cfg (s.newSession c g) y m ∧ u.sess[n] = some x ∧ SameButHold y x ∧ (y.reason ≠ none → u.asks[n].close = true) ∧
        (s.loader = .running → y.reason = none → x.held = s.holdCondition y ∧ x.hold = if s.holdCondition y = true then some 0 else none) := by
  intro u
  obtain ⟨line, cfg, condition, y, m, tested, sess, asked⟩ := opened_line (s.at t) n c g
  have kept := settle_kept (opened (s.at t) n c g) (s.at t) false
  have same := fun x hx mark => settle_sameButHold (s := opened (s.at t) n c g) (n := n) (x := x) hx mark (s.at t) false
  have report := fun h => (settle_report (s := opened (s.at t) n c g) h (s.at t) false n).1
  have close := fun h => settle_close (opened (s.at t) n c g) (s.at t) false n h
  change u.kept = _ at kept
  change ∀ x hx mark, ∃ y, u.sess[n] = _ ∧ _ at same
  change ∀ h, u.sess[n] = _ at report
  change _ → u.asks[n].close = true at close
  clear_value u
  have hold0 : y.hold = none ∧ y.held = false ∧ y.endMark = false := by
    obtain ⟨_, _, _, _, e⟩ := tested.same
    rw [e]
    exact ⟨rfl, rfl, rfl⟩
  obtain ⟨hold, held, mark⟩ := hold0
  generalize opened (s.at t) n c g = v at *
  have mark' : ((s.at t).holdTest y).endMark = false := (holdTest_reason _ y).2.trans mark
  obtain ⟨x, hx, but⟩ := same _ sess mark'
  have line' : OpenedLine s v n := ⟨line.st, line.sign, line.inQ, line.inputHeld, line.paused, line.loader⟩
  refine ⟨line'.of_same kept, y, m, x, tested, hx, (sameButHold_holdTest _ y).trans but, fun h => close (asked h), fun running open' => ?_⟩
  have started : v.started = true := decide_eq_true (line'.loader.trans running)
  have e := report started
  rw [sess, Option.map_some, endedAt_of_no_end ((holdTest_reason v _).2.trans mark')] at e
  have twice : v.holdTest ((s.at t).holdTest y) = (s.at t).holdTest y := by
    have open'' := (holdTest_reason (s.at t) y).1.trans open'
    have channel : ((s.at t).holdTest y).channel = y.channel := (holdTest_cases (s.at t) y).1
    have condition' : v.holdCondition ((s.at t).holdTest y) = (s.at t).holdCondition y := by
      rw [condition]
      exact congrArg (fun i : Station => !s.roster[i].channel || decide (s.bus ≠ .active)) channel
    show (if ((s.at t).holdTest y).reason = none then
        if v.holdCondition ((s.at t).holdTest y) then
          if ((s.at t).holdTest y).hold = none then { (s.at t).holdTest y with hold := some 0, held := true } else (s.at t).holdTest y
        else { (s.at t).holdTest y with hold := none }
      else (s.at t).holdTest y) = _
    rw [if_pos open'', condition']
    unfold State.holdTest
    rw [if_pos open']
    cases (s.at t).holdCondition y with
    | true =>
      rw [if_pos rfl, if_pos rfl, if_pos hold]
      rfl
    | false =>
      rw [if_neg (by decide), if_neg (by decide)]
  rw [twice] at e
  obtain rfl := Option.some.inj (hx.symm.trans e)
  unfold State.holdTest
  rw [if_pos open']
  have conditionAt : (s.at t).holdCondition y = s.holdCondition y := rfl
  rw [conditionAt]
  cases s.holdCondition y with
  | true =>
    rw [if_pos rfl, if_pos hold, if_pos rfl]
    exact ⟨rfl, rfl⟩
  | false =>
    rw [if_neg (by decide), if_neg (by decide)]
    exact ⟨held, rfl⟩

theorem testAllowance_granted (cfg : Configuration) (x : Session) : (closedStep (x.testAllowance cfg)).granted = x.granted := by
  have closed (y : Session) : (closedBy .allowance y).granted = y.granted := by
    unfold closedBy
    split <;> rfl
  unfold Session.testAllowance
  repeat' split
  · rfl
  · rfl
  · exact closed x
  · rfl
  · rfl
  · rfl

/-- A confirmed session whose grace time is above 0 stays open (R69, R106). -/
theorem confirmed_open {cfg : Configuration} {g : Granted} {x : Session} (open' : x.reason = none) (time : 0 < cfg.graceTime) :
    (closedStep ((x.confirmed cfg g).testAllowance cfg)).reason = none := by
  obtain ⟨-, high, low, zero⟩ := confirmed_tested cfg g open' _ _ rfl rfl
  cases left : allowanceLeft x g with
  | none =>
    refine (high (fun r mem => ?_) (by rw [left]; exact fun e => by cases e)).2.2
    rw [left] at mem
    cases mem
  | some k =>
    cases k with
    | zero =>
      have rest := (zero left).2
      rw [if_pos time] at rest
      split at rest
      · exact rest.2
      · exact rest.2
    | succ k =>
      by_cases below : k + 1 ≤ cfg.warnThreshold
      · exact (low k left below).2.2
      · refine (high (fun r mem => ?_) (by rw [left]; exact fun e => by cases e)).2.2
        rw [left] at mem
        cases mem
        omega

/-- Settles O13: the request off SIGNON is dropped; in SIGNON the record is opened, and a held reply confirms it or closes it. -/
theorem establishCreatesTheSession : Obligations.EstablishCreatesTheSession := by
  intro t n s
  refine ⟨fun asked hst => gives_of_eq (t := t) rfl (takeEstablish_other (s := s.at t) asked hst), fun c g asked hst hc passed granted => ?_⟩
  have effect := (takeEstablish_moves (s := s.at t) asked hst hc passed granted).trans (establish_eq (s.at t) n c g)
  intro fee
  refine ⟨fun none' => ?_, fun held hheld time => ?_⟩
  · rw [none'] at effect
    refine leads_of_take rfl effect ?_
    obtain ⟨line, y, m, x, tested, sess, but, asks, holds⟩ := opened_settle (s := s) t n c g
    change OpenedLine s (((opened (s.at t) n c g).applyHeld n none).settle (s.at t) false) n at line
    change (((opened (s.at t) n c g).applyHeld n none).settle (s.at t) false).sess[n] = _ at sess
    change _ → (((opened (s.at t) n c g).applyHeld n none).settle (s.at t) false).asks[n].close = true at asks
    generalize ((opened (s.at t) n c g).applyHeld n none).settle (s.at t) false = u at *
    refine ⟨line.st, line.sign, line.inQ, line.inputHeld, line.paused, x, sess, ?_⟩
    obtain ⟨hold, held, rfl⟩ := but
    have reason := tested.reason
    have warned := tested.warned
    have grace := tested.grace
    have confirm := tested.confirm
    have condition := holdCondition_iff s y
    obtain ⟨warned', grace', reason', confirm', rfl⟩ := tested.same
    refine ⟨rfl, rfl, rfl, rfl, rfl, rfl, rfl, rfl, rfl, rfl, rfl, rfl, rfl, rfl, rfl, rfl, rfl, rfl, rfl, ?_⟩
    intro channelLost
    refine ⟨reason, asks, warned, grace, fun running open' => ?_, fun open' => confirm.trans (if_pos open'), fun closed => confirm.trans (if_neg closed)⟩
    obtain ⟨held', hold'⟩ := holds running open'
    have same : channelLost = s.holdCondition ({ s.newSession c g with warned := warned', grace := grace', reason := reason', confirm := confirm' } : Session) := by
      rw [← Bool.coe_iff_coe, condition]
      exact decide_eq_true_iff
    rw [same]
    exact ⟨held', hold'⟩
  · rw [hheld] at effect
    obtain ⟨line, cfg, -, y, m, tested, sess, -⟩ := opened_line (s.at t) n c g
    change _ = (opened (s.at t) n c g).applyVerdict n held at effect
    have open' : y.reason = none := tested.reason.trans (if_neg fun e => absurd e.2 (Nat.pos_iff_ne_zero.mp time))
    have open'' : ((s.at t).holdTest y).reason = none := (holdTest_reason _ y).1.trans open'
    obtain ⟨hold, was, but⟩ := sameButHold_holdTest (s.at t) y
    obtain ⟨warned', grace', reason', confirm', new⟩ := tested.same
    have fields : (s.at t).holdTest y = { (s.at t).newSession c g with
        warned := warned', grace := grace', reason := reason', confirm := confirm', hold := hold, held := was } := by
      rw [but, new]
    rw [fields] at sess open''
    have cfg : (opened (s.at t) n c g).cfg = s.cfg := cfg
    generalize opened (s.at t) n c g = v at *
    have line : OpenedLine s v n := ⟨line.st, line.sign, line.inQ, line.inputHeld, line.paused, line.loader⟩
    by_cases accept : held.verdict = .accept
    · have applied := effect.trans (applyVerdict_accept sess accept)
      rw [cfg] at applied
      refine leads_of_take rfl applied ?_
      obtain ⟨from', -⟩ := confirmed_tested s.cfg held.granted open'' _ _ rfl rfl
      have stays := confirmed_open (cfg := s.cfg) (g := held.granted) open'' time
      have granted' := testAllowance_granted s.cfg (Session.confirmed s.cfg held.granted { (s.at t).newSession c g with
        warned := warned', grace := grace', reason := reason', confirm := confirm', hold := hold, held := was })
      generalize Session.testAllowance s.cfg (Session.confirmed s.cfg held.granted _) = m at *
      obtain ⟨z, settled, same⟩ := settle_sameButHold (applyStep_line v n m).1 (from'.endMark.trans rfl) (s.at t) false
      have opens := line.of_kept ((settle_kept (v.applyStep n m) (s.at t) false).trans (kept_applyStep v n m))
      have all := from'.sameButHold same
      have reason : z.reason = none := by obtain ⟨_, _, rfl⟩ := same; exact stays
      refine ⟨opens.st, opens.sign, opens.inputHeld, opens.paused, z, settled, all.user, all.serial, all.channel, all.units, all.residue, all.duration,
        all.confirm, all.echo, ?_⟩
      rw [if_pos accept]
      refine ⟨all.cls, all.table, ?_, all.remaining, all.provisional, all.late, reason⟩
      obtain ⟨_, _, rfl⟩ := same
      exact granted'
    · have applied := effect.trans (applyVerdict_other sess accept)
      refine leads_of_take rfl applied ?_
      have figures : ∀ z : Session, z = { (s.at t).newSession c g with
          warned := warned', grace := grace', reason := reason', confirm := confirm', hold := hold, held := was } →
          z.user = c.user ∧ z.serial = c.sessionSerial.getD 0 ∧ z.channel = g.channel ∧ z.units = fee ∧ z.residue = 0 ∧ z.duration = 0 ∧
            z.echo = s.cfg.classes[g.cls].echo := by
        rintro _ rfl
        exact ⟨rfl, rfl, rfl, rfl, rfl, rfl, rfl⟩
      replace figures := figures _ rfl
      generalize ({ (s.at t).newSession c g with
        warned := warned', grace := grace', reason := reason', confirm := confirm', hold := hold, held := was } : Session) = z at *
      have self : (v.setSess n (some { z with confirm := none })).sess[n] = some { z with confirm := none } := vector_set_get_self _ _ _
      have sess' := closeCause_sess_self n .notConfirmed (v.setSess n (some { z with confirm := none }))
      have asks := closeCause_asks_self n .notConfirmed (v.setSess n (some { z with confirm := none }))
      rw [self, if_pos ⟨rfl, _, rfl, open''⟩] at asks
      rw [self, Option.map_some, show closedBy .notConfirmed { z with confirm := none } =
        { z with confirm := none, reason := some .notConfirmed } from if_pos open''] at sess'
      have settled := settle_closing _ (s.at t) false n _ (Option.some_ne_none _) sess'
      have closes := settle_close _ (s.at t) false n (congrArg Asks.close asks)
      have opens := line.of_kept ((settle_kept ((v.setSess n (some { z with confirm := none })).closeCause n .notConfirmed) (s.at t) false).trans
        (kept_closeCause n _ _))
      obtain ⟨user, serial, channel, units, residue, duration, echo⟩ := figures
      refine ⟨opens.st, opens.sign, opens.inputHeld, opens.paused, _, settled, user, serial, channel, units, residue, duration, rfl, echo, ?_⟩
      rw [if_neg accept]
      exact ⟨rfl, closes⟩

end Sys2Proof.Proofs.Establishment
end

section
/-! Limits and holds (R70, R107, R109 to R111). An effect either leaves every record and output for the closing work's own test of the hold conditions, or
has been tested once itself under the conditions that then stand; `HoldsFollow` says what the event leaves in either case. -/

namespace Sys2Proof.Proofs.Limits

open Sys2Proof Sys2Proof.Machine Sys2Proof.Proofs.Lines Sys2Proof.Proofs.Closing Sys2Proof.Proofs.Disconnect Sys2Proof.Proofs.Texts
open Sys2Proof.Proofs.SessionMoves Sys2Proof.Proofs.Reports Sys2Proof.Proofs.ClosingTexts Sys2Proof.Proofs.Proving
open Sys2Proof.Proofs.Confirmations Sys2Proof.Proofs.Transmitters Sys2Proof.Proofs.Ticks Sys2Proof.Proofs.Establishment

/-! ## Limits -/

/-- The event of a limit that the session stands at. -/
theorem closeAt_leads {c : Instr} {s : State} {t : Moment} {n : LineNo} {x : Session} {limit : Session → Bool} {r : CloseReason}
    (h : exec c s = take s t fun s => s.closeAt n limit r) (hx : s.sess[n] = some x) (reached : limit x = true) (direct : r.direct = false)
    (open' : x.reason = none) :
    Leads c s fun u => u.sess[n] = some { x with reason := some r, confirm := none } ∧ u.asks[n].close = true ∧ u.kept = (s.at t).kept := by
  have hx' : (s.at t).sess[n] = some x := hx
  have effect : (s.at t).closeAt n limit r = (s.at t).closeCause n r := by
    unfold State.closeAt
    rw [hx']
    exact if_pos reached
  refine leads_of_take h effect ?_
  have sess := closeCause_sess_self n r (s.at t)
  have asks := closeCause_asks_self n r (s.at t)
  rw [hx', Option.map_some, show closedBy r x = { x with reason := some r, confirm := none } from if_pos open'] at sess
  rw [hx', if_pos ⟨direct, x, rfl, open'⟩] at asks
  exact ⟨settle_closing _ _ _ _ _ (Option.some_ne_none r) sess, settle_close _ _ _ _ (congrArg Asks.close asks),
    (settle_kept _ _ _).trans (kept_closeCause n r _)⟩

theorem kept_closeAt (s : State) (n : LineNo) (limit : Session → Bool) (r : CloseReason) : (s.closeAt n limit r).kept = s.kept := by
  unfold State.closeAt
  repeat' split
  · exact kept_closeCause n r s
  · rfl
  · rfl

/-! ## Effects as the hold test sees them -/

/-- A record without its confirmation. -/
def unconfirmed (x : Session) : Session := { x with confirm := none }

/-- Two states that agree in what the hold test and a waiting notice read: records but for their confirmations, outputs, states, configuration. -/
structure Agree (a b : State) : Prop where
  sess : ∀ n : LineNo, b.sess[n].map unconfirmed = a.sess[n].map unconfirmed
  path : ∀ n : LineNo, output b.path[n] = output a.path[n]
  sup : b.sup = a.sup
  cfg : b.cfg = a.cfg
  loader : b.loader = a.loader

theorem Agree.refl (a : State) : Agree a a := ⟨fun _ => rfl, fun _ => rfl, rfl, rfl, rfl⟩

theorem Agree.trans {a b c : State} (h : Agree a b) (k : Agree b c) : Agree a c :=
  ⟨fun n => (k.sess n).trans (h.sess n), fun n => (k.path n).trans (h.path n), k.sup.trans h.sup, k.cfg.trans h.cfg, k.loader.trans h.loader⟩

/-- The hold conditions of a state that has been tested under them. -/
structure TestedUnder (w v : State) : Prop where
  agree : Agree w.testHold v
  roster : v.roster = w.roster
  bus : v.bus = w.bus

/-- An effect that a hold test sees: none has been made, or one under the conditions that stand. -/
def Tests (s v : State) : Prop := Agree s v ∨ ∃ w, Agree s w ∧ TestedUnder w v

theorem Tests.after {s a v : State} (h : Agree s a) (k : Tests a v) : Tests s v := by
  rcases k with k | ⟨w, k, tested⟩
  · exact .inl (h.trans k)
  · exact .inr ⟨w, h.trans k, tested⟩

/-- What agrees in all, the conditions included, goes on as tested. -/
theorem Tests.then_same {s v u : State} (h : Tests s v) (same : Agree v u) (roster : u.roster = v.roster) (bus : u.bus = v.bus) : Tests s u := by
  rcases h with h | ⟨w, h, tested⟩
  · exact .inl (h.trans same)
  · exact .inr ⟨w, h, tested.agree.trans same, roster.trans tested.roster, bus.trans tested.bus⟩

theorem agree_clearChannelHold (s : State) (p : LineNo → Bool) : Agree s (s.clearChannelHold p) := by
  refine ⟨fun _ => rfl, fun n => ?_, rfl, rfl, rfl⟩
  show output (mapTable s.path fun n x => if p n then { x with channelHold := false } else x)[n] = _
  rw [mapTable_get]
  split <;> rfl

theorem agree_raise (s : State) (i : ReqId) : Agree s (s.raise i) := by
  unfold State.raise
  split <;> exact ⟨fun _ => rfl, fun _ => rfl, rfl, rfl, rfl⟩

/-- What of a state the confirmations and the offers leave alone. -/
def reading (u : State) : (Vector (Option Session) 16 × Vector Path 16) × (Vector LineRec 16 × Configuration) × (Loader × Vector RosterEntry 16) × BusState :=
  ((u.sess.map (Option.map unconfirmed), u.path), (u.sup, u.cfg), (u.loader, u.roster), u.bus)

theorem reading_raise (s : State) (i : ReqId) : reading (s.raise i) = reading s := by
  unfold State.raise
  split <;> rfl

theorem reading_raiseConfirm (n : LineNo) (s : State) : reading (s.raiseConfirm n) = reading s := by
  have updated (u : State) (c : Confirm) : reading (u.updSess n fun x => { x with confirm := some c }) = reading u := by
    unfold State.updSess
    split
    · rfl
    · next x hx =>
      have same : (u.sess.set n (some { x with confirm := some c })).map (Option.map unconfirmed) = u.sess.map (Option.map unconfirmed) :=
        vector_map_set_same _ _ _ _ (by rw [hx]; rfl)
      exact congrArg (fun z => ((z, u.path), (u.sup, u.cfg), (u.loader, u.roster), u.bus)) same
  unfold State.raiseConfirm
  dsimp only
  rw [reading_raise]
  exact (updated _ _ : reading _ = reading { s with requestSerial := s.requestSerial + 1 })

theorem agree_of_reading {s v : State} (h : reading v = reading s) : Agree s v ∧ v.roster = s.roster ∧ v.bus = s.bus := by
  unfold reading at h
  simp only [Prod.mk.injEq] at h
  obtain ⟨⟨sess, path⟩, ⟨sup, cfg⟩, ⟨loader, roster⟩, bus⟩ := h
  refine ⟨⟨fun n => ?_, fun n => by rw [path], sup, cfg, loader⟩, roster, bus⟩
  have := congrArg (fun x : Vector (Option Session) 16 => x[n]) sess
  simpa using this

/-- The reaction to a roster change tests the hold conditions once. -/
theorem tests_reactRoster (s : State) (before : Vector RosterEntry 16) (returned : Option Station) : Tests s (s.reactRoster before returned) := by
  refine .inr ⟨s.clearChannelHold (s.channelTurnedAbsent before), agree_clearChannelHold s _, ?_⟩
  unfold State.reactRoster
  dsimp only
  generalize s.clearChannelHold (s.channelTurnedAbsent before) = w
  obtain ⟨roster, bus, -⟩ := testHold_rest w
  have offers (u : State) : reading u.updateOffers = reading u := updateOffers_keeps reading_raise (fun _ _ => rfl) u
  have confirms (u : State) : reading u.raiseConfirms = reading u := inFreeOrder_keeps reading _ reading_raiseConfirm (fun _ _ => rfl) _ u
  have all : ∀ v, reading v = reading w.testHold → TestedUnder w v := fun v e => by
    obtain ⟨agree, roster', bus'⟩ := agree_of_reading e
    exact ⟨agree, roster'.trans roster, bus'.trans bus⟩
  split
  · exact all _ ((confirms _).trans (offers _))
  · exact all _ (offers _)

theorem tests_changeRoster (s : State) (i : Station) (f : RosterEntry → RosterEntry) (returned : Option Station) : Tests s (s.changeRoster i f returned) := by
  unfold State.changeRoster
  split
  · exact .inl (.refl s)
  · exact Tests.after (a := { s with roster := s.roster.set i (f s.roster[i]) }) ⟨fun _ => rfl, fun _ => rfl, rfl, rfl, rfl⟩ (tests_reactRoster _ _ _)

/-! ## What the event leaves of holds -/

/-- What the statement asks of a line's record and its path after the event. -/
def HoldsFollow (s u : State) : Prop :=
  ∀ (n : LineNo) (x : Session), s.sess[n] = some x → x.reason = none →
    ∃ y : Session, u.sess[n] = some y ∧ y.channel = x.channel ∧ (u.holdCondition x = true → y.held = (x.held || x.hold.isNone)) ∧
      (u.holdCondition x = true → y.hold = some (x.hold.getD 0)) ∧ (u.holdCondition x = false → y.hold = none ∧ y.held = x.held) ∧
      (u.holdCondition x = true → x.hold = none → s.st n = .session → s.path[n].slot = none → s.path[n].tx.isSome = true →
        TextAppendedOrWaits s.cfg ⟨[.message 13], none⟩ s.path[n] u.path[n]) ∧
      y.units = x.units ∧ y.residue = x.residue ∧ y.duration = x.duration ∧ y.remaining = x.remaining ∧ y.grace = x.grace ∧ y.idle = x.idle

/-- A notice of the hold test is placed on the line (R45, R109). -/
theorem placed_testHold {w : State} {n : LineNo} (enters : w.entersHold n = true) (st : w.st n = .session) :
    Placed w.cfg ⟨[.message 13], none⟩ n w.path[n].outQ w.path[n].tx w.testHold := by
  have mem : n ∈ allLines.filter w.entersHold := List.mem_filter.mpr ⟨mem_allLines n, enters⟩
  exact placed_notices (ms := fun _ => [13]) (m := 13) (s := { w with sess := mapTable w.sess fun _ x => x.map w.holdTest }) (allLines_nodup.filter _) mem rfl st

/-- The closing work leaves a text that is placed when the service begins. -/
theorem placed_service {cfg : Configuration} {t : Text} {n : LineNo} {q : Queue} {c : Option (BitVec 8)} {s : State} (h : Placed cfg t n q c (toServe s))
    (started : s.started = true) (sends : c.isSome = true) (before : State) (every : Bool) :
    ((s.settle before every).path[n].slot = none ∧ (s.settle before every).path[n].outQ = q.append (textChars cfg t)) ∨
      ((s.settle before every).path[n].slot = some t ∧ (s.settle before every).path[n].outQ = q) := by
  have service : Placed cfg t n q c (served s) :=
    serve_induction_ready (fun m u ready hu => hu.serveText sends ready) (fun m u hu => hu.startTx sends m) (fun _ _ hu => ⟨hu.config, hu.sends, hu.text⟩) _ h
  rw [settle_view (g := Path.slot) (fun _ _ => rfl) started, settle_view (g := Path.outQ) (fun _ _ => rfl) started]
  exact service.text

theorem placed_of_output {cfg : Configuration} {t : Text} {n : LineNo} {q : Queue} {c : Option (BitVec 8)} {s u : State} (h : Placed cfg t n q c s)
    (path : output u.path[n] = output s.path[n]) (same : u.cfg = s.cfg) : Placed cfg t n q c u := by
  refine ⟨same.trans h.config, (output_tx path).trans h.sends, ?_⟩
  rw [output_slot path, output_outQ path]
  exact h.text

theorem updateOffers_cfg (s : State) : s.updateOffers.cfg = s.cfg := updateOffers_keeps (g := State.cfg) raise_cfg (fun _ _ => rfl) s

/-- Two records of the same line that differ in their confirmations at most. -/
theorem Agree.record {a b : State} (h : Agree a b) {n : LineNo} {x : Session} (hx : a.sess[n] = some x) :
    ∃ y, b.sess[n] = some y ∧ ∃ c, y = { x with confirm := c } := by
  have same := h.sess n
  rw [hx] at same
  cases hy : b.sess[n] with
  | none => rw [hy] at same; cases same
  | some y =>
    rw [hy] at same
    have e : unconfirmed y = unconfirmed x := Option.some.inj same
    refine ⟨y, rfl, y.confirm, ?_⟩
    obtain ⟨⟩ := y
    obtain ⟨⟩ := x
    unfold unconfirmed at e
    cases e
    rfl

theorem entersHold_iff {s : State} {n : LineNo} {x : Session} (hx : s.sess[n] = some x) (open' : x.reason = none) :
    s.entersHold n = (decide (x.hold = none) && s.holdCondition x) := by
  unfold State.entersHold
  rw [hx]
  dsimp only
  rw [open']
  rfl

theorem holdCondition_channel (s : State) {x y : Session} (h : y.channel = x.channel) : s.holdCondition y = s.holdCondition x :=
  congrArg (fun i : Station => !s.roster[i].channel || decide (s.bus ≠ .active)) h

/-- The two outcomes of the test for a record with no close reason. -/
theorem holdTest_open (s : State) {x : Session} (open' : x.reason = none) :
    (s.holdCondition x = true → (s.holdTest x).held = (x.held || x.hold.isNone) ∧ (s.holdTest x).hold = some (x.hold.getD 0)) ∧
      (s.holdCondition x = false → (s.holdTest x).hold = none ∧ (s.holdTest x).held = x.held) := by
  unfold State.holdTest
  rw [if_pos open']
  refine ⟨fun condition => ?_, fun condition => ?_⟩
  · rw [if_pos condition]
    cases hold : x.hold with
    | none =>
      rw [if_pos rfl]
      exact ⟨(Bool.or_true _).symm, rfl⟩
    | some h =>
      rw [if_neg (Option.some_ne_none h)]
      exact ⟨(Bool.or_false _).symm, hold⟩
  · rw [if_neg (by rw [condition]; decide)]
    exact ⟨rfl, rfl⟩

/-- A record that has been tested is left by the same test. -/
theorem holdTest_twice {s v : State} (roster : v.roster = s.roster) (bus : v.bus = s.bus) {x y : Session} (open' : x.reason = none)
    (hy : ∃ c, y = { s.holdTest x with confirm := c }) : (v.holdTest y).hold = y.hold ∧ (v.holdTest y).held = y.held := by
  obtain ⟨c, rfl⟩ := hy
  rw [holdTest_congr roster bus]
  have channel : ({ s.holdTest x with confirm := c } : Session).channel = x.channel := (holdTest_cases s x).1
  have open'' : ({ s.holdTest x with confirm := c } : Session).reason = none := (holdTest_reason s x).1.trans open'
  have condition := holdCondition_channel s channel
  obtain ⟨on, off⟩ := holdTest_open s open'
  obtain ⟨on', off'⟩ := holdTest_open s open''
  cases h : s.holdCondition x with
  | true =>
    obtain ⟨held, hold⟩ := on h
    obtain ⟨held', hold'⟩ := on' (condition.trans h)
    have standing : ({ s.holdTest x with confirm := c } : Session).hold = some (x.hold.getD 0) := hold
    rw [standing] at held' hold'
    exact ⟨hold'.trans standing.symm, held'.trans (Bool.or_false _)⟩
  | false =>
    obtain ⟨hold, held⟩ := off h
    obtain ⟨hold', held'⟩ := off' (condition.trans h)
    exact ⟨hold'.trans hold.symm, held'⟩

theorem endedAt_fields (drained : Bool) (st : LineState) (x : Session) :
    (endedAt drained st x).metered = x.metered ∧ (endedAt drained st x).held = x.held ∧ (endedAt drained st x).hold = x.hold := by
  unfold endedAt closedBy
  repeat' split
  all_goals exact ⟨rfl, rfl, rfl⟩

/-- An event whose effect a hold test sees leaves every hold as the conditions call for. -/
theorem holdsFollow_settle {s v : State} (running : s.loader = .running) (h : Tests s v) (before : State) (every : Bool) :
    HoldsFollow s (v.settle before every) := by
  intro n x hx open'
  have kept := settle_kept v before every
  have conditions : ∀ z, (v.settle before every).holdCondition z = v.holdCondition z :=
    holdCondition_congr (eq_of_kept_roster kept) (eq_of_kept_bus kept)
  rcases h with agree | ⟨w, agree, tested⟩
  · have started : v.started = true := decide_eq_true (agree.loader.trans running)
    obtain ⟨z, hz, c, rfl⟩ := agree.record hx
    have report := (settle_report started before every n).1
    rw [hz, Option.map_some] at report
    obtain ⟨metered, held, hold⟩ := endedAt_fields (served v).path[n].drained (v.st n) (v.holdTest { x with confirm := c })
    have same : (endedAt (served v).path[n].drained (v.st n) (v.holdTest { x with confirm := c })).metered = ({ x with confirm := c } : Session).metered :=
      metered.trans (holdTest_metered v { x with confirm := c })
    clear metered
    generalize endedAt (served v).path[n].drained (v.st n) (v.holdTest { x with confirm := c }) = y at *
    obtain ⟨on, off⟩ := holdTest_open v (x := { x with confirm := c }) open'
    rw [conditions]
    refine ⟨_, report, (congrArg Session.channel same :), fun e => held.trans (on e).1, fun e => hold.trans (on e).2,
      fun e => ⟨hold.trans (off e).1, held.trans (off e).2⟩, fun e none' st slot sends => ?_, (congrArg Session.units same :),
      (congrArg Session.residue same :), (congrArg Session.duration same :), (congrArg Session.remaining same :), (congrArg Session.grace same :),
      (congrArg Session.idle same :)⟩
    have enters : v.entersHold n = true := by
      rw [entersHold_iff hz open']
      exact Bool.and_eq_true_iff.mpr ⟨decide_eq_true none', e⟩
    have vst : v.st n = .session := by unfold State.st; rw [agree.sup]; exact st
    have placed := placed_testHold enters vst
    have service : Placed v.cfg ⟨[.message 13], none⟩ n v.path[n].outQ v.path[n].tx (toServe v) :=
      placed.of_same (by unfold toServe; rw [updateOffers_path]) (updateOffers_cfg _)
    have text := placed_service service started (by rw [output_tx (agree.path n)]; exact sends) before every
    rw [agree.cfg, output_outQ (agree.path n)] at text
    exact text
  · obtain ⟨z, hz, c, rfl⟩ := agree.record hx
    have wTested : w.testHold.sess[n] = some (w.holdTest { x with confirm := c }) := by rw [testHold_sess, hz]; rfl
    obtain ⟨z, hz', c', e⟩ := tested.agree.record wTested
    obtain ⟨hold, held⟩ := holdTest_twice tested.roster tested.bus (x := { x with confirm := c }) (y := z) open' ⟨c', e⟩
    have zFields : z.hold = (w.holdTest { x with confirm := c }).hold ∧ z.held = (w.holdTest { x with confirm := c }).held ∧
        z.metered = (w.holdTest { x with confirm := c }).metered ∧ z.reason = (w.holdTest { x with confirm := c }).reason := by
      rw [e]
      exact ⟨rfl, rfl, rfl, rfl⟩
    obtain ⟨zHold, zHeld, zMetered, zReason⟩ := zFields
    have loader : w.testHold.loader = w.loader := eq_of_kept_loader (kept_testHold w)
    have started : v.started = true := decide_eq_true (tested.agree.loader.trans (loader.trans (agree.loader.trans running)))
    have report := (settle_report started before every n).1
    rw [hz', Option.map_some] at report
    obtain ⟨metered, held', hold'⟩ := endedAt_fields (served v).path[n].drained (v.st n) (v.holdTest z)
    have same : (endedAt (served v).path[n].drained (v.st n) (v.holdTest z)).metered = ({ x with confirm := c } : Session).metered :=
      (metered.trans (holdTest_metered v z)).trans (zMetered.trans (holdTest_metered w { x with confirm := c }))
    clear metered
    generalize endedAt (served v).path[n].drained (v.st n) (v.holdTest z) = y at *
    generalize v.holdTest z = retested at *
    obtain ⟨on, off⟩ := holdTest_open w (x := { x with confirm := c }) open'
    rw [conditions, holdCondition_congr tested.roster tested.bus]
    have finalHold := hold'.trans (hold.trans zHold)
    have finalHeld := held'.trans (held.trans zHeld)
    refine ⟨_, report, (congrArg Session.channel same :), fun e => finalHeld.trans (on e).1, fun e => finalHold.trans (on e).2,
      fun e => ⟨finalHold.trans (off e).1, finalHeld.trans (off e).2⟩, fun condition none' st slot sends => ?_, (congrArg Session.units same :),
      (congrArg Session.residue same :), (congrArg Session.duration same :), (congrArg Session.remaining same :), (congrArg Session.grace same :),
      (congrArg Session.idle same :)⟩
    have enters : w.entersHold n = true := by
      rw [entersHold_iff hz open']
      exact Bool.and_eq_true_iff.mpr ⟨decide_eq_true none', condition⟩
    have wst : w.st n = .session := by unfold State.st; rw [agree.sup]; exact st
    have placed := placed_of_output (placed_testHold enters wst) (tested.agree.path n) tested.agree.cfg
    have still : v.entersHold n = false := by
      have opens : z.reason = none := zReason.trans ((holdTest_reason w _).1.trans open')
      rw [entersHold_iff hz' opens, zHold, (on condition).2]
      rfl
    have text := (placed.settle (by rw [output_tx (agree.path n)]; exact sends) still before every).2
    rw [show w.cfg = s.cfg from agree.cfg, output_outQ (agree.path n)] at text
    exact text

/-! ## The six effects -/

theorem tests_hear (s : State) (i : Station) : Tests s (s.hear i) := tests_changeRoster s i _ none

theorem agree_purge (s : State) (src : Station) : Agree s (s.purge src) := by
  unfold State.purge
  dsimp only
  exact Agree.trans (b := { s with presence := s.presence.filter fun e => e.station ≠ src }) ⟨fun _ => rfl, fun _ => rfl, rfl, rfl, rfl⟩
    (agree_clearChannelHold _ _)

theorem tests_takeBeacon (s : State) (src : Station) (p : BeaconPayload) : Tests s (s.takeBeacon src p) := by
  unfold State.takeBeacon
  split
  · have heard := Tests.after (s := s) (a := { s with echo := s.canEcho }) ⟨fun _ => rfl, fun _ => rfl, rfl, rfl, rfl⟩
      (tests_changeRoster { s with echo := s.canEcho } src (fun _ => beaconEntry p) (if s.roster[src].returns p then some src else none))
    dsimp only
    split
    · exact heard.then_same (agree_purge _ src) rfl rfl
    · exact heard
  · exact .inl (.refl s)

theorem tests_frameOnBus (s : State) (src : Station) (dest : BitVec 5) : Tests s (s.frameOnBus src dest) := by
  have heard (b : Bool) : Tests s (State.hear { s with echo := b } src) :=
    Tests.after (a := { s with echo := b }) ⟨fun _ => rfl, fun _ => rfl, rfl, rfl, rfl⟩ (tests_hear _ src)
  unfold State.frameOnBus State.takeOwn State.takeAll
  repeat' split
  · exact heard true
  · exact .inl ⟨fun _ => rfl, fun _ => rfl, rfl, rfl, rfl⟩
  · exact .inl (.refl s)
  · exact heard _
  · exact .inl (.refl s)
  · exact heard false
  · exact .inl (.refl s)

theorem tests_beaconPeriod (s : State) : Tests s s.beaconPeriod := by
  unfold State.beaconPeriod
  dsimp only
  have reacted := Tests.after (s := s) (a := { s with beaconTimer := some (s.now + 10000), roster := agedRoster s.station s.roster })
    ⟨fun _ => rfl, fun _ => rfl, rfl, rfl, rfl⟩ (tests_reactRoster _ s.roster none)
  generalize State.reactRoster _ _ _ = v at *
  exact reacted.then_same (agree_raise v .beacon) (raise_roster v .beacon) (raise_bus v .beacon)

theorem agree_landed (s : State) (i : ReqId) : Agree s (s.landed i) := by
  unfold State.landed
  split
  · next n =>
    refine ⟨fun _ => rfl, fun m => ?_, rfl, rfl, rfl⟩
    show output (s.path.set n { s.path[n] with inFlight := none })[m] = _
    rw [vector_set_get]
    split
    · next e => subst e; rfl
    · rfl
  · exact .refl s

theorem agree_ownerDiscards (s : State) (w : WireFrame) : Agree s (s.ownerDiscards w) := by
  unfold State.ownerDiscards
  repeat' split
  all_goals exact ⟨fun _ => rfl, fun _ => rfl, rfl, rfl, rfl⟩

theorem tests_struck (s : State) (w : WireFrame) : Tests s (s.struck w) := by
  unfold State.struck
  dsimp only
  split
  · refine .inl (Agree.trans (b := (s.count .strikes).landed w.req) ?_ ⟨fun _ => rfl, fun _ => rfl, rfl, rfl, rfl⟩)
    exact Agree.trans (b := s.count .strikes) ⟨fun _ => rfl, fun _ => rfl, rfl, rfl, rfl⟩ (agree_landed _ _)
  · unfold State.discard
    dsimp only
    have landed : Agree s ((s.count .strikes).landed w.req) :=
      Agree.trans (b := s.count .strikes) ⟨fun _ => rfl, fun _ => rfl, rfl, rfl, rfl⟩ (agree_landed _ _)
    generalize (s.count .strikes).landed w.req = a at *
    have dropped : Agree a (State.dropReq { a.count .framesDiscarded with wire := none } w.req) := ⟨fun _ => rfl, fun _ => rfl, rfl, rfl, rfl⟩
    have owned := landed.trans (dropped.trans (agree_ownerDiscards _ w))
    generalize (State.dropReq { a.count .framesDiscarded with wire := none } w.req).ownerDiscards w = b at *
    refine Tests.after owned ?_
    unfold State.discardTo
    split
    · exact tests_changeRoster b _ _ _
    · exact .inl (.refl b)
    · split
      · exact .inl ⟨fun _ => rfl, fun _ => rfl, rfl, rfl, rfl⟩
      · exact .inl ⟨fun _ => rfl, fun _ => rfl, rfl, rfl, rfl⟩

/-- Each of the six commands has an effect that a hold test sees. -/
theorem tests_commands {t : Moment} {src : Station} {p : BeaconPayload} {dest : BitVec 5} {s : State} {c : Instr}
    (h : c ∈ [Instr.beacon t src p, .frameOnBus t src dest, .beaconPeriodExpiry t, .strike t, .numberClash t, .joiningBeaconEchoed t]) :
    ∃ effect : State → State, exec c s = take s t effect ∧ Tests s (effect (s.at t)) := by
  have moved {v : State} (k : Tests (s.at t) v) : Tests s v := Tests.after (a := s.at t) ⟨fun _ => rfl, fun _ => rfl, rfl, rfl, rfl⟩ k
  simp only [List.mem_cons, List.not_mem_nil, or_false] at h
  rcases h with rfl | rfl | rfl | rfl | rfl | rfl
  · exact ⟨_, rfl, moved (tests_takeBeacon _ src p)⟩
  · exact ⟨_, rfl, moved (tests_frameOnBus _ src dest)⟩
  · refine ⟨_, rfl, moved ?_⟩
    split
    · exact tests_beaconPeriod _
    · exact .inl (.refl _)
  · refine ⟨_, rfl, moved ?_⟩
    split
    · exact tests_struck _ _
    · exact .inl (.refl _)
  · refine ⟨_, rfl, moved ?_⟩
    split
    · unfold State.clash
      dsimp only
      split <;> exact .inl ⟨fun _ => rfl, fun _ => rfl, rfl, rfl, rfl⟩
    · exact .inl (.refl _)
  · refine ⟨_, rfl, moved ?_⟩
    split
    · split
      · split
        · unfold State.joined
          refine .inl (Agree.trans ?_ (agree_raise _ _))
          exact ⟨fun _ => rfl, fun _ => rfl, rfl, rfl, rfl⟩
        · exact .inl (.refl _)
      · exact .inl (.refl _)
    · exact .inl (.refl _)

/-- Settles O32: a limit is a close cause, `exec_holdOk` keeps the holds, and each of the six commands has its test seen. -/
theorem limitsCloseTheSession : Obligations.LimitsCloseTheSession := by
  refine ⟨fun t n s x hx => ⟨fun c r reached open' => ?_, fun closing => ?_⟩, fun c s u hs h => exec_holdOk hs h, fun t src p dest s _ running c hc => ?_⟩
  · rcases reached with ⟨rfl, idle, rfl⟩ | ⟨rfl, grace, rfl⟩ | ⟨rfl, ⟨h, hold, lost⟩, rfl⟩
    · exact closeAt_leads rfl hx (decide_eq_true idle) rfl open'
    · exact closeAt_leads rfl hx (decide_eq_true grace) rfl open'
    · refine closeAt_leads rfl hx ?_ rfl open'
      have hold : x.hold = some h := hold
      unfold holdLimit
      rw [hold]
      exact decide_eq_true lost
  · exact ⟨gives_of_event rfl (kept_closeAt _ _ _ _), gives_of_event rfl (kept_closeAt _ _ _ _), gives_of_event rfl (kept_closeAt _ _ _ _)⟩
  · obtain ⟨effect, run, tests⟩ := tests_commands (s := s) hc
    refine leads_of_take run rfl ?_
    have follow := holdsFollow_settle running tests (s.at t) false
    generalize (effect (s.at t)).settle (s.at t) false = u at *
    intro n x hx open'
    obtain ⟨y, sess, channel, held, hold, ended, text, rest⟩ := follow n x hx open'
    have condition := holdCondition_iff u x
    intro on
    have on_iff : u.holdCondition x = true ↔ on := condition
    refine ⟨y, sess, channel, fun e => held (on_iff.mpr e), fun e => hold (on_iff.mpr e), fun e => ended ?_, fun e => text (on_iff.mpr e), rest⟩
    exact Bool.eq_false_iff.mpr fun k => e (on_iff.mp k)

end Sys2Proof.Proofs.Limits
end

section
/-! The echo of a DATA-IN frame (R36, R37, R39): its characters leave the queue, its flags and the mark follow, XON may come to be owed. -/

namespace Sys2Proof.Proofs.DataInEchoes

open Sys2Proof Sys2Proof.Machine Sys2Proof.Proofs.Lines Sys2Proof.Proofs.Closing Sys2Proof.Proofs.Frames Sys2Proof.Proofs.Disconnect
open Sys2Proof.Proofs.HangUp Sys2Proof.Proofs.Moves

/-- The path of a line whose inbound queue has just lost characters (R36). -/
def lowPath (g : Group) (p : Path) : Path :=
  if (g.xonXoff && p.inputHeld && decide (p.inQ.chars.length ≤ 8 * g.inAllowance)) = true then Path.owe { p with inputHeld := false } .xon else p

theorem inputRemoved_eq (s : State) (n : LineNo) : s.inputRemoved n = s.setPath n (lowPath (s.group n) s.path[n]) := by
  unfold State.inputRemoved lowPath
  dsimp only
  split
  · rfl
  · exact congrArg (fun v => { s with path := v }) (Vector.set_getElem_self _).symm

theorem remove_chars (q : Queue) (k : Nat) : (q.remove k).chars = q.chars.drop k := by
  unfold Queue.remove
  split
  · next all => exact (List.drop_eq_nil_iff.mpr all).symm
  · rfl

/-- XON becomes owed, or nothing where XOFF was (log entry 41). -/
theorem owe_xon_eq (p : Path) : Path.owe p .xon = { p with owed := if p.owed = some .xoff then none else some .xon } := by
  unfold Path.owe
  split
  · next none => rw [if_neg (by rw [none]; exact Option.some_ne_none _ ∘ Eq.symm)]
  · next d owed =>
    cases d with
    | xon => rw [if_pos rfl, owed, if_neg (by decide), ← owed]
    | xoff => rw [if_neg (by decide), if_pos owed]

/-- The path of a line at the echo of its DATA-IN frame, as R36, R37 and R39 spell it. -/
def echoedPath (g : Group) (p : Path) (f : InFlight) (due : Moment) : Path :=
  let q := p.inQ.remove f.k
  let attention := p.attention && (!f.attention || f.attentionAgain)
  let brk := p.brk && (!f.brk || f.brkAgain)
  let low : Bool := g.xonXoff && p.inputHeld && decide (p.inQ.chars.length - f.k ≤ 8 * g.inAllowance)
  { p with
    inQ := q
    inFlight := none
    fwdDue := false
    fwdTimer := if q.chars = [] then none else some due
    attention := attention
    brk := brk
    mark := if attention || brk then p.mark.map (· - f.k) else none
    inputHeld := p.inputHeld && !low
    owed := if low then (if p.owed = some .xoff then none else some .xon) else p.owed }

theorem lowPath_echoed (g : Group) (p : Path) (f : InFlight) (due : Moment) :
    lowPath g { p.echoed f due with inQ := p.inQ.remove f.k } = echoedPath g p f due := by
  have length : (p.inQ.remove f.k).chars.length = p.inQ.chars.length - f.k := by rw [remove_chars, List.length_drop]
  unfold lowPath echoedPath
  dsimp only [Path.echoed]
  rw [length]
  by_cases low : (g.xonXoff && p.inputHeld && decide (p.inQ.chars.length - f.k ≤ 8 * g.inAllowance)) = true
  · rw [if_pos low, owe_xon_eq]
    simp only [low, Bool.not_true, Bool.and_false, if_true]
  · rw [if_neg low]
    simp only [low, Bool.not_false, Bool.and_true, Bool.false_eq_true, if_false]

theorem echoedPath_chars (g : Group) (p : Path) (f : InFlight) (due : Moment) : (echoedPath g p f due).inQ.chars = p.inQ.chars.drop f.k :=
  remove_chars p.inQ f.k

/-- What the echo of a frame in flight does, apart from the blocks it gives back. -/
theorem dataInEchoed_of_flight {s : State} {n : LineNo} {f : InFlight} (h : s.path[n].inFlight = some f) :
    ∃ k, s.dataInEchoed n =
      { State.setPath { s with rotation := n } n (echoedPath (s.group n) s.path[n] f (s.now + s.cfg.forwardingTimer)) with free := k } := by
  refine ⟨s.free + s.path[n].inQ.blocks - (s.path[n].inQ.remove f.k).blocks, ?_⟩
  unfold State.dataInEchoed
  rw [h]
  dsimp only
  rw [inputRemoved_eq]
  have path : ((State.updPath { s with rotation := n } n fun p => p.echoed f (s.now + s.cfg.forwardingTimer)).setIn n
      (s.path[n].inQ.remove f.k)).path[n] = { s.path[n].echoed f (s.now + s.cfg.forwardingTimer) with inQ := s.path[n].inQ.remove f.k } := by
    refine (vector_set_get_self _ _ _).trans ?_
    exact congrArg (fun p : Path => { p with inQ := s.path[n].inQ.remove f.k }) (vector_set_get_self _ _ _)
  rw [path]
  refine (congrArg (State.setPath _ n) (lowPath_echoed (s.group n) s.path[n] f (s.now + s.cfg.forwardingTimer))).trans ?_
  have blocks : (State.updPath { s with rotation := n } n fun p => p.echoed f (s.now + s.cfg.forwardingTimer)).path[n].inQ.blocks =
      s.path[n].inQ.blocks := (congrArg (fun p : Path => p.inQ.blocks) (vector_set_get_self s.path n _)).trans rfl
  unfold State.setIn
  dsimp only
  rw [blocks]
  simp only [State.setPath, State.updPath, Vector.set_set]

theorem dataInEchoed_of_none {s : State} {n : LineNo} (h : s.path[n].inFlight = none) : s.dataInEchoed n = { s with rotation := n } := by
  unfold State.dataInEchoed
  rw [h]

/-- The command of the echo of the DATA-IN frame on the wire. -/
theorem exec_dataInEchoed {t : Moment} {s v : State} {w : WireFrame} {n : LineNo} {a b : Bool} {cs : List Char7} (hw : s.wire = some w)
    (body : w.body = .dataIn n a b cs) (e : ((s.at t).delivered w).dataInEchoed n = v) : exec (.dataInEchoed t) s = .next (v.settle (s.at t) false) := by
  refine congrArg (fun u : State => Host.Outcome.next (u.settle (s.at t) false)) ?_
  have hw : (s.at t).wire = some w := hw
  dsimp only
  rw [hw]
  simp only [body]
  exact e

/-- Settles O43: the DATA-IN requests follow the closing work of every event, and the echo sets the path of its line. -/
theorem dataInEchoRemovesItsCharacters : Obligations.DataInEchoRemovesItsCharacters := by
  refine ⟨fun c s u hs h => ⟨exec_dataInOk hs h, fun running n was due => exec_newlyDue h running n was due⟩, ?_⟩
  intro t s w n a b cs hw body base
  refine ⟨fun f flight => ?_, fun none => ?_⟩
  · intro p q attention brk low
    obtain ⟨k, e⟩ := dataInEchoed_of_flight (s := (s.at t).delivered w) (n := n) (f := f) flight
    have ran := exec_dataInEchoed (t := t) hw body rfl
    have kept := (settle_kept (((s.at t).delivered w).dataInEchoed n) (s.at t) false).trans (congrArg State.kept e)
    refine ⟨⟨_, ran, kept.trans rfl⟩, _, ran, ?_, ?_⟩
    · refine (congrArg (fun p : Path => p.inQ.chars) (eq_of_kept_inward kept n)).trans ?_
      exact (congrArg (fun p : Path => p.inQ.chars) (vector_set_get_self _ _ _)).trans (echoedPath_chars _ _ _ _)
    · rw [settle_strikes, e]
      exact delivered_strikes (s.at t) w
  · have ran := exec_dataInEchoed hw body (dataInEchoed_of_none (s := (s.at t).delivered w) none)
    exact ⟨⟨_, ran, (settle_kept _ _ _).trans rfl⟩, _, ran, (settle_strikes _ _ _ _).trans (delivered_strikes (s.at t) w)⟩

end Sys2Proof.Proofs.DataInEchoes
end

section
/-! The echoes of the own frames that are neither DATA-IN, CHARGE nor LINE-STATE (R65, R79, R81, R151, R153, R158, R163, R164), and the counters of an
event at which the closing work finds nothing to do. -/

namespace Sys2Proof.Proofs.OwnEchoes

open Sys2Proof Sys2Proof.Machine Sys2Proof.Proofs.Lines Sys2Proof.Proofs.Closing Sys2Proof.Proofs.Frames Sys2Proof.Proofs.Disconnect
open Sys2Proof.Proofs.HangUp Sys2Proof.Proofs.Moves Sys2Proof.Proofs.Texts Sys2Proof.Proofs.SignOnTimers

/-! ## The closing work of a part at rest -/

/-- The signals of a line are read from what the closing work leaves alone. -/
theorem kept_signals (s : State) (n : LineNo) : s.kept.signals n = s.signals n := by
  have full : s.kept.condF = s.condF := by
    unfold State.condF State.freeSlots
    show decide (chargeSlots - (s.queue.map Queued.unoffer).length ≤ _) = _
    rw [List.length_map]
    rfl
  have busy : s.kept.madeBusy n = s.madeBusy n := by
    unfold State.madeBusy
    rw [full]
    rfl
  have mb : s.kept.mb n = s.mb n := by
    unfold State.mb
    rw [busy]
    rfl
  unfold State.signals
  rw [mb]
  rfl

theorem signals_of_kept {u v : State} (h : u.kept = v.kept) (n : LineNo) : u.signals n = v.signals n := by
  rw [← kept_signals u, h, kept_signals]

theorem kept_wantsDataIn (s : State) (n : LineNo) : s.kept.wantsDataIn n = s.wantsDataIn n := by
  have path : s.kept.path[n] = s.path[n].inward := Vector.getElem_map _ _
  have sess : s.kept.sess[n] = s.sess[n].map Session.metered := Vector.getElem_map _ _
  have blocked : s.kept.forwardingBlocked n = s.forwardingBlocked n := by
    unfold State.forwardingBlocked
    rw [sess, path]
    cases s.sess[n] <;> rfl
  unfold State.wantsDataIn
  rw [blocked, path]
  rfl

theorem wantsDataIn_of_kept {u v : State} (h : u.kept = v.kept) (n : LineNo) : u.wantsDataIn n = v.wantsDataIn n := by
  rw [← kept_wantsDataIn u, h, kept_wantsDataIn]

/-- Where the offers are as many as may stand, they stay as they are. -/
theorem updateOffers_of_ok {s : State} (h : OffersOk s) (running : s.loader = .running) : s.updateOffers = s := by
  have offers := h running
  unfold State.updateOffers
  by_cases present : s.accountantPresent = true
  · rw [if_pos ((accountantPresent_iff s).mp present |>.imp fun i h => (accountant_iff s i).mp h)] at offers
    have one : s.offerOne = s := by
      unfold State.offerOne
      split
      · next r some =>
        split
        · next few =>
          rcases offers with all | four
          · have mem := List.mem_of_find?_eq_some some
            have := List.find?_some some
            rw [all r mem] at this
            cases this
          · exact absurd few (Nat.not_lt.mpr four)
        · rfl
      · rfl
    rw [if_pos present, one, one, one, one]
  · rw [if_neg fun h => present ((accountantPresent_iff s).mpr (h.imp fun i h => (accountant_iff s i).mpr h))] at offers
    rw [if_neg present]
    refine congrArg (fun q => { s with queue := q }) ((List.map_congr_left fun r hr => ?_).trans (List.map_id _))
    obtain ⟨offered, wait⟩ := offers r hr
    unfold Queued.unoffer
    rw [← offered, ← wait]
    rfl

/-- At rest the closing work gets to its drained reports with the session records tested, and nothing else done. -/
theorem flowed_of_rest {s : State} (rest : AtRest s) (running : s.loader = .running) :
    flowed s = { s with sess := mapTable s.sess fun _ x => x.map s.holdTest } := by
  obtain ⟨output, offers, flows⟩ := rest
  have tested := testHold_of_none fun n => (output n).1
  have served : served s = { s with sess := mapTable s.sess fun _ x => x.map s.holdTest } := by
    unfold Closing.served
    rw [tested, updateOffers_of_ok (s := { s with sess := mapTable s.sess fun _ x => x.map s.holdTest }) offers running]
    exact serve_of_rest (s := { s with sess := mapTable s.sess fun _ x => x.map s.holdTest }) (fun n => (output n).2.1) (fun n => (output n).2.2) _
  have none (n : LineNo) : State.updateFlow n { s with sess := mapTable s.sess fun _ x => x.map s.holdTest } =
      { s with sess := mapTable s.sess fun _ x => x.map s.holdTest } := if_pos (flows n)
  unfold flowed
  rw [served]
  exact eachLine_induction (fun u => u = { s with sess := mapTable s.sess fun _ x => x.map s.holdTest }) _
    (fun n u h => by rw [h]; exact none n) _ _ rfl

/-- A state whose counters are those of `v`, which it agrees with in all that the closing work leaves alone. -/
structure SameCount (v u : State) : Prop where
  kept : u.kept = v.kept
  counters : u.counters = v.counters

theorem closeCause_counters (s : State) (n : LineNo) (r : CloseReason) : (s.closeCause n r).counters = s.counters := by
  unfold State.closeCause
  repeat' split
  all_goals rfl

theorem SameCount.raiseDataIn {before v u : State} (wants : ∀ n, before.wantsDataIn n = v.wantsDataIn n) (h : SameCount v u) (n : LineNo) :
    SameCount v (State.raiseDataIn before n u) := by
  have same : u.wantsDataIn n = before.wantsDataIn n := (wantsDataIn_of_kept h.kept n).trans (wants n).symm
  unfold State.raiseDataIn
  split
  · next due =>
    simp only [Bool.and_eq_true, Bool.or_eq_true, Bool.not_eq_true'] at due
    obtain ⟨wanted, new | ⟨idle, -⟩⟩ := due
    · rw [same, new] at wanted
      cases wanted
    · refine ⟨(kept_raise u _).trans h.kept, ?_⟩
      unfold State.raise
      rw [if_neg (Bool.eq_false_iff.mp idle)]
      exact h.counters
  · exact h

theorem SameCount.raiseLineState {before v u : State} (signals : ∀ n, before.signals n = v.signals n) (h : SameCount v u) (n : LineNo) :
    SameCount v (State.raiseLineState before false n u) := by
  have same : before.signals n = u.signals n := (signals n).trans (signals_of_kept h.kept n).symm
  unfold State.raiseLineState
  split
  · rw [if_neg (by rw [same]; simp)]
    exact h
  · exact h

/-- At rest the closing work counts nothing, at an event that makes no line want a DATA-IN frame and changes no signal. -/
theorem settle_counters_of_rest {v before : State} (rest : v.loader = .running → AtRest v) (wants : ∀ n, before.wantsDataIn n = v.wantsDataIn n)
    (signals : ∀ n, before.signals n = v.signals n) : (v.settle before false).counters = v.counters := by
  cases started : v.started with
  | false => rw [Commands.settle_of_not_started before false started]
  | true =>
    have running : v.loader = .running := of_decide_eq_true started
    have flow : SameCount v (flowed v) := by
      refine ⟨?_, by rw [flowed_of_rest (rest running) running]⟩
      refine eachLine_induction (fun u => u.kept = v.kept) _ (fun n u h => (kept_updateFlow n u).trans h) _ _ ?_
      exact (kept_serve _ _).trans ((kept_updateOffers _).trans (kept_testHold v))
    rw [settle_of_started started]
    refine SameCount.counters (v := v) ?_
    refine eachLine_induction (SameCount v) _ (fun n u h => h.raiseLineState signals n) _ _ ?_
    refine eachLine_induction (SameCount v) _ (fun n u h => h.raiseDataIn wants n) _ _ ?_
    refine eachLine_induction (SameCount v) _ (fun n u h => ⟨(kept_reportDrained n u).trans h.kept, ?_⟩) _ _ flow
    exact (reportDrained_keeps (g := State.counters) (fun s n r => closeCause_counters s n r) (fun _ _ => rfl) n u).trans h.counters

/-! ## The echoes -/

/-- What the echo of every own frame does after its own effect: the strikes of the request and the discard streak. -/
theorem returned_settle {s v : State} {w : WireFrame} (strikes : (v.req w.req).strikes = ((s.delivered w).req w.req).strikes)
    (streak : v.streak = (s.delivered w).streak) (before : State) (every : Bool) :
    ((v.settle before every).req w.req).strikes = 0 ∧ (v.settle before every).streak = if w.dest = .all then 0 else s.streak :=
  ⟨(settle_strikes v before every w.req).trans (strikes.trans (delivered_strikes s w)), (settle_streak v before every).trans streak⟩

theorem returned_of_reqs {s v : State} {w : WireFrame} (reqs : v.reqs = (s.delivered w).reqs) (streak : v.streak = (s.delivered w).streak)
    (before : State) (every : Bool) :
    ((v.settle before every).req w.req).strikes = 0 ∧ (v.settle before every).streak = if w.dest = .all then 0 else s.streak :=
  returned_settle (congrArg (fun q => (reqOf q w.req).strikes) reqs) streak before every

theorem raise_req_strikes (s : State) (i j : ReqId) : ((s.raise i).req j).strikes = (s.req j).strikes := by
  rw [req_raise]
  split
  · next same => rw [same]
  · rfl

theorem decideClaim_returned (s : State) (n : LineNo) (c : Context) (i : ReqId) :
    ((s.decideClaim n c).req i).strikes = (s.req i).strikes ∧ (s.decideClaim n c).streak = s.streak := by
  unfold State.decideClaim
  split
  · exact ⟨enterRefusing_strikes _ _ _ _, enterRefusing_streak _ _ _⟩
  · exact ⟨rfl, rfl⟩

theorem newClaimEchoed_returned (s : State) (n : LineNo) (user : Nat) (serial : BitVec 16) (i : ReqId) :
    ((s.newClaimEchoed n user serial).req i).strikes = (s.req i).strikes ∧ (s.newClaimEchoed n user serial).streak = s.streak := by
  unfold State.newClaimEchoed
  split
  · split
    · exact decideClaim_returned _ _ _ _
    · exact ⟨rfl, rfl⟩
  · exact ⟨rfl, rfl⟩

/-- A claim whose context has gone on decides nothing (R65). -/
theorem newClaimEchoed_of_gone {s : State} {n : LineNo} {serial : BitVec 16} (user : Nat)
    (gone : ∀ c ∈ s.sign[n], c.phase ≠ .claiming ∨ c.sessionSerial ≠ some serial) :
    s.newClaimEchoed n user serial = s.setClaims n { s.claims[n] with own := some ⟨user, serial⟩ } := by
  unfold State.newClaimEchoed
  split
  · next c hc =>
    refine if_neg fun h => ?_
    exact (gone c hc).elim (fun ne => ne h.1) fun ne => ne h.2
  · rfl

section
variable {s : State} {w : WireFrame}

/-- The effect of the echo of a RELEASE on the wire. -/
theorem releaseEchoed_eq {n : LineNo} {r : ReleaseSlot} (wire : s.wire = some w) (body : w.body = .release n r) :
    (match s.wire with
      | some w =>
        match w.body with
        | .release n r => (s.delivered w).endRelease n r.serial
        | _ => s
      | none => s) = (s.delivered w).endRelease n r.serial := by
  rw [wire]; dsimp only; rw [body]

theorem claimEchoed_eq {n : LineNo} {kind : ClaimKind} {prov : Bool} {user : Nat} {serial : BitVec 16} {ch : Station} (wire : s.wire = some w)
    (body : w.body = .claim n kind prov user serial ch) :
    (match s.wire with
      | some w =>
        match w.body with
        | .claim n kind _ user serial _ => if kind = .new then (s.delivered w).newClaimEchoed n user serial else s.delivered w
        | _ => s
      | none => s) = if kind = .new then (s.delivered w).newClaimEchoed n user serial else s.delivered w := by
  rw [wire]; dsimp only; rw [body]

theorem joiningBeaconEchoed_eq {b : BeaconOut} (wire : s.wire = some w) (body : w.body = .beacon b) (joining : s.bus = .joining) :
    (match s.wire with
      | some w =>
        match w.body with
        | .beacon b => if s.bus = .joining then (s.delivered w).joined b else s
        | _ => s
      | none => s) = (s.delivered w).joined b := by
  rw [wire]; dsimp only; rw [body]; exact if_pos joining

theorem orderResultEchoed_eq {slot : Fin 17} {r : OrderResult} {data : List Byte} (wire : s.wire = some w) (req : w.req = .orderResult slot)
    (body : w.body = .orderResult r data) :
    (match s.wire with
      | some w =>
        match w.req, w.body with
        | .orderResult slot, .orderResult r _ => (s.delivered w).orderResultEchoed slot r
        | .runResult _, .runResult n _ => (s.delivered w).setResult n none
        | _, _ => s
      | none => s) = (s.delivered w).orderResultEchoed slot r := by
  rw [wire]; dsimp only; rw [req, body]

theorem runResultEchoed_eq {n m : LineNo} {r : RunResult} (wire : s.wire = some w) (req : w.req = .runResult m) (body : w.body = .runResult n r) :
    (match s.wire with
      | some w =>
        match w.req, w.body with
        | .orderResult slot, .orderResult r _ => (s.delivered w).orderResultEchoed slot r
        | .runResult _, .runResult n _ => (s.delivered w).setResult n none
        | _, _ => s
      | none => s) = (s.delivered w).setResult n none := by
  rw [wire]; dsimp only; rw [req, body]

theorem ownFrameOnBus_eq (wire : s.wire = some w)
    (plain : w.body = .survey ∨ (∃ n x, w.body = .flow n x) ∨ (∃ n q k us co, w.body = .admitReq n q k us co) ∨ ((∃ b, w.body = .beacon b) ∧ s.bus ≠ .joining)) :
    (match s.wire with
      | some w => if s.plainOwn w.body then s.delivered w else s
      | none => s) = s.delivered w := by
  rw [wire]
  refine if_pos ?_
  unfold State.plainOwn
  rcases plain with body | ⟨n, x, body⟩ | ⟨n, q, k, us, co, body⟩ | ⟨⟨b, body⟩, bus⟩
  · rw [body]
  · rw [body]
  · rw [body]
  · rw [body]
    exact decide_eq_true bus

end

/-- The counters once the RESULT of an order is echoed: a clearing REPORT zeroes its group (R164). -/
def clearedBy (o : OrderOutcome) (c : Counters) : Counters :=
  match o with
  | .reportData g true => c.zeroGroup g
  | _ => c

theorem orderResultEchoed_spec (s : State) (slot : Fin 17) (r : OrderResult) :
    s.orderResultEchoed slot r =
      { s with
        orderSlots := if (s.req (.orderResult slot)).pending then s.orderSlots else s.orderSlots.set slot none
        counters := clearedBy r.outcome s.counters } := by
  have cleared (s1 : State) (o : OrderOutcome) :
      (match o with
        | .reportData g true => { s1 with counters := s1.counters.zeroGroup g }
        | _ => s1) = { s1 with counters := clearedBy o s1.counters } := by
    cases o with
    | reportData g clear => cases clear <;> rfl
    | _ => rfl
  unfold State.orderResultEchoed
  refine (cleared _ r.outcome).trans ?_
  split <;> rfl

theorem settled_counters {u v : State} (h : u.kept = v.kept) : Counters.settled u.counters = Counters.settled v.counters :=
  eq_of_core_counters (core_of_kept h)

/-- The state at the echo of an order's RESULT. -/
def resultReturned (s : State) (w : WireFrame) (slot : Fin 17) (r : OrderResult) : State :=
  { s.delivered w with
    orderSlots := if (s.req (.orderResult slot)).pending then s.orderSlots else s.orderSlots.set slot none
    counters := clearedBy r.outcome s.counters }

theorem resultReturned_eq {s : State} {w : WireFrame} {slot : Fin 17} {r : OrderResult} {data : List Byte} (wire : s.wire = some w)
    (req : w.req = .orderResult slot) (body : w.body = .orderResult r data) :
    (match s.wire with
      | some w =>
        match w.req, w.body with
        | .orderResult slot, .orderResult r _ => (s.delivered w).orderResultEchoed slot r
        | .runResult _, .runResult n _ => (s.delivered w).setResult n none
        | _, _ => s
      | none => s) = resultReturned s w slot r := by
  have pending : ((s.delivered w).req (.orderResult slot)).pending = (s.req (.orderResult slot)).pending := by
    unfold State.delivered
    rw [req_setReq]
    split
    · next same => rw [same]
    · rfl
  rw [orderResultEchoed_eq wire req body, orderResultEchoed_spec, pending]
  rfl

/-- A part at rest at whose event only a frame is delivered, a slot emptied and counters zeroed counts nothing else. -/
theorem resultReturned_counters {s : State} {t : Moment} (w : WireFrame) (slot : Fin 17) (r : OrderResult) (rest : AtRest s) :
    ((resultReturned (s.at t) w slot r).settle (s.at t) false).counters = clearedBy r.outcome s.counters :=
  settle_counters_of_rest (v := resultReturned (s.at t) w slot r) (fun _ => rest) (fun _ => rfl) fun _ => rfl

/-- Settles O44. -/
theorem echoesOfOwnFrames : Obligations.EchoesOfOwnFrames := by
  intro t s w hw returned
  have wire : (s.at t).wire = some w := hw
  refine ⟨fun n r body => ?_, fun n k prov user serial ch body => ⟨?_, fun old => ?_, fun new gone => ?_⟩, fun b body joining => ?_,
    fun slot r data req body => ?_, fun n m r req body => ?_, fun plain => ?_⟩
  · refine leads_of_take rfl (releaseEchoed_eq wire body) ?_
    have returned := returned_of_reqs (s := s.at t) (v := ((s.at t).delivered w).endRelease n r.serial) (w := w) rfl rfl (s.at t) false
    refine ⟨settle_wire _ _ _, ?_, ?_, settle_sup _ _ _, settle_sign _ _ _, returned, fun m hm => ?_⟩
    · rw [settle_claims]
      exact congrArg Claims.release (vector_set_get_self _ _ _)
    · rw [settle_claims]
      exact congrArg Claims.own (vector_set_get_self _ _ _)
    · rw [settle_claims]
      exact vector_set_get_ne _ _ (Ne.symm hm)
  · refine leads_of_take rfl (claimEchoed_eq wire body) ?_
    by_cases new : k = .new
    · rw [if_pos new]
      obtain ⟨strikes, streak⟩ := newClaimEchoed_returned ((s.at t).delivered w) n user serial w.req
      exact returned_settle (s := s.at t) strikes streak _ _
    · rw [if_neg new]
      exact returned_of_reqs (s := s.at t) rfl rfl _ _
  · exact gives_of_event rfl ((congrArg State.kept ((claimEchoed_eq wire body).trans (if_neg old))).trans rfl)
  · have effect := (claimEchoed_eq wire body).trans (if_pos new)
    have decided := newClaimEchoed_of_gone (s := (s.at t).delivered w) (n := n) user gone
    exact gives_of_event rfl ((congrArg State.kept (effect.trans decided)).trans rfl)
  · refine leads_of_take rfl (joiningBeaconEchoed_eq wire body joining) ?_
    obtain ⟨v, hv⟩ : ∃ v : State, v = { (s.at t).delivered w with bus := .active, freshAnnounced := s.freshAnnounced || b.freshStart } := ⟨_, rfl⟩
    have joined : ((s.at t).delivered w).joined b = v.raise .survey := by rw [hv]; rfl
    have view : v.wire = none ∧ v.bus = .active ∧ v.freshAnnounced = (s.freshAnnounced || b.freshStart) ∧ v.sup = s.sup ∧ v.sign = s.sign ∧
        v.req w.req = ((s.at t).delivered w).req w.req ∧ v.streak = ((s.at t).delivered w).streak := by
      rw [hv]
      exact ⟨rfl, rfl, rfl, rfl, rfl, rfl, rfl⟩
    rw [joined]
    obtain ⟨free, bus, fresh, sup, sign, request, streak⟩ := view
    have kept := (settle_kept (v.raise .survey) (s.at t) false).trans (kept_raise v .survey)
    refine ⟨(eq_of_kept_wire kept).trans free, (eq_of_kept_bus kept).trans bus, (eq_of_kept_freshAnnounced kept).trans fresh,
      settle_keeps_pending _ _ _ _ (raised_pending _ _), (eq_of_kept_sup kept).trans sup, (eq_of_kept_sign kept).trans sign,
      returned_settle ?_ ?_ _ _⟩
    · exact (raise_req_strikes _ _ _).trans (congrArg Req.strikes request)
    · exact (raise_streak _ _).trans streak
  · refine leads_of_take rfl (resultReturned_eq wire req body) ?_
    have returned := returned_of_reqs (s := s.at t) (v := resultReturned (s.at t) w slot r) (w := w) rfl rfl (s.at t) false
    have counters : Counters.settled ((resultReturned (s.at t) w slot r).settle (s.at t) false).counters =
        Counters.settled (clearedBy r.outcome s.counters) := settled_counters (settle_kept _ _ _)
    have atRest := fun rest : AtRest s => resultReturned_counters (t := t) w slot r rest
    have slots : ((resultReturned (s.at t) w slot r).settle (s.at t) false).orderSlots = _ := settle_orderSlots _ _ _
    have wireless : ((resultReturned (s.at t) w slot r).settle (s.at t) false).wire = none := settle_wire _ _ _
    have sup : ((resultReturned (s.at t) w slot r).settle (s.at t) false).sup = s.sup := settle_sup _ _ _
    generalize (resultReturned (s.at t) w slot r).settle (s.at t) false = u at *
    refine ⟨wireless, slots, fun zero => ?_, fun zero => ?_, fun zero => ?_, fun rest => ?_, sup, returned⟩
    · rw [zero] at counters
      simp only [Counters.settled, clearedBy, Counters.zeroGroup, Counters.mk.injEq] at counters
      grind
    · rw [zero] at counters
      simp only [Counters.settled, clearedBy, Counters.zeroGroup, Counters.mk.injEq] at counters
      grind
    · rw [zero] at counters
      simp only [Counters.settled, clearedBy, Counters.zeroGroup, Counters.mk.injEq] at counters
      grind
    · rw [atRest rest]
      cases r.outcome with
      | reportData g clear =>
        match g with
        | 0 => cases clear <;> rfl
        | 1 => cases clear <;> rfl
        | 2 => cases clear <;> rfl
      | _ => rfl
  · refine leads_of_take rfl (runResultEchoed_eq wire req body) ?_
    have returned := returned_of_reqs (s := s.at t) (v := ((s.at t).delivered w).setResult n none) (w := w) rfl rfl (s.at t) false
    exact ⟨settle_wire _ _ _, settle_result _ _ _, settle_sup _ _ _, settle_run _ _ _, returned⟩
  · refine leads_of_take rfl (ownFrameOnBus_eq wire plain) ?_
    have returned := returned_of_reqs (s := s.at t) (v := (s.at t).delivered w) (w := w) rfl rfl (s.at t) false
    exact ⟨settle_wire _ _ _, returned, settle_sup _ _ _, settle_sign _ _ _, settle_claims _ _ _, settle_roster _ _ _⟩

end Sys2Proof.Proofs.OwnEchoes
end

section
/-! Lost arbitration, strikes and discards (R39, R81, R151, R152, R155, R159, R163): a frame that did not get through stands pending again, or is given
up with what its owner does and what its destination makes of it. -/

namespace Sys2Proof.Proofs.Strikes

open Sys2Proof Sys2Proof.Machine Sys2Proof.Proofs.Lines Sys2Proof.Proofs.Closing Sys2Proof.Proofs.Frames Sys2Proof.Proofs.Disconnect
open Sys2Proof.Proofs.HangUp Sys2Proof.Proofs.Moves Sys2Proof.Proofs.Texts Sys2Proof.Proofs.OwnEchoes

/-! ## The requests the closing work leaves alone -/

/-- The requests that the closing work of an event can raise. -/
def raisedByWork : ReqId → Bool
  | .charge _ | .flow _ | .dataIn _ | .lineState _ => true
  | .beacon | .survey | .release _ | .claim _ | .admitReq _ | .orderResult _ | .runResult _ => false

theorem req_raise_other {i j : ReqId} (h : raisedByWork i = false) (raised : raisedByWork j = true) (s : State) : (s.raise j).req i = s.req i := by
  rw [req_raise]
  refine if_neg fun e => ?_
  rw [e, raised] at h
  cases h

theorem closeCause_req (i : ReqId) (s : State) (n : LineNo) (r : CloseReason) : (s.closeCause n r).req i = s.req i :=
  congrArg (fun q => reqOf q i) (closeCause_reqs n r s)

section
variable {i : ReqId} (other : raisedByWork i = false)
include other

theorem toServe_req (s : State) : (toServe s).req i = s.req i := by
  have one (u : State) : u.offerOne.req i = u.req i := by
    unfold State.offerOne
    split
    · split
      · exact req_raise_other other rfl _
      · rfl
    · rfl
  have tested : s.testHold.req i = s.req i :=
    testHold_keeps (g := fun u => u.req i) (fun _ _ _ _ => rfl) (fun _ _ => rfl) (fun _ => rfl) (fun _ _ => rfl) s
  unfold toServe State.updateOffers
  split
  · rw [one, one, one, one, tested]
  · exact tested

theorem settle_req_other (s before : State) (every : Bool) : (s.settle before every).req i = s.req i := by
  cases started : s.started with
  | false => rw [Commands.settle_of_not_started before every started]
  | true =>
    have flow (n : LineNo) (u : State) : (u.updateFlow n).req i = u.req i := by
      unfold State.updateFlow
      split
      · rfl
      · exact req_raise_other other rfl _
    have dataIn (n : LineNo) (u : State) : (State.raiseDataIn before n u).req i = u.req i := by
      unfold State.raiseDataIn
      split
      · exact req_raise_other other rfl _
      · rfl
    have lineState (n : LineNo) (u : State) : (State.raiseLineState before every n u).req i = u.req i := by
      unfold State.raiseLineState
      split
      · split
        · exact req_raise_other other rfl _
        · rfl
      · rfl
    rw [settle_of_started started]
    calc (eachLine allLines (State.raiseLineState before every) (forwarded before s)).req i
        = (forwarded before s).req i := eachLine_keeps (fun u => u.req i) _ lineState _ _
      _ = (reported s).req i := eachLine_keeps (fun u => u.req i) _ dataIn _ _
      _ = (flowed s).req i := eachLine_keeps (fun u => u.req i) _
        (reportDrained_keeps (g := fun u => u.req i) (closeCause_req i) fun _ _ => rfl) _ _
      _ = (served s).req i := eachLine_keeps (fun u => u.req i) _ flow _ _
      _ = (toServe s).req i := serve_keeps (g := fun u => u.req i) (fun _ _ _ _ => rfl) (fun _ _ => rfl) _ _
      _ = s.req i := toServe_req other s

end

theorem toServe_strikes (s : State) (i : ReqId) : ((toServe s).req i).strikes = (s.req i).strikes := by
  have tested : s.testHold.req i = s.req i :=
    testHold_keeps (g := fun u => u.req i) (fun _ _ _ _ => rfl) (fun _ _ => rfl) (fun _ => rfl) (fun _ _ => rfl) s
  exact (updateOffers_keeps (g := fun u => (u.req i).strikes) (fun u j => raise_req_strikes u j i) (fun _ _ => rfl) _).trans
    (congrArg Req.strikes tested)

/-! ## A station marked absent (R87) -/

/-- A roster entry of a station that is marked absent. -/
def absentEntry (r : RosterEntry) : RosterEntry := { r with age := 3 }

theorem accountantTurned_absent (roster : Vector RosterEntry 16) (i : Station) : accountantTurned roster (roster.set i (absentEntry roster[i])) none = false := by
  simp only [accountantTurned, List.any_eq_false]
  intro j _
  rw [vector_set_get]
  split
  · simp [RosterEntry.accountant, RosterEntry.present, absentEntry]
  · simp

/-- What a station marked absent leaves: its age, and the channel-holds that end with it. -/
def marked (s : State) (i : Station) : State :=
  let s1 : State := { s with roster := s.roster.set i (absentEntry s.roster[i]) }
  s1.clearChannelHold (s1.channelTurnedAbsent s.roster)

theorem markAbsent_of_other {s : State} {i : Station} (h : i ≠ s.station) : s.markAbsent i = toServe (marked s i) := by
  have roster : (toServe (marked s i)).roster = s.roster.set i (absentEntry s.roster[i]) :=
    eq_of_kept_roster (t := marked s i) ((kept_updateOffers _).trans (kept_testHold _))
  unfold State.markAbsent State.changeRoster
  rw [if_neg h]
  refine if_neg ?_
  show ¬accountantTurned s.roster (toServe (marked s i)).roster none = true
  rw [roster, accountantTurned_absent]
  exact Bool.false_ne_true

theorem markAbsent_of_own {s : State} {i : Station} (h : i = s.station) : s.markAbsent i = s := if_pos h

theorem clearChannelHold_path (s : State) (p : LineNo → Bool) (n : LineNo) :
    ∃ hold, (s.clearChannelHold p).path[n] = { s.path[n] with channelHold := hold } := by
  unfold State.clearChannelHold
  dsimp only
  rw [mapTable_get]
  split
  · exact ⟨_, rfl⟩
  · exact ⟨_, rfl⟩

/-! ## The frame off the wire -/

theorem landed_eq (s : State) (i : ReqId) :
    ∃ path, s.landed i = { s with path := path } ∧ ∀ n : LineNo, i = .dataIn n → path[n] = { s.path[n] with inFlight := none } := by
  unfold State.landed
  split
  · next m => exact ⟨_, rfl, fun n h => by cases h; exact vector_set_get_self _ _ _⟩
  · next i other => exact ⟨s.path, rfl, fun n h => absurd h (other n)⟩

theorem repend_eq (s : State) (i : ReqId) (strikes : Nat) :
    ∃ path, s.repend i strikes = State.setReq { s with path := path, wire := none } i ⟨true, strikes⟩ ∧
      ∀ n : LineNo, i = .dataIn n → path[n] = { s.path[n] with inFlight := none } := by
  obtain ⟨path, landed, flight⟩ := landed_eq s i
  exact ⟨path, by unfold State.repend; rw [landed], flight⟩

/-- The inbound queue of a DATA-IN frame that did not get through stands (R39). -/
theorem queue_stands {u v : State} {p : Path} {n : LineNo} {hold : Bool} (kept : u.kept = v.kept)
    (path : v.path[n] = { p with inFlight := none, channelHold := hold }) :
    u.path[n].inward = { p with inFlight := none, channelHold := u.path[n].channelHold }.inward := by
  have inward := eq_of_kept_inward kept n
  rw [path] at inward
  have held : u.path[n].channelHold = hold := congrArg Path.channelHold inward
  rw [inward, held]

/-- What an owner leaves of a discarded frame (R81, R151, R163). -/
structure Owned (s u : State) (w : WireFrame) : Prop where
  same : ∃ claims orderSlots result, u = { s with claims := claims, orderSlots := orderSlots, result := result }
  release : ∀ (n : LineNo) (r : ReleaseSlot), w.body = .release n r →
    u.claims[n].release = none ∧
      u.claims[n].own = (match s.claims[n].own with | some o => if o.serial = r.serial then none else some o | none => none)
  order : ∀ (slot : Fin 17) (r : OrderResult) (data : List Byte), w.req = .orderResult slot → w.body = .orderResult r data → u.orderSlots[slot] = none
  run : ∀ (n : LineNo) (r : RunResult), w.body = .runResult n r → u.result[n] = none

theorem owned_ownerDiscards (s : State) (w : WireFrame) : Owned s (s.ownerDiscards w) w := by
  obtain ⟨req, dest, body⟩ := w
  cases body with
  | release n r =>
    refine ⟨⟨_, _, _, rfl⟩, fun m r' h => ?_, nofun, nofun⟩
    cases h
    exact ⟨congrArg Claims.release (vector_set_get_self _ _ _), congrArg Claims.own (vector_set_get_self _ _ _)⟩
  | orderResult r data =>
    cases req with
    | orderResult slot =>
      refine ⟨⟨_, _, _, rfl⟩, nofun, fun slot' r' data' h _ => ?_, nofun⟩
      cases h
      exact vector_set_get_self _ _ _
    | _ => exact ⟨⟨_, _, _, rfl⟩, nofun, nofun, nofun⟩
  | runResult n r =>
    refine ⟨⟨_, _, _, rfl⟩, nofun, nofun, fun m r' h => ?_⟩
    cases h
    exact vector_set_get_self _ _ _
  | _ => exact ⟨⟨_, _, _, rfl⟩, nofun, nofun, nofun⟩

/-- What stands once a frame is given up, before its destination makes anything of it. -/
structure GivenUp (s d : State) (w : WireFrame) : Prop where
  wire : d.wire = none
  req : d.req w.req = Req.idle
  frames : d.counters.framesDiscarded = sat16 s.counters.framesDiscarded
  strikes : d.counters.strikes = sat16 s.counters.strikes
  sup : d.sup = s.sup
  roster : d.roster = s.roster
  bus : d.bus = s.bus
  streak : d.streak = s.streak
  station : d.station = s.station
  now : d.now = s.now
  path : ∀ n : LineNo, w.req = .dataIn n → d.path[n] = { s.path[n] with inFlight := none }
  release : ∀ (n : LineNo) (r : ReleaseSlot), w.body = .release n r →
    d.claims[n].release = none ∧
      d.claims[n].own = (match s.claims[n].own with | some o => if o.serial = r.serial then none else some o | none => none)
  order : ∀ (slot : Fin 17) (r : OrderResult) (data : List Byte), w.req = .orderResult slot → w.body = .orderResult r data → d.orderSlots[slot] = none
  run : ∀ (n : LineNo) (r : RunResult), w.body = .runResult n r → d.result[n] = none

theorem struck_discards {s : State} {w : WireFrame} (eighth : 8 ≤ (s.req w.req).strikes + 1) :
    ∃ d, s.struck w = d.discardTo w ∧ GivenUp s d w := by
  obtain ⟨path, landed, flight⟩ := landed_eq (s.count .strikes) w.req
  obtain ⟨x, hx⟩ : ∃ x : State, x = State.dropReq { State.count { s.count .strikes with path := path } .framesDiscarded with wire := none } w.req :=
    ⟨_, rfl⟩
  have owned := owned_ownerDiscards x w
  obtain ⟨claims, orderSlots, result, e⟩ := owned.same
  have reqs : (x.ownerDiscards w).reqs = x.reqs := by rw [e]
  refine ⟨x.ownerDiscards w, ?_, ?_, ?_, ?_, ?_, ?_, ?_, ?_, ?_, ?_, ?_, fun n h => ?_, fun n r h => ?_, owned.order, owned.run⟩
  · unfold State.struck
    refine (if_neg (Nat.not_lt.mpr eighth)).trans ?_
    unfold State.discard
    rw [landed, hx]
  · rw [e, hx]; rfl
  · exact (congrArg (fun q => reqOf q w.req) reqs).trans (by rw [hx]; exact req_setReq_self _ _ _)
  · rw [e, hx]; rfl
  · rw [e, hx]; rfl
  · rw [e, hx]; rfl
  · rw [e, hx]; rfl
  · rw [e, hx]; rfl
  · rw [e, hx]; rfl
  · rw [e, hx]; rfl
  · rw [e, hx]; rfl
  · rw [e, hx]; exact flight n h
  · have released := owned.release n r h
    have same : x.claims = s.claims := by rw [hx]; rfl
    rw [same] at released
    exact released

theorem struck_again {s : State} {w : WireFrame} (below : (s.req w.req).strikes + 1 < 8) :
    s.struck w = (s.count .strikes).repend w.req ((s.req w.req).strikes + 1) := if_pos below

/-! ## What the destination makes of it (R155, R159) -/

/-- What every destination leaves of the state of a frame given up. -/
structure Follows (d v : State) (w : WireFrame) : Prop where
  wire : v.wire = d.wire
  sup : v.sup = d.sup
  claims : v.claims = d.claims
  orderSlots : v.orderSlots = d.orderSlots
  result : v.result = d.result
  counters : Counters.settled v.counters = Counters.settled d.counters
  strikes : (v.req w.req).strikes = (d.req w.req).strikes
  req : raisedByWork w.req = false → v.req w.req = d.req w.req
  path : ∀ n : LineNo, ∃ hold, v.path[n].inward = { d.path[n] with channelHold := hold }.inward

theorem Follows.refl (d : State) (w : WireFrame) : Follows d d w :=
  ⟨rfl, rfl, rfl, rfl, rfl, rfl, rfl, fun _ => rfl, fun _ => ⟨_, rfl⟩⟩

theorem marked_kept (d : State) (i : Station) : (toServe (marked d i)).kept = (marked d i).kept := (kept_updateOffers _).trans (kept_testHold _)

theorem follows_marked (d : State) (i : Station) (w : WireFrame) : Follows d (toServe (marked d i)) w := by
  have kept := marked_kept d i
  refine ⟨(eq_of_kept_wire kept).trans rfl, (eq_of_kept_sup kept).trans rfl, (eq_of_kept_claims kept).trans rfl,
    (eq_of_kept_orderSlots kept).trans rfl, (eq_of_kept_result kept).trans rfl, (settled_counters kept).trans rfl,
    toServe_strikes (marked d i) w.req, fun other => toServe_req other (marked d i), fun n => ?_⟩
  obtain ⟨hold, path⟩ := clearChannelHold_path { d with roster := d.roster.set i (absentEntry d.roster[i]) }
    (State.channelTurnedAbsent { d with roster := d.roster.set i (absentEntry d.roster[i]) } d.roster) n
  exact ⟨hold, (eq_of_kept_inward kept n).trans (congrArg Path.inward path)⟩

theorem discardTo_follows (d : State) (w : WireFrame) : Follows d (d.discardTo w) w := by
  unfold State.discardTo
  split
  · next i _ =>
    by_cases own : i = d.station
    · rw [markAbsent_of_own own]; exact .refl d w
    · rw [markAbsent_of_other own]; exact follows_marked d i w
  · exact .refl d w
  · split
    · exact ⟨rfl, rfl, rfl, rfl, rfl, rfl, rfl, fun _ => rfl, fun _ => ⟨_, rfl⟩⟩
    · exact ⟨rfl, rfl, rfl, rfl, rfl, rfl, rfl, fun _ => rfl, fun _ => ⟨_, rfl⟩⟩

theorem discardTo_station {d : State} {w : WireFrame} {i : Station} (dest : w.dest = .station i) (other : i ≠ d.station) :
    (d.discardTo w).roster[i] = absentEntry d.roster[i] ∧ (d.discardTo w).bus = d.bus ∧ (d.discardTo w).streak = d.streak := by
  have e : d.discardTo w = toServe (marked d i) := by
    unfold State.discardTo
    rw [dest]
    exact markAbsent_of_other other
  have kept := marked_kept d i
  rw [e, eq_of_kept_roster kept, eq_of_kept_bus kept, eq_of_kept_streak kept]
  exact ⟨vector_set_get_self _ _ _, rfl, rfl⟩

theorem discardTo_accountants {d : State} {w : WireFrame} (dest : w.dest = .accountants) : d.discardTo w = d := by
  unfold State.discardTo
  rw [dest]

theorem discardTo_all {d : State} {w : WireFrame} {bus : BusState} {streak : Nat} (dest : w.dest = .all) (hbus : d.bus = bus)
    (hstreak : d.streak = streak) :
    d.discardTo w = if (bus = .joining ∧ w.req = .beacon) ∨ 2 ≤ streak then d.enterSilent else { d with streak := streak + 1 } := by
  have third : (3 ≤ streak + 1) = (2 ≤ streak) := propext ⟨Nat.le_of_succ_le_succ, Nat.succ_le_succ⟩
  unfold State.discardTo
  rw [dest, hbus, hstreak]
  dsimp only
  simp only [third]

/-- The request of a frame that comes only once, at an event of its own (R155). -/
theorem other_of_dropped {i : ReqId}
    (h : i = .beacon ∨ i = .survey ∨ (∃ k : Fin 17, i = .orderResult k) ∨
      ∃ n : LineNo, i = .claim n ∨ i = .release n ∨ i = .admitReq n ∨ i = .runResult n) : raisedByWork i = false := by
  rcases h with rfl | rfl | ⟨k, rfl⟩ | ⟨n, rfl | rfl | rfl | rfl⟩ <;> rfl

theorem exec_arbitrationLost {t : Moment} {s : State} {w : WireFrame} (wire : s.wire = some w) :
    (match (s.at t).wire with | some w => (s.at t).repend w.req ((s.at t).req w.req).strikes | none => s.at t) =
      (s.at t).repend w.req (s.req w.req).strikes := by
  have wire : (s.at t).wire = some w := wire
  rw [wire]
  rfl

theorem exec_strike {t : Moment} {s : State} {w : WireFrame} (wire : s.wire = some w) :
    (match (s.at t).wire with | some w => (s.at t).struck w | none => s.at t) = (s.at t).struck w := by
  have wire : (s.at t).wire = some w := wire
  rw [wire]

/-- Settles O42: the frame lands; below the eighth strike its request stands again, at the eighth its owner and its destination give it up. -/
theorem strikesRepeatAndDiscard : Obligations.StrikesRepeatAndDiscard := by
  intro t s w wire queueStands dropped
  refine ⟨?_, fun below => ?_, fun eighth => ?_⟩
  · obtain ⟨path, e, flight⟩ := repend_eq (s.at t) w.req (s.req w.req).strikes
    refine leads_of_take rfl ((exec_arbitrationLost wire).trans e) ?_
    have kept := settle_kept (State.setReq { s.at t with path := path, wire := none } w.req ⟨true, (s.req w.req).strikes⟩) (s.at t) false
    have request : ∀ i, i = w.req → (State.setReq { s.at t with path := path, wire := none } w.req ⟨true, (s.req w.req).strikes⟩).req i =
        ⟨true, (s.req w.req).strikes⟩ := fun i h => by rw [h]; exact req_setReq_self _ _ _
    have counted := congrArg Counters.strikes (settled_counters kept)
    refine ⟨settle_wire _ _ _, settle_keeps_pending _ _ _ _ (by rw [request _ rfl]), (settle_strikes _ _ _ _).trans (by rw [request _ rfl]), counted,
      settle_sup _ _ _, settle_claims _ _ _, settle_roster _ _ _, fun n a b cs req _ => ?_⟩
    exact queue_stands kept (flight n req)
  · obtain ⟨path, e, flight⟩ := repend_eq ((s.at t).count .strikes) w.req ((s.req w.req).strikes + 1)
    refine leads_of_take rfl ((exec_strike wire).trans ((struck_again (s := s.at t) below).trans e)) ?_
    obtain ⟨v, hv⟩ : ∃ v, v = State.setReq { (s.at t).count .strikes with path := path, wire := none } w.req ⟨true, (s.req w.req).strikes + 1⟩ := ⟨_, rfl⟩
    rw [← hv]
    have kept := settle_kept v (s.at t) false
    have request : v.req w.req = ⟨true, (s.req w.req).strikes + 1⟩ := by rw [hv]; exact req_setReq_self _ _ _
    have view : v.wire = none ∧ v.roster = s.roster ∧ v.bus = s.bus ∧ v.sup = s.sup ∧ v.claims = s.claims ∧
        v.counters.strikes = sat16 s.counters.strikes ∧ v.path = path := by
      rw [hv]
      exact ⟨rfl, rfl, rfl, rfl, rfl, rfl, rfl⟩
    obtain ⟨free, roster, bus, sup, claims, counted, paths⟩ := view
    refine ⟨(settle_wire _ _ _).trans free, settle_keeps_pending _ _ _ _ (by rw [request]), (settle_strikes _ _ _ _).trans (by rw [request]),
      (congrArg Counters.strikes (settled_counters kept)).trans counted, (settle_roster _ _ _).trans roster, (settle_bus _ _ _).trans bus,
      (settle_sup _ _ _).trans sup, (settle_claims _ _ _).trans claims, fun n a b cs req _ => ?_⟩
    exact queue_stands kept (by rw [paths]; exact flight n req)
  · obtain ⟨d, e, given⟩ := struck_discards (s := s.at t) eighth
    refine leads_of_take rfl ((exec_strike wire).trans e) ?_
    have follows := discardTo_follows d w
    have kept := settle_kept (d.discardTo w) (s.at t) false
    have counters := (settled_counters kept).trans follows.counters
    have claims := (settle_claims (d.discardTo w) (s.at t) false).trans follows.claims
    have slots := (settle_orderSlots (d.discardTo w) (s.at t) false).trans follows.orderSlots
    have results := (settle_result (d.discardTo w) (s.at t) false).trans follows.result
    refine ⟨(settle_wire _ _ _).trans (follows.wire.trans given.wire), ?_, fun once => ?_, (congrArg Counters.framesDiscarded counters).trans given.frames,
      (congrArg Counters.strikes counters).trans given.strikes, (settle_sup _ _ _).trans (follows.sup.trans given.sup), fun n a b cs req _ => ?_,
      fun i dest other => ?_, fun dest => ?_, fun dest => ?_, fun n r body => ?_, fun slot r data req body => ?_, fun n r body => ?_⟩
    · rw [settle_strikes, follows.strikes, given.req]
      rfl
    · rw [settle_req_other (other_of_dropped once), follows.req (other_of_dropped once), given.req]
      rfl
    · obtain ⟨hold, path⟩ := follows.path n
      rw [given.path n req] at path
      have inward := (eq_of_kept_inward kept n).trans path
      have held : ((d.discardTo w).settle (s.at t) false).path[n].channelHold = hold := congrArg Path.channelHold inward
      rw [inward, held]
      rfl
    · obtain ⟨entry, bus, streak⟩ := discardTo_station dest (by rw [given.station]; exact other)
      rw [settle_roster, settle_bus, settle_streak, entry, bus, streak, given.roster, given.bus, given.streak]
      exact ⟨rfl, rfl, rfl, rfl⟩
    · rw [settle_roster, settle_bus, settle_streak, discardTo_accountants dest]
      exact ⟨given.roster, given.bus, given.streak⟩
    · rw [settle_bus, settle_streak, settle_quietTimer, discardTo_all (bus := s.bus) (streak := s.streak) dest given.bus given.streak]
      split
      · exact ⟨rfl, rfl, congrArg (fun now => some (now + 2000)) given.now⟩
      · exact ⟨given.bus, rfl⟩
    · rw [claims]
      exact given.release n r body
    · rw [slots]
      exact given.order slot r data req body
    · rw [results]
      exact given.run n r body

end Sys2Proof.Proofs.Strikes
end

section
/-! Receive faults, clashes and silence (R141, R154, R159 to R161), and the receiver: the fields of a frame from its bits, and the command that its kind,
its destination and its payload make it (R162, R172, R173). -/

namespace Sys2Proof.Proofs.Receiving

open Sys2Proof Sys2Proof.Machine Sys2Proof.Proofs.Lines Sys2Proof.Proofs.Disconnect Sys2Proof.Proofs.HangUp

/-! ## Bits and numbers -/

theorem foldl_bits (bs : List Bool) (v : Nat) : bs.foldl (fun v b => 2 * v + b.toNat) v = v * 2 ^ bs.length + numberOfBits bs := by
  induction bs generalizing v with
  | nil => simp [numberOfBits]
  | cons b bs ih =>
    have tail : numberOfBits (b :: bs) = b.toNat * 2 ^ bs.length + numberOfBits bs := by
      show bs.foldl _ (2 * 0 + b.toNat) = _
      rw [ih, Nat.mul_zero, Nat.zero_add]
    rw [List.foldl_cons, ih, tail, List.length_cons, Nat.pow_succ]
    ring

theorem numberOfBits_cons (b : Bool) (bs : List Bool) : numberOfBits (b :: bs) = b.toNat * 2 ^ bs.length + numberOfBits bs := by
  have whole : numberOfBits (b :: bs) = bs.foldl (fun v b => 2 * v + b.toNat) (2 * 0 + b.toNat) := rfl
  rw [whole, foldl_bits, Nat.mul_zero, Nat.zero_add]

/-- The low `w` bits of a number, most significant first. -/
def lowBits (w n : Nat) : List Bool := (List.range w).map fun i => n.testBit (w - 1 - i)

theorem lowBits_succ (w n : Nat) : lowBits (w + 1) n = n.testBit w :: lowBits w n := by
  unfold lowBits
  rw [List.range_succ_eq_map, List.map_cons, List.map_map]
  refine congrArg₂ List.cons (by simp) (List.map_congr_left fun i hi => ?_)
  show n.testBit (w + 1 - 1 - (i + 1)) = n.testBit (w - 1 - i)
  congr 1
  omega

theorem numberOfBits_lowBits (w n : Nat) : numberOfBits (lowBits w n) = n % 2 ^ w := by
  induction w with
  | zero => simp [lowBits, numberOfBits, Nat.mod_one]
  | succ w ih =>
    have length : (lowBits w n).length = w := by simp [lowBits]
    rw [lowBits_succ, numberOfBits_cons, ih, length, Nat.pow_succ, Nat.mod_mul, Nat.toNat_testBit, Nat.add_comm, Nat.mul_comm]

theorem msbFirst_eq {w : Nat} (v : BitVec w) : msbFirst v = lowBits w v.toNat := by
  refine List.map_congr_left fun i hi => ?_
  have inside : i < w := List.mem_range.mp hi
  simp [BitVec.getMsbD, inside, BitVec.getLsbD]

@[simp] theorem length_msbFirst {w : Nat} (v : BitVec w) : (msbFirst v).length = w := by simp [msbFirst]

/-- A field read where its bits stand is the field (R172). -/
theorem fieldAt_of_eq {w : Nat} {bs front back : List Bool} {place : Nat} (v : BitVec w) (h : bs = front ++ (msbFirst v ++ back))
    (at_ : front.length = place) : fieldAt w bs place = v := by
  have bits : (bs.drop place).take w = msbFirst v := by
    rw [h, ← at_, List.drop_left, List.take_left' (length_msbFirst v)]
  unfold fieldAt
  rw [bits, msbFirst_eq, numberOfBits_lowBits, Nat.mod_eq_of_lt v.isLt]
  simp

/-! ## The fields of a frame (Table 11-1) -/

section
variable (f : RawFrame)

/-- The bits of a payload. -/
def payloadBits (ps : List Byte) : List Bool := ps.flatMap msbFirst

theorem length_payloadBits (ps : List Byte) : (payloadBits ps).length = 8 * ps.length := by
  induction ps with
  | nil => rfl
  | cons p ps ih =>
    show (msbFirst p ++ payloadBits ps).length = _
    rw [List.length_append, ih, length_msbFirst, List.length_cons]
    ring

/-- The bits of the head: start, precedence word, destination and length. -/
def headOf : List Bool := [false] ++ msbFirst f.level ++ msbFirst f.kind ++ msbFirst f.source ++ msbFirst f.dest ++ msbFirst f.length

theorem frameBits_eq : frameBits f = headOf f ++ (payloadBits f.payload ++ msbFirst f.crc) := by
  simp only [frameBits, coveredBits, headOf, payloadBits, List.append_assoc]

theorem length_headOf : (headOf f).length = headBits := by simp [headOf, headBits]

theorem length_frameBits : (frameBits f).length = headBits + 8 * f.payload.length + 16 := by
  rw [frameBits_eq, List.length_append, List.length_append, length_headOf, length_payloadBits, length_msbFirst, Nat.add_assoc]

/-- The fields that stand ahead of the payload are read from any bits that begin with the head. -/
theorem head_fields (back : List Bool) :
    fieldAt 3 (headOf f ++ back) 1 = f.level ∧ fieldAt 5 (headOf f ++ back) 4 = f.kind ∧ fieldAt 4 (headOf f ++ back) 9 = f.source ∧
      fieldAt 5 (headOf f ++ back) 13 = f.dest ∧ fieldAt 5 (headOf f ++ back) 18 = f.length := by
  refine ⟨?_, ?_, ?_, ?_, ?_⟩
  · exact fieldAt_of_eq (front := [false]) f.level (by simp only [headOf, List.append_assoc]; rfl) rfl
  · exact fieldAt_of_eq (front := [false] ++ msbFirst f.level) f.kind (by simp only [headOf, List.append_assoc]; rfl) (by simp)
  · exact fieldAt_of_eq (front := [false] ++ msbFirst f.level ++ msbFirst f.kind) f.source (by simp only [headOf, List.append_assoc]; rfl) (by simp)
  · exact fieldAt_of_eq (front := [false] ++ msbFirst f.level ++ msbFirst f.kind ++ msbFirst f.source) f.dest
      (by simp only [headOf, List.append_assoc]; rfl) (by simp)
  · exact fieldAt_of_eq (front := [false] ++ msbFirst f.level ++ msbFirst f.kind ++ msbFirst f.source ++ msbFirst f.dest) f.length
      (by simp only [headOf, List.append_assoc]; rfl) (by simp)

theorem payloadBits_append (ps qs : List Byte) : payloadBits (ps ++ qs) = payloadBits ps ++ payloadBits qs := List.flatMap_append

theorem payload_field {i : Nat} (h : i < f.payload.length) : fieldAt 8 (frameBits f) (headBits + 8 * i) = f.payload[i] := by
  have split : payloadBits f.payload = payloadBits (f.payload.take i) ++ (msbFirst f.payload[i] ++ payloadBits (f.payload.drop (i + 1))) := by
    have whole : f.payload = f.payload.take i ++ f.payload[i] :: f.payload.drop (i + 1) := by simp
    calc payloadBits f.payload = payloadBits (f.payload.take i ++ f.payload[i] :: f.payload.drop (i + 1)) := congrArg payloadBits whole
      _ = _ := payloadBits_append _ _
  refine fieldAt_of_eq (front := headOf f ++ payloadBits (f.payload.take i)) (back := payloadBits (f.payload.drop (i + 1)) ++ msbFirst f.crc) _ ?_ ?_
  · rw [frameBits_eq, split]
    simp only [List.append_assoc]
  · rw [List.length_append, length_headOf, length_payloadBits, List.length_take, Nat.min_eq_left (Nat.le_of_lt h)]

theorem crc_field : fieldAt 16 (frameBits f) (headBits + 8 * f.payload.length) = f.crc := by
  refine fieldAt_of_eq (front := headOf f ++ payloadBits f.payload) (back := []) f.crc ?_ ?_
  · rw [frameBits_eq, List.append_nil, List.append_assoc]
  · rw [List.length_append, length_headOf, length_payloadBits]

variable {f} (sound : f.payload.length = f.length.toNat)
include sound

/-- The bits of a frame give its fields back (R172). -/
theorem frameOfBits_frameBits : frameOfBits (frameBits f) = some f := by
  obtain ⟨level, kind, source, dest, length⟩ := head_fields f (payloadBits f.payload ++ msbFirst f.crc)
  rw [← frameBits_eq] at level kind source dest length
  have payload : ((List.range f.payload.length).map fun i => fieldAt 8 (frameBits f) (headBits + 8 * i)) = f.payload := by
    refine List.ext_getElem (by simp) fun i hi hi' => ?_
    rw [List.getElem_map, List.getElem_range]
    exact payload_field f hi'
  unfold frameOfBits
  dsimp only
  rw [level, kind, source, dest, length, ← sound, if_pos (Nat.le_of_eq (length_frameBits f).symm), payload, crc_field]

/-- Bits that end too early are no whole frame (R154). -/
theorem frameOfBits_cut {k : Nat} (h : k < (frameBits f).length) : frameOfBits ((frameBits f).take k) = none := by
  have total := length_frameBits f
  have taken : ((frameBits f).take k).length = k := List.length_take_of_le (Nat.le_of_lt h)
  unfold frameOfBits
  dsimp only
  rw [taken]
  refine if_neg ?_
  by_cases head : headBits ≤ k
  · have front : (frameBits f).take k = headOf f ++ (payloadBits f.payload ++ msbFirst f.crc).take (k - headBits) := by
      rw [frameBits_eq, List.take_append, length_headOf, List.take_of_length_le (by rw [length_headOf]; exact head)]
    rw [front, (head_fields f _).2.2.2.2, ← sound]
    omega
  · omega

end

theorem readBits_frameBits (own : Station) (t : Moment) (sending : Bool) {f : RawFrame} (sound : f.payload.length = f.length.toNat) :
    readBits own t sending (frameBits f) = readFrame own t f := by
  unfold readBits
  rw [frameOfBits_frameBits sound]

theorem readBits_cut (own : Station) (t : Moment) (sending : Bool) {f : RawFrame} (sound : f.payload.length = f.length.toNat) {k : Nat}
    (h : k < (frameBits f).length) : readBits own t sending ((frameBits f).take k) = .receiveFault t ⟨0, 0, 0, 0, 0, [], 0⟩ true sending := by
  unfold readBits
  rw [frameOfBits_cut sound h]

/-! ## The command of a frame (Tables 9-1 and 11-2) -/

theorem kindOf_precedence (k : FrameKind) : kindOf k.precedence.1 k.precedence.2 = some k := by
  cases k <;> rfl

theorem precedence_of_kindOf {level kind : Nat} {k : FrameKind} (h : kindOf level kind = some k) : k.precedence = (level, kind) :=
  of_decide_eq_true (List.find?_some (p := fun k : FrameKind => decide (k.precedence = (level, kind))) h)

/-- The order that a kind byte names. -/
theorem orderKindOf_eq (b : Byte) :
    orderKindOf b =
      match b.toNat with
      | 1 => some .forceOff
      | 2 => some .out
      | 3 => some .in_
      | 4 => some .prove
      | 5 => some .drain
      | 6 => some .undrain
      | 7 => some .notice
      | 8 => some .restart
      | 9 => some .report
      | _ => none := by
  unfold orderKindOf
  generalize b.toNat = m
  match m with
  | 0 | 1 | 2 | 3 | 4 | 5 | 6 | 7 | 8 | 9 => rfl
  | m + 10 =>
    refine List.find?_eq_none.mpr fun k _ => ?_
    cases k <;> simp [OrderKind.code]

section
variable {own src : Station} {t : Moment} {f : RawFrame}

theorem readFrame_of_sound (sound : frameWellFormed f = true) (source : f.source.toNat = src.val) (other : src ≠ own) :
    readFrame own t f = takenFrame own t src f := by
  have e : (⟨f.source.toNat, f.source.isLt⟩ : Station) = src := Fin.ext source
  unfold readFrame
  dsimp only
  rw [if_pos sound, e, if_neg other]

theorem kindOf_of_codes {level kind : Nat} (k : FrameKind) (hl : level = k.precedence.1) (hk : kind = k.precedence.2) : kindOf level kind = some k := by
  rw [hl, hk, kindOf_precedence]

/-- A frame that no block takes, or that does not bear the destination with which its kind is taken, only makes its sender heard (R154; log entry 43). -/
theorem takenFrame_heard
    (h : f.kind.toNat ∈ [6, 9, 12] ∨ f.kind.toNat ∈ [0, 1, 3, 4, 5, 11] ∧ f.dest.toNat ≠ 31 ∨
      f.kind.toNat ∈ [2, 7, 8, 10, 13] ∧ f.dest.toNat ≠ own.val) :
    takenFrame own t src f = .frameOnBus t src f.dest := by
  unfold takenFrame
  dsimp only
  cases found : kindOf f.level.toNat f.kind.toNat with
  | none => rfl
  | some k =>
    have code : f.kind.toNat = k.precedence.2 := (congrArg Prod.snd (precedence_of_kindOf found)).symm
    rw [code] at h
    cases k with
    | time | beacon | release | claim | survey | lineState =>
      have astray : f.dest.toNat ≠ 31 := by simpa [FrameKind.precedence] using h
      exact if_neg astray
    | flow | admitReply | chargeAck | data =>
      have astray : f.dest.toNat ≠ own.val := by simpa [FrameKind.precedence] using h
      exact if_neg astray
    | order =>
      have astray : f.dest.toNat ≠ own.val := by simpa [FrameKind.precedence] using h
      dsimp only
      split
      · exact if_neg astray
      · rfl
    | admitReq | charge | result => rfl

/-- The command of an ORDER for the own station. -/
theorem takenFrame_order {k l a b : Byte} (found : kindOf f.level.toNat f.kind.toNat = some .order) (dest : f.dest.toNat = own.val)
    (payload : f.payload = [k, l, a, b]) :
    takenFrame own t src f =
      match k.toNat with
      | 1 => .orderForceOff t src l (a ++ b)
      | 2 => .orderOut t src l (a ++ b)
      | 3 => .orderIn t src l (a ++ b)
      | 4 => .orderProve t src l (a ++ b)
      | 5 => .orderDrain t src l (a ++ b)
      | 6 => .orderUndrain t src l (a ++ b)
      | 7 => .orderNotice t src l (a ++ b)
      | 8 => .orderRestart t src l (a ++ b)
      | 9 => .orderReport t src l (a ++ b)
      | _ => .frameOnBus t src f.dest := by
  have bytes : payload1 f 0 = k ∧ payload1 f 1 = l ∧ payload2 f 2 = a ++ b := by
    unfold payload2 payload1
    rw [payload]
    exact ⟨rfl, rfl, rfl⟩
  obtain ⟨kindByte, line, arg⟩ := bytes
  unfold takenFrame
  rw [found]
  dsimp only
  rw [kindByte, orderKindOf_eq, line, arg]
  generalize k.toNat = m
  match m with
  | 1 | 2 | 3 | 4 | 5 | 6 | 7 | 8 | 9 => exact if_pos dest
  | 0 => rfl
  | m + 10 => rfl

/-- A command for a frame of every station, where it bears destination 31. -/
theorem takenFrame_toAll (k : FrameKind) (c : Instr) (found : kindOf f.level.toNat f.kind.toNat = some k) (dest : f.dest.toNat = 31)
    (h : (k, c) ∈ [(.time, .time t src (payload2 f 0) (payload1 f 2)), (.beacon, .beacon t src (beaconOf f)), (.release, .release t src (releaseOf f)),
      (.claim, .claim t src (claimOf f)), (.survey, .survey t src), (.lineState, .lineState t src (payload1 f 0) (payload1 f 1))]) :
    takenFrame own t src f = c := by
  unfold takenFrame
  rw [found]
  simp only [List.mem_cons, Prod.mk.injEq, List.not_mem_nil, or_false] at h
  rcases h with ⟨rfl, rfl⟩ | ⟨rfl, rfl⟩ | ⟨rfl, rfl⟩ | ⟨rfl, rfl⟩ | ⟨rfl, rfl⟩ | ⟨rfl, rfl⟩ <;> exact if_pos dest

/-- A command for a frame of one station, where it bears the own number. -/
theorem takenFrame_toOwn (k : FrameKind) (c : Instr) (found : kindOf f.level.toNat f.kind.toNat = some k) (dest : f.dest.toNat = own.val)
    (h : (k, c) ∈ [(.flow, .flow t src (payload1 f 0) (payload1 f 1)), (.admitReply, .admitReply t src (replyOf f)),
      (.chargeAck, .chargeAck t src (payload1 f 0)), (.data, .dataOut t src (payload1 f 0) (payload1 f 1) (f.payload.drop 2))]) :
    takenFrame own t src f = c := by
  unfold takenFrame
  rw [found]
  simp only [List.mem_cons, Prod.mk.injEq, List.not_mem_nil, or_false] at h
  rcases h with ⟨rfl, rfl⟩ | ⟨rfl, rfl⟩ | ⟨rfl, rfl⟩ | ⟨rfl, rfl⟩ <;> exact if_pos dest

end

/-! ## Faults, clashes and silence -/

section
variable {t : Moment} {s : State} (running : s.loader = .running)
include running

theorem receiveFault_gives (f : RawFrame) (cut own : Bool) :
    Gives (.receiveFault t f cut own) s
      (if (if cut then !own else !frameWellFormed f) then State.count { s.at t with echo := false } .receiveFaults else s.at t) := by
  have started : (s.at t).started = true := decide_eq_true running
  refine gives_of_eq rfl ?_
  show (if (s.at t).started = true ∧ (if cut then !own else !frameWellFormed f) = true then
    State.count { s.at t with echo := false } .receiveFaults else s.at t) = _
  simp only [started, true_and]

theorem numberClash_gives :
    Gives (.numberClash t) s
      { (s.at t).count .numberClashes with
        echo := false
        clashTimer := some (max s.now t + 60000)
        bus := .silent
        quietTimer := some (max s.now t + 2000)
        streak := if s.bus = .silent then s.streak else 0 } := by
  have started : (s.at t).started = true := decide_eq_true running
  refine gives_of_eq rfl ((if_pos started).trans ?_)
  unfold State.clash
  have bus : (s.at t).bus = s.bus := rfl
  dsimp only
  by_cases silent : s.bus = .silent
  · rw [bus, if_pos silent, if_pos silent]
    exact congrArg (fun b : BusState => { (s.at t).count .numberClashes with
        echo := false, clashTimer := some (max s.now t + 60000), bus := b, quietTimer := some (max s.now t + 2000) }) silent
  · rw [bus, if_neg silent, if_neg silent]
    rfl

end

/-- Settles O45. -/
theorem faultsClashesAndSilence : Obligations.FaultsClashesAndSilence := by
  refine ⟨fun t s => ⟨fun running => ⟨receiveFault_gives running, numberClash_gives running⟩, gives_of_eq rfl rfl,
    fun still => gives_of_eq rfl (if_neg fun h => ?_), fun silent due => ?_⟩, fun own t f => ⟨fun bad => ?_, fun sound source => ?_, ?_⟩,
    fun own t sending f sound => ⟨readBits_frameBits own t sending sound, fun k h => readBits_cut own t sending sound h⟩⟩
  · obtain ⟨silent, due⟩ := h
    rcases still with awake | early
    · exact awake silent
    · rw [show fallenDue (s.at t).quietTimer (s.at t).now = false from early] at due
      cases due
  · refine leads_of_take rfl (if_pos ⟨silent, due⟩) ?_
    obtain ⟨v, hv⟩ : ∃ v : State, v = { s.at t with bus := .joining, quietTimer := none } := ⟨_, rfl⟩
    rw [← hv]
    refine ⟨?_, ?_, settle_keeps_pending _ _ _ _ (raised_pending _ _), ?_, ?_⟩
    · rw [settle_bus, raise_bus, hv]
    · rw [settle_quietTimer, raise_quietTimer, hv]
    · rw [settle_sup, raise_sup, hv]; rfl
    · rw [settle_sign, raise_sign, hv]; rfl
  · unfold readFrame
    dsimp only
    rw [bad]
    rfl
  · unfold readFrame
    dsimp only
    rw [if_pos sound]
    exact if_pos (Fin.ext source)
  · intro sound src source other toAll toOwn
    rw [readFrame_of_sound sound source other]
    refine ⟨fun a b c h payload => ?_, fun ro fr cc cl se so fl fs a b h payload => ?_, fun l x h payload => ?_, fun l a b c d e r h payload => ?_,
      fun l k a b c d e ch h payload => ?_, fun h => ?_, fun l q v c m tb ch a b h payload => ?_, fun k l a b h payload => ?_, fun q h payload => ?_,
      fun tag g h payload => ?_, fun l fl chars h payload => ?_, takenFrame_heard⟩
    · refine takenFrame_toAll .time _ (kindOf_of_codes _ h.1 h.2.1) h.2.2 ?_
      simp [payload1, payload2, payload]
    · refine takenFrame_toAll .beacon _ (kindOf_of_codes _ h.1 h.2.1) h.2.2 ?_
      simp [beaconOf, payload1, payload2, payload]
    · refine takenFrame_toOwn .flow _ (kindOf_of_codes _ h.1 h.2.1) h.2.2 ?_
      simp [payload1, payload]
    · refine takenFrame_toAll .release _ (kindOf_of_codes _ h.1 h.2.1) h.2.2 ?_
      simp [releaseOf, payload1, payload2, payload3, payload]
    · refine takenFrame_toAll .claim _ (kindOf_of_codes _ h.1 h.2.1) h.2.2 ?_
      simp [claimOf, payload1, payload2, payload3, payload]
    · refine takenFrame_toAll .survey _ (kindOf_of_codes _ h.1 h.2.1) h.2.2 ?_
      simp
    · refine takenFrame_toOwn .admitReply _ (kindOf_of_codes _ h.1 h.2.1) h.2.2 ?_
      simp [replyOf, payload1, payload2, payload]
    · exact takenFrame_order (kindOf_of_codes .order h.1 h.2.1) h.2.2 payload
    · refine takenFrame_toOwn .chargeAck _ (kindOf_of_codes _ h.1 h.2.1) h.2.2 ?_
      simp [payload1, payload]
    · refine takenFrame_toAll .lineState _ (kindOf_of_codes _ h.1 h.2.1) h.2.2 ?_
      simp [payload1, payload]
    · refine takenFrame_toOwn .data _ (kindOf_of_codes _ h.1 h.2.1) h.2.2 ?_
      simp [payload1, payload]

end Sys2Proof.Proofs.Receiving
end

section
/-! The CONFIRM requests of an event (R60, R69): the sessions that ask take the next request serials in an order the manual leaves open, each another. -/

namespace Sys2Proof.Proofs.Confirms

open Sys2Proof Sys2Proof.Machine Sys2Proof.Proofs.Lines Sys2Proof.Proofs.Closing Sys2Proof.Proofs.Texts Sys2Proof.Proofs.SessionMoves
open Sys2Proof.Proofs.Reports Sys2Proof.Proofs.Confirmations Sys2Proof.Proofs.OwnEchoes Sys2Proof.Proofs.Strikes

/-! ## Steps in an open order, with what has been done so far -/

theorem freeLines_run {P : List LineNo → State → Prop} {f : LineNo → State → State} {all : List LineNo}
    (draws : ∀ done (s : State) k, P done s → P done { s with draws := k })
    (step : ∀ done n s, n ∉ done → n ∈ all → P done s → P (done ++ [n]) (f n s)) (k : Nat) {ls : List LineNo} (once : ls.Nodup)
    (inside : ∀ n ∈ ls, n ∈ all) (fuel : ls.length < k) {done : List LineNo} (fresh : ∀ n ∈ ls, n ∉ done) {s : State} (h : P done s) :
    ∃ order, order.Perm ls ∧ P (done ++ order) (freeLines k ls f s) := by
  induction k generalizing ls done s with
  | zero => exact absurd fuel (Nat.not_lt_zero _)
  | succ k ih =>
    match ls, once, inside, fuel, fresh with
    | [], _, _, _, _ => exact ⟨[], .nil, by rw [List.append_nil]; exact h⟩
    | [a], _, inside, _, fresh => exact ⟨[a], .refl _, step _ _ _ (fresh a List.mem_cons_self) (inside a List.mem_cons_self) h⟩
    | a :: b :: rest, once, inside, fuel, fresh =>
      simp only [freeLines]
      have perm : (pickFirst s.draws (a :: b :: rest)).Perm (a :: b :: rest) := by
        unfold pickFirst
        exact (List.perm_append_comm).trans (by rw [List.take_append_drop])
      generalize pickFirst s.draws (a :: b :: rest) = picked at perm
      cases picked with
      | nil => exact absurd perm.length_eq (by simp)
      | cons p others =>
        dsimp only
        obtain ⟨out, once'⟩ := List.nodup_cons.mp (perm.nodup_iff.mpr once)
        have mem (n : LineNo) (h : n ∈ p :: others) : n ∈ a :: b :: rest := perm.mem_iff.mp h
        have fuel' : others.length < k := by
          have := perm.length_eq
          simp only [List.length_cons] at this fuel
          omega
        have fresh' : ∀ n ∈ others, n ∉ done ++ [p] := fun n hn done => by
          rcases List.mem_append.mp done with old | new
          · exact fresh n (mem n (List.mem_cons_of_mem _ hn)) old
          · exact out (List.mem_singleton.mp new ▸ hn)
        have next := step done p { s with draws := s.draws + 1 } (fresh p (mem p List.mem_cons_self)) (inside p (mem p List.mem_cons_self)) (draws _ _ _ h)
        obtain ⟨order, hperm, ends⟩ := ih once' (fun n hn => inside n (mem n (List.mem_cons_of_mem _ hn))) fuel' fresh' next
        refine ⟨p :: order, (hperm.cons p).trans perm, ?_⟩
        rwa [List.append_assoc] at ends

theorem inFreeOrder_run {P : List LineNo → State → Prop} {f : LineNo → State → State} {ls : List LineNo} (once : ls.Nodup)
    (draws : ∀ done (s : State) k, P done s → P done { s with draws := k })
    (step : ∀ done n s, n ∉ done → n ∈ ls → P done s → P (done ++ [n]) (f n s)) {s : State} (h : P [] s) :
    ∃ order, order.Perm ls ∧ P order (inFreeOrder ls f s) :=
  freeLines_run draws step (ls.length + 1) once (fun _ h => h) (Nat.lt_succ_self _) (fun _ _ => List.not_mem_nil) h

/-! ## The sessions that ask -/

/-- A session that asks for its confirmation where an accountant is present (R69). -/
def unconfirmed (cfg : Configuration) (x : Session) : Bool :=
  x.provisional && x.reason.isNone && !cfg.noAccountant && (x.confirm.all fun c => c.wait.isNone)

/-- The lines whose sessions ask. -/
def askers (s : State) : List LineNo := allLines.filter fun n => s.sess[n].any (unconfirmed s.cfg)

theorem wantsConfirm_eq {s : State} (present : s.accountantPresent = true) (n : LineNo) : s.wantsConfirm n = s.sess[n].any (unconfirmed s.cfg) := by
  unfold State.wantsConfirm
  cases s.sess[n] with
  | none => rfl
  | some x =>
    simp only [Option.any_some, unconfirmed, present, Bool.and_true]
    have open_ : decide (x.reason = none) = x.reason.isNone := by cases x.reason <;> rfl
    rw [open_]
    cases x.confirm with
    | none => rfl
    | some c =>
      refine congrArg _ ?_
      show decide (c.wait = none) = c.wait.isNone
      cases c.wait <;> rfl

/-- What stands once the lines of a list have asked in turn. -/
structure Asked (s u : State) (wait : Moment) (done : List LineNo) : Prop where
  serial : u.requestSerial = s.requestSerial + BitVec.ofNat 8 done.length
  now : u.now = s.now
  cfg : u.cfg = s.cfg
  asked : ∀ n ∈ done, (u.req (.admitReq n)).pending = true ∧ u.claims[n].admitConfirm = true ∧
    u.sess[n] = s.sess[n].map fun x => { x with confirm := some ⟨s.requestSerial + BitVec.ofNat 8 (done.idxOf n), some wait, false⟩ }
  others : ∀ n, n ∉ done → u.sess[n] = s.sess[n]

theorem Asked.step {s u : State} {done : List LineNo} (h : Asked s u (s.now + 1000 * s.cfg.replyWait) done) {n : LineNo} (fresh : n ∉ done) :
    Asked s (u.raiseConfirm n) (s.now + 1000 * s.cfg.replyWait) (done ++ [n]) := by
  unfold State.raiseConfirm
  dsimp only
  obtain ⟨v, hv⟩ : ∃ v, v = State.updSess { u with requestSerial := u.requestSerial + 1 } n fun x =>
      { x with confirm := some ⟨u.requestSerial, some (u.now + 1000 * u.cfg.replyWait), false⟩ } := ⟨_, rfl⟩
  rw [← hv]
  have claims : v.claims = u.claims := by rw [hv]; unfold State.updSess; split <;> rfl
  have reqs : v.reqs = u.reqs := by rw [hv]; unfold State.updSess; split <;> rfl
  have same : v.now = u.now ∧ v.cfg = u.cfg ∧ v.requestSerial = u.requestSerial + 1 := by
    rw [hv]; unfold State.updSess; split <;> exact ⟨rfl, rfl, rfl⟩
  have sess (m : LineNo) : v.sess[m] =
      if m = n then u.sess[m].map fun x => { x with confirm := some ⟨u.requestSerial, some (u.now + 1000 * u.cfg.replyWait), false⟩ } else u.sess[m] := by
    rw [hv]
    unfold State.updSess
    split
    · next hx =>
      by_cases e : m = n
      · subst e
        rw [if_pos rfl, show u.sess[m] = none from hx]
        rfl
      · rw [if_neg e]
    · next x hx =>
      show (u.sess.set n _)[m] = _
      rw [vector_set_get]
      by_cases e : n = m
      · subst e
        rw [if_pos rfl, if_pos rfl, show u.sess[n] = some x from hx]
        rfl
      · rw [if_neg e, if_neg (Ne.symm e)]
  obtain ⟨now, cfg, serial⟩ := same
  have length : (done ++ [n]).length = done.length + 1 := by simp
  refine ⟨?_, ?_, ?_, fun m hm => ?_, fun m hm => ?_⟩
  · rw [raise_requestSerial]
    show v.requestSerial = _
    rw [serial, h.serial, length, BitVec.ofNat_add, BitVec.add_assoc]
    rfl
  · rw [raise_now]; exact now.trans h.now
  · rw [raise_cfg]; exact cfg.trans h.cfg
  · rw [raise_claims, raise_sess]
    show _ ∧ (v.claims.set n { v.claims[n] with admitConfirm := true })[m].admitConfirm = true ∧ v.sess[m] = _
    rw [sess m]
    rcases List.mem_append.mp hm with old | new
    · have ne : m ≠ n := fun e => fresh (e ▸ old)
      obtain ⟨pending, confirm, asked⟩ := h.asked m old
      rw [if_neg ne, List.idxOf_append_of_mem old, vector_set_get_ne _ _ (Ne.symm ne), claims]
      refine ⟨raise_keeps_pending _ _ _ ?_, confirm, asked⟩
      exact (congrArg (fun q => (reqOf q (.admitReq m)).pending) reqs).trans pending
    · obtain rfl := List.mem_singleton.mp new
      rw [if_pos rfl, vector_set_get_self, List.idxOf_append_of_notMem fresh, h.others m fresh, h.serial, h.now, h.cfg]
      refine ⟨raised_pending _ _, rfl, ?_⟩
      simp
  · have ne : m ≠ n := fun e => hm (List.mem_append_right _ (List.mem_singleton.mpr e))
    rw [raise_sess]
    show v.sess[m] = _
    rw [sess m, if_neg ne]
    exact h.others m fun old => hm (List.mem_append_left _ old)

/-- Every session that asks has asked. -/
theorem raiseConfirms_asked {s : State} (present : s.accountantPresent = true) :
    ∃ order : List LineNo, order.Perm (askers s) ∧ Asked s s.raiseConfirms (s.now + 1000 * s.cfg.replyWait) order := by
  have lines : allLines.filter s.wantsConfirm = askers s := List.filter_congr fun n _ => wantsConfirm_eq present n
  unfold State.raiseConfirms
  rw [lines]
  refine inFreeOrder_run (P := fun order u => Asked s u (s.now + 1000 * s.cfg.replyWait) order) (allLines_nodup.filter _) (fun done u k h => ?_) (fun done n u fresh _ h => h.step fresh) ?_
  · exact ⟨h.serial, h.now, h.cfg, h.asked, h.others⟩
  · exact ⟨by simp, rfl, rfl, nofun, fun _ _ => rfl⟩

/-- With no accountant present nobody asks. -/
theorem raiseConfirms_of_absent {s : State} (absent : s.accountantPresent = false) : s.raiseConfirms = s := by
  have none : allLines.filter s.wantsConfirm = [] := List.filter_eq_nil_iff.mpr fun n _ => by
    unfold State.wantsConfirm
    cases s.sess[n] <;> simp [absent]
  unfold State.raiseConfirms
  rw [none]
  rfl

/-! ## What the event leaves of it -/

/-- What R69 says of the sessions that ask, in the state after the event. -/
def Confirmed (s u : State) (now : Moment) : Prop :=
  u.requestSerial = s.requestSerial + BitVec.ofNat 8 (askers s).length ∧
    ∃ k : LineNo → Nat,
      (∀ n ∈ askers s, k n < (askers s).length) ∧ (∀ n ∈ askers s, ∀ m ∈ askers s, k n = k m → n = m) ∧
        ∀ (n : LineNo) (x : Session), s.sess[n] = some x → unconfirmed s.cfg x = true →
          (u.req (.admitReq n)).pending = true ∧ u.claims[n].admitConfirm = true ∧
            ∃ y : Session, u.sess[n] = some y ∧ (x.endMark = false → y.reason = none) ∧
              (y.reason = none →
                y.confirm = some ⟨s.requestSerial + BitVec.ofNat 8 (k n), some (now + 1000 * s.cfg.replyWait), false⟩)

theorem endedAt_open {drained : Bool} {st : LineState} {x : Session} (h : (endedAt drained st x).reason = none) : endedAt drained st x = x := by
  unfold endedAt at h ⊢
  split
  · next closes =>
    rw [if_pos closes] at h
    unfold closedBy at h ⊢
    split
    · next open_ =>
      rw [if_pos open_] at h
      cases h
    · rfl
  · rfl

/-- The closing work leaves the confirmation asked for, unless END closes the session. -/
theorem settle_confirm {s : State} (started : s.started = true) (before : State) (every : Bool) {n : LineNo} {x : Session} (hx : s.sess[n] = some x) :
    ∃ y, (s.settle before every).sess[n] = some y ∧ (x.endMark = false → y.reason = x.reason) ∧ (y.reason = none → y.confirm = x.confirm) := by
  refine ⟨_, (settle_report started before every n).1.trans (congrArg (Option.map _) hx), ?_, fun open_ => ?_⟩
  · intro mark
    dsimp only
    obtain ⟨hold, held, e⟩ := sameButHold_holdTest s x
    rw [e, endedAt_of_no_end (x := { x with hold := hold, held := held }) mark]
  · dsimp only at open_ ⊢
    obtain ⟨hold, held, e⟩ := sameButHold_holdTest s x
    rw [endedAt_open open_, e]

/-- The sessions of a state that differ from those before the event in their holds at most. -/
def SessionsBut (s v : State) : Prop := ∀ n : LineNo, Option.Rel SameButHold s.sess[n] v.sess[n]

theorem unconfirmed_sameButHold {cfg : Configuration} {x y : Session} (h : SameButHold x y) : unconfirmed cfg y = unconfirmed cfg x := by
  obtain ⟨_, _, rfl⟩ := h
  rfl

theorem askers_sameButHold {s v : State} (sessions : SessionsBut s v) (cfg : v.cfg = s.cfg) : askers v = askers s := by
  refine List.filter_congr fun n _ => ?_
  rw [cfg]
  have rel := sessions n
  generalize s.sess[n] = a at rel ⊢
  generalize v.sess[n] = b at rel ⊢
  cases rel with
  | none => rfl
  | some h => exact unconfirmed_sameButHold h

/-- The lines of an event asked as R69 says: `v` stands before they ask, `w` after, in which no more than the blocks of `Asked` count. -/
theorem confirmed_of_asked {s v w : State} {t : Moment} (sessions : SessionsBut s v) (serial : v.requestSerial = s.requestSerial) (now : v.now = max s.now t)
    (cfg : v.cfg = s.cfg) (present : v.accountantPresent = true) (started : w.started = true)
    (same : w.sess = v.raiseConfirms.sess ∧ w.claims = v.raiseConfirms.claims ∧ w.reqs = v.raiseConfirms.reqs ∧
      w.requestSerial = v.raiseConfirms.requestSerial) (before : State) (every : Bool) :
    Confirmed s (w.settle before every) (max s.now t) := by
  obtain ⟨order, perm, asked⟩ := raiseConfirms_asked present
  obtain ⟨wSess, wClaims, wReqs, wSerial⟩ := same
  have lines := askers_sameButHold sessions cfg
  rw [lines] at perm
  refine ⟨?_, order.idxOf, fun n hn => ?_, fun n hn m _ e => ?_, fun n x hx asks => ?_⟩
  · rw [settle_requestSerial, wSerial, asked.serial, serial, perm.length_eq]
  · rw [← perm.length_eq]
    exact List.idxOf_lt_length_of_mem (perm.mem_iff.mpr hn)
  · exact (List.idxOf_inj (perm.mem_iff.mpr hn)).mp e
  · have mem : n ∈ order := perm.mem_iff.mpr (List.mem_filter.mpr ⟨mem_allLines n, by rw [hx]; exact asks⟩)
    obtain ⟨pending, confirm, sess⟩ := asked.asked n mem
    have rel := sessions n
    rw [hx] at rel
    obtain ⟨x', hx', hold, held, rfl⟩ : ∃ x', v.sess[n] = some x' ∧ SameButHold x x' := by
      generalize v.sess[n] = b at rel
      cases rel with
      | some h => exact ⟨_, rfl, h⟩
    rw [hx'] at sess
    obtain ⟨y, hy, reason, confirmed⟩ := settle_confirm started before every (n := n) (by rw [wSess]; exact sess)
    have open_ : x.reason = none := by
      simp only [unconfirmed, Bool.and_eq_true, Option.isNone_iff_eq_none] at asks
      exact asks.1.1.2
    refine ⟨settle_keeps_pending _ _ _ _ ?_, ?_, y, hy, fun mark => (reason mark).trans open_, fun still => ?_⟩
    · exact (congrArg (fun q => (reqOf q (.admitReq n)).pending) wReqs).trans pending
    · rw [settle_claims, wClaims]
      exact confirm
    · rw [confirmed still, serial, now, cfg]

end Sys2Proof.Proofs.Confirms
end

section
/-! Requests raised for many lines at one event, and how many of them are coalesced (R156). -/

namespace Sys2Proof.Proofs.Raises

open Sys2Proof Sys2Proof.Machine Sys2Proof.Proofs.Lines Sys2Proof.Proofs.Closing Sys2Proof.Proofs.Texts Sys2Proof.Proofs.SessionMoves
open Sys2Proof.Proofs.OwnEchoes Sys2Proof.Proofs.Strikes

/-- A request for each line that calls for one. -/
def raiseIf (g : LineNo → Option ReqId) (n : LineNo) (s : State) : State :=
  match g n with
  | some i => s.raise i
  | none => s

/-- A state with other requests and another count of coalesced ones. -/
def withReqs (s : State) (q : List (ReqId × Req)) (c : Nat) : State := { s with reqs := q, counters := { s.counters with requestsCoalesced := c } }

theorem raise_withReqs (s : State) (i : ReqId) : ∃ q, s.raise i = withReqs s q (if (s.req i).pending then sat16 s.counters.requestsCoalesced else s.counters.requestsCoalesced) := by
  unfold State.raise
  split
  · exact ⟨s.reqs, rfl⟩
  · exact ⟨_, rfl⟩

/-- What is counted of the requests raised for the lines of a list, where no two lines have one request. -/
def coalescedBy (g : LineNo → Option ReqId) (ls : List LineNo) (s : State) : Nat :=
  (ls.filter fun n => (g n).any fun i => (s.req i).pending).foldl (fun k _ => sat16 k) s.counters.requestsCoalesced

/-- The requests raised for the lines of a list. -/
theorem eachLine_raiseIf (g : LineNo → Option ReqId) (ls : List LineNo) (s : State) :
    ∃ q c, eachLine ls (raiseIf g) s = withReqs s q c ∧
      (∀ j, reqOf q j = if ∃ n ∈ ls, g n = some j then { s.req j with pending := true } else s.req j) ∧
      (ls.Nodup → (∀ n m i, g n = some i → g m = some i → n = m) → c = coalescedBy g ls s) := by
  induction ls generalizing s with
  | nil => exact ⟨s.reqs, s.counters.requestsCoalesced, rfl, fun j => by rw [if_neg (by simp)]; rfl, fun _ _ => rfl⟩
  | cons n ls ih =>
    obtain ⟨q, c, e, req, count⟩ := ih (raiseIf g n s)
    show ∃ q c, eachLine ls (raiseIf g) (raiseIf g n s) = _ ∧ _
    cases hg : g n with
    | none =>
      have same : raiseIf g n s = s := by unfold raiseIf; rw [hg]
      rw [same] at e req count
      rw [same]
      refine ⟨q, c, e, fun j => ?_, fun once apart => ?_⟩
      · rw [req j]
        simp [hg]
      · rw [count (List.nodup_cons.mp once).2 apart]
        unfold coalescedBy
        rw [List.filter_cons_of_neg (by simp [hg])]
    | some i =>
      have raised : raiseIf g n s = s.raise i := by unfold raiseIf; rw [hg]
      obtain ⟨q', e'⟩ := raise_withReqs s i
      rw [raised] at e req count
      rw [raised]
      refine ⟨q, c, ?_, fun j => ?_, fun once apart => ?_⟩
      · rw [e, e']; rfl
      · rw [req j, req_raise]
        by_cases later : ∃ m ∈ ls, g m = some j
        · rw [if_pos later, if_pos (later.imp fun m h => ⟨List.mem_cons_of_mem _ h.1, h.2⟩)]
          by_cases same : j = i
          · rw [if_pos same, same]
          · rw [if_neg same]
        · rw [if_neg later]
          by_cases same : j = i
          · rw [if_pos same, if_pos ⟨n, List.mem_cons_self, by rw [hg, same]⟩, same]
          · have absent : ¬∃ m ∈ n :: ls, g m = some j := fun ⟨m, hm, h⟩ => by
              rcases List.mem_cons.mp hm with rfl | hm
              · rw [hg] at h
                exact same (Option.some.inj h).symm
              · exact later ⟨m, hm, h⟩
            rw [if_neg same, if_neg absent]
      · obtain ⟨out, once'⟩ := List.nodup_cons.mp once
        rw [count once' apart]
        unfold coalescedBy
        have others : (ls.filter fun m => (g m).any fun j => ((s.raise i).req j).pending) = ls.filter fun m => (g m).any fun j => (s.req j).pending := by
          refine List.filter_congr fun m hm => ?_
          cases hgm : g m with
          | none => rfl
          | some j =>
            have ne : j ≠ i := fun e => out (apart n m i hg (by rw [hgm, e]) ▸ hm)
            show ((s.raise i).req j).pending = (s.req j).pending
            rw [req_raise, if_neg ne]
        rw [others, e']
        cases pending : (s.req i).pending with
        | true =>
          rw [List.filter_cons_of_pos (by rw [hg]; exact pending)]
          rfl
        | false =>
          rw [List.filter_cons_of_neg (by rw [hg]; simp [pending])]
          rfl

/-- Two operations that do the same in every state that a list of lines comes through. -/
theorem eachLine_congr {f g : LineNo → State → State} {I : State → Prop} (same : ∀ n u, I u → f n u = g n u) (keeps : ∀ n u, I u → I (g n u))
    (ls : List LineNo) {s : State} (h : I s) : eachLine ls f s = eachLine ls g s := by
  induction ls generalizing s with
  | nil => rfl
  | cons n ls ih =>
    show eachLine ls f (f n s) = eachLine ls g (g n s)
    rw [same n s h]
    exact ih (keeps n s h)

/-- What a raised request leaves, each of these operations leaves. -/
theorem raiseIf_keeps {α : Type} {F : State → α} (hF : ∀ s i, F (State.raise s i) = F s) (g : LineNo → Option ReqId) (n : LineNo) (s : State) :
    F (raiseIf g n s) = F s := by
  unfold raiseIf
  split
  · exact hF s _
  · rfl

/-! ## The operations of a refresh and of a survey that raise requests -/

/-- The LINE-STATE requests of a list's lines (R129). -/
def announcing (before : State) (every : Bool) (v : State) (n : LineNo) : Option ReqId :=
  if every || decide (before.signals n ≠ v.signals n) then v.cfg.tags[n].map .lineState else none

theorem eachLine_raiseLineState (before : State) (every : Bool) (ls : List LineNo) (v : State) :
    eachLine ls (State.raiseLineState before every) v = eachLine ls (raiseIf (announcing before every v)) v := by
  refine eachLine_congr (I := fun u => u.signals = v.signals ∧ u.cfg = v.cfg) (fun n u ⟨signals, cfg⟩ => ?_) (fun n u ⟨signals, cfg⟩ => ?_) ls ⟨rfl, rfl⟩
  · unfold State.raiseLineState raiseIf announcing
    rw [signals, cfg]
    cases v.cfg.tags[n] with
    | none => cases every || decide (before.signals n ≠ v.signals n) <;> rfl
    | some tag => cases every || decide (before.signals n ≠ v.signals n) <;> rfl
  · exact ⟨(raiseIf_keeps (F := State.signals) (fun s i => (signals_raise s i).1) _ n u).trans signals,
      (raiseIf_keeps (F := State.cfg) (fun s i => (signals_raise s i).2) _ n u).trans cfg⟩

theorem announcing_apart {before v : State} {every : Bool} (tags : crossOk v.cfg) (n m : LineNo) (i : ReqId) (hn : announcing before every v n = some i)
    (hm : announcing before every v m = some i) : n = m := by
  unfold announcing at hn hm
  split at hn
  · split at hm
    · by_contra ne
      obtain ⟨tag, htag, e⟩ := Option.map_eq_some_iff.mp hn
      obtain ⟨tag', htag', e'⟩ := Option.map_eq_some_iff.mp hm
      rw [← e'] at e
      cases e
      rcases tags.1 n m ne with none | differ
      · rw [none] at htag; cases htag
      · exact differ (htag.trans htag'.symm)
    · cases hm
  · cases hn

/-- The CLAIM requests of the lines in SESSION (R83). -/
def reclaiming (v : State) (n : LineNo) : Option ReqId := if v.st n = .session then some (.claim n) else none

theorem eachLine_reclaim (ls : List LineNo) (v : State) : eachLine ls (State.reclaim false) v = eachLine ls (raiseIf (reclaiming v)) v := by
  refine eachLine_congr (I := fun u => ∀ n, u.st n = v.st n) (fun n u h => ?_) (fun n u h m => ?_) ls fun _ => rfl
  · unfold State.reclaim raiseIf reclaiming
    rw [h n]
    by_cases session : v.st n = .session
    · rw [if_pos session, if_pos session]; rfl
    · rw [if_neg session, if_neg session]
  · exact (raiseIf_keeps (F := fun s => s.st m) (fun s i => raise_st s i m) _ n u).trans (h m)

/-- The FLOW requests of the lines in SESSION whose state is HOLD (R42). -/
def reflowing (v : State) (n : LineNo) : Option ReqId := if v.st n = .session ∧ v.path[n].flow = some .hold then some (.flow n) else none

theorem eachLine_reflow (ls : List LineNo) (v : State) : eachLine ls State.reflow v = eachLine ls (raiseIf (reflowing v)) v := by
  refine eachLine_congr (I := fun u => u.path = v.path ∧ ∀ n, u.st n = v.st n) (fun n u ⟨path, st⟩ => ?_) (fun n u ⟨path, st⟩ => ?_) ls ⟨rfl, fun _ => rfl⟩
  · unfold State.reflow raiseIf reflowing
    rw [path, st n]
    by_cases held : v.st n = .session ∧ v.path[n].flow = some .hold
    · rw [if_pos held, if_pos held]
    · rw [if_neg held, if_neg held]
  · exact ⟨(raiseIf_keeps (F := State.path) raise_path _ n u).trans path,
      fun m => (raiseIf_keeps (F := fun s => s.st m) (fun s i => raise_st s i m) _ n u).trans (st m)⟩

/-! ## The closing work where no line is on a call -/

/-- The FLOW states, each of whose requests is raised once. -/
theorem updateFlows_once {ls : List LineNo} (once : ls.Nodup) {v : State} (idle : ∀ n ∈ ls, (v.req (.flow n)).pending = false) :
    (eachLine ls State.updateFlow v).counters = v.counters ∧ ∀ i, (∀ n, i ≠ .flow n) → (eachLine ls State.updateFlow v).req i = v.req i := by
  induction ls generalizing v with
  | nil => exact ⟨rfl, fun _ _ => rfl⟩
  | cons n ls ih =>
    obtain ⟨out, once'⟩ := List.nodup_cons.mp once
    have step : (State.updateFlow n v).counters = v.counters ∧ ∀ i, i ≠ .flow n → (State.updateFlow n v).req i = v.req i := by
      unfold State.updateFlow
      split
      · exact ⟨rfl, fun _ _ => rfl⟩
      · refine ⟨?_, fun i ne => ?_⟩
        · unfold State.raise
          exact (congrArg State.counters (if_neg (Bool.eq_false_iff.mp (idle n List.mem_cons_self)))).trans rfl
        · rw [req_raise, if_neg ne]
          rfl
    obtain ⟨counters, req⟩ := step
    obtain ⟨counters', req'⟩ := ih once' (v := State.updateFlow n v) fun m hm => by
      rw [req _ fun e => out (ReqId.flow.inj e ▸ hm)]
      exact idle m (List.mem_cons_of_mem _ hm)
    exact ⟨counters'.trans counters, fun i ne => (req' i ne).trans (req i (ne n))⟩

/-- An event that announces every line: where no line has a session and no offer is to be made, what is coalesced are the LINE-STATE requests that are
pending already. -/
theorem settle_every_coalesced {v : State} (running : v.loader = .running) (none : ∀ n : LineNo, v.sess[n] = none) (offers : OffersOk v)
    (idle : ∀ n, (v.req (.flow n)).pending = false) (tags : crossOk v.cfg) (before : State) :
    (v.settle before true).counters.requestsCoalesced =
      (allLines.filter fun n => v.cfg.tags[n].any fun tag => (v.req (.lineState tag)).pending).foldl (fun k _ => sat16 k) v.counters.requestsCoalesced := by
  have started : v.started = true := decide_eq_true running
  have holds : ∀ n, v.entersHold n = false := fun n => by unfold State.entersHold; rw [none n]
  have toServed : toServe v = { v with sess := mapTable v.sess fun _ x => x.map v.holdTest } := by
    unfold toServe
    rw [testHold_of_none holds]
    exact updateOffers_of_ok (s := { v with sess := mapTable v.sess fun _ x => x.map v.holdTest }) offers running
  have servedReq (i : ReqId) : (served v).req i = v.req i := by
    rw [served_eq]
    exact (serve_keeps (g := fun u => u.req i) (fun _ _ _ _ => rfl) (fun _ _ => rfl) _ _).trans (by rw [toServed]; rfl)
  have servedCounters : (served v).counters = v.counters := by
    rw [served_eq]
    exact (serve_keeps (g := State.counters) (fun _ _ _ _ => rfl) (fun _ _ => rfl) _ _).trans (by rw [toServed])
  obtain ⟨flowCounters, flowReq⟩ := updateFlows_once allLines_nodup (v := served v) fun n _ => by rw [servedReq]; exact idle n
  have reportedReq (i : ReqId) : (reported v).req i = (flowed v).req i :=
    eachLine_keeps (fun u => u.req i) _ (reportDrained_keeps (g := fun u => u.req i) (closeCause_req i) fun _ _ => rfl) _ _
  have reportedCounters : (reported v).counters = (flowed v).counters :=
    eachLine_keeps State.counters _ (reportDrained_keeps (g := State.counters) closeCause_counters fun _ _ => rfl) _ _
  have keptReported : (reported v).kept = v.kept := by
    refine eachLine_induction (fun u => u.kept = v.kept) _ (fun n u h => (kept_reportDrained n u).trans h) _ _ ?_
    refine eachLine_induction (fun u => u.kept = v.kept) _ (fun n u h => (kept_updateFlow n u).trans h) _ _ ?_
    exact (kept_serve _ _).trans ((kept_updateOffers _).trans (kept_testHold v))
  have still : forwarded before v = reported v := by
    refine eachLine_induction (fun u => u = reported v) _ (fun n u h => ?_) _ _ rfl
    have wants : u.wantsDataIn n = false := by
      rw [h, wantsDataIn_of_kept keptReported]
      unfold State.wantsDataIn State.forwardingBlocked
      rw [none n]
      simp
    unfold State.raiseDataIn
    rw [wants, Bool.false_and, if_neg Bool.false_ne_true]
    exact h
  have cfg : (reported v).cfg = v.cfg := eq_of_kept_cfg keptReported
  rw [settle_of_started started, still, eachLine_raiseLineState]
  obtain ⟨q, c, e, -, count⟩ := eachLine_raiseIf (announcing before true (reported v)) allLines (reported v)
  rw [e]
  refine (count allLines_nodup (announcing_apart (by rw [cfg]; exact tags))).trans ?_
  unfold coalescedBy
  have counters : (reported v).counters = v.counters := reportedCounters.trans (flowCounters.trans servedCounters)
  rw [counters]
  refine congrArg (fun ls : List LineNo => ls.foldl (fun k _ => sat16 k) v.counters.requestsCoalesced) (List.filter_congr fun n _ => ?_)
  unfold announcing
  rw [cfg, Bool.true_or, if_pos rfl]
  cases v.cfg.tags[n] with
  | none => rfl
  | some tag =>
    show ((reported v).req (.lineState tag)).pending = (v.req (.lineState tag)).pending
    rw [reportedReq]
    exact congrArg Req.pending ((flowReq _ fun _ h => (by cases h)).trans (servedReq _))

end Sys2Proof.Proofs.Raises
end

section
/-! Surveys and periods (R42, R80, R82, R83, R87, R127, R129, R133, R161): what a refresh period does to the two tables in either order, what a survey and
a refresh raise, and what a beacon period ages. -/

namespace Sys2Proof.Proofs.Periods

open Sys2Proof Sys2Proof.Machine Sys2Proof.Proofs.Lines Sys2Proof.Proofs.Closing Sys2Proof.Proofs.Texts Sys2Proof.Proofs.SessionMoves
open Sys2Proof.Proofs.OwnEchoes Sys2Proof.Proofs.Strikes Sys2Proof.Proofs.Confirms Sys2Proof.Proofs.Raises Sys2Proof.Proofs.Confirmations
open Sys2Proof.Proofs.Commands Sys2Proof.Proofs.Frames Sys2Proof.Proofs.Roster Sys2Proof.Proofs.Presence Sys2Proof.Proofs.Clock Sys2Proof.Proofs.Orders

/-! ## The presence ageing (R83) -/

/-- The presence entries that stay at a refresh period. -/
def renewed (ps : List Presence) : List Presence := (ps.map fun e => { e with age := e.age + 1 }).filter fun e => e.age < 3

/-- The count of aged-out entries after a refresh period. -/
def agedOut (ps : List Presence) (k : Nat) : Nat := (ps.filter fun e => 3 ≤ e.age + 1).foldl (fun k _ => sat16 k) k

theorem count_agedOut (ps : List Presence) (s : State) :
    ps.foldl (fun s _ => s.count .agedOutEntries) s =
      { s with counters := { s.counters with agedOutEntries := ps.foldl (fun k _ => sat16 k) s.counters.agedOutEntries } } := by
  induction ps generalizing s with
  | nil => rfl
  | cons p ps ih => rw [List.foldl_cons, ih]; rfl

theorem agePresence_eq (s : State) :
    s.agePresence =
      { s with presence := renewed s.presence, counters := { s.counters with agedOutEntries := agedOut s.presence s.counters.agedOutEntries } } := by
  have old : ((aged s.presence).filter fun e => 3 ≤ e.age).foldl (fun k _ => sat16 k) s.counters.agedOutEntries =
      agedOut s.presence s.counters.agedOutEntries := by
    unfold aged agedOut
    rw [List.filter_map, List.foldl_map]
    rfl
  unfold State.agePresence
  dsimp only
  rw [count_agedOut]
  exact congrArg (fun k => { s with presence := renewed s.presence, counters := { s.counters with agedOutEntries := k } }) old

/-- The lines whose signals the presence ageing changes, with the slots as given. -/
def ageingChanges (s : State) (slots : Vector SlotState 32) (n : LineNo) : Prop :=
  State.signals { s with presence := renewed s.presence, slots := slots } n ≠ State.signals { s with slots := slots } n

/-- A state after the presence ageing: its requests and counters. -/
def presenceAged (s : State) (q : List (ReqId × Req)) (c : Nat) : State :=
  { s with
    presence := renewed s.presence
    reqs := q
    counters := { s.counters with agedOutEntries := agedOut s.presence s.counters.agedOutEntries, requestsCoalesced := c } }

/-- What the presence ageing raises: a CLAIM for every line in SESSION, and, where nothing was pending and no line is in SESSION, the LINE-STATE requests of
the lines it changes and no other. -/
structure AgeingRaises (s : State) (slots : Vector SlotState 32) (q : List (ReqId × Req)) (c : Nat) : Prop where
  claims : ∀ n, s.st n = .session → (reqOf q (.claim n)).pending = true
  quiet : s.reqs = [] → (∀ n, s.st n ≠ .session) → crossOk s.cfg →
    c = s.counters.requestsCoalesced ∧ (∀ n, (reqOf q (.flow n)).pending = false) ∧
      ∀ n tag, s.cfg.tags[n] = some tag → ((reqOf q (.lineState tag)).pending = true ↔ ageingChanges s slots n)

theorem announcing_iff {before v : State} {n : LineNo} {i : ReqId} :
    announcing before false v n = some i ↔ before.signals n ≠ v.signals n ∧ ∃ tag, v.cfg.tags[n] = some tag ∧ .lineState tag = i := by
  unfold announcing
  simp only [Bool.false_or, decide_eq_true_eq]
  split
  · next changed => rw [Option.map_eq_some_iff]; exact ⟨fun h => ⟨changed, h⟩, fun h => h.2⟩
  · next same => exact ⟨nofun, fun h => absurd h.1 same⟩

theorem refreshPresence_eq (s : State) : ∃ q c, s.refreshPresence = presenceAged s q c ∧ AgeingRaises s s.slots q c := by
  unfold State.refreshPresence
  dsimp only
  rw [eachLine_reclaim, agePresence_eq]
  obtain ⟨q, c, e, req, count⟩ := eachLine_raiseIf (reclaiming (presenceAged s s.reqs s.counters.requestsCoalesced)) allLines
    (presenceAged s s.reqs s.counters.requestsCoalesced)
  have first : eachLine allLines (raiseIf (reclaiming (presenceAged s s.reqs s.counters.requestsCoalesced)))
      (presenceAged s s.reqs s.counters.requestsCoalesced) = presenceAged s q c := e
  show ∃ q c, eachLine allLines (State.raiseLineState s false) (eachLine allLines (raiseIf (reclaiming (presenceAged s s.reqs s.counters.requestsCoalesced)))
      (presenceAged s s.reqs s.counters.requestsCoalesced)) = _ ∧ _
  rw [first, eachLine_raiseLineState]
  obtain ⟨q', c', e', req', count'⟩ := eachLine_raiseIf (announcing s false (presenceAged s q c)) allLines (presenceAged s q c)
  refine ⟨q', c', e', fun n session => ?_, fun empty none tags => ?_⟩
  · rw [req']
    split
    · rfl
    · show (reqOf q (.claim n)).pending = true
      rw [req, if_pos ⟨n, mem_allLines n, if_pos session⟩]
  · have nobody (n : LineNo) : reclaiming (presenceAged s s.reqs s.counters.requestsCoalesced) n = Option.none := if_neg (none n)
    have idle (j : ReqId) : reqOf q j = Req.idle := by
      rw [req, if_neg]
      · show reqOf s.reqs j = _
        rw [empty]
        rfl
      · rintro ⟨n, -, h⟩
        rw [nobody] at h
        cases h
    have noneReclaimed : c = s.counters.requestsCoalesced := by
      rw [count allLines_nodup fun n m i hn hm => by rw [nobody] at hn; cases hn]
      unfold coalescedBy
      rw [List.filter_eq_nil_iff.mpr fun n _ => by rw [nobody]; simp]
      rfl
    have noneCoalesced : c' = c := by
      rw [count' allLines_nodup fun n m i hn hm => announcing_apart (v := presenceAged s q c) tags n m i hn hm]
      unfold coalescedBy
      rw [List.filter_eq_nil_iff.mpr fun n _ => ?_]
      · rfl
      · have pending (j : ReqId) : ((presenceAged s q c).req j).pending = false := congrArg Req.pending (idle j)
        cases announcing s false (presenceAged s q c) n with
        | none => simp
        | some j => simp [pending]
    refine ⟨noneCoalesced.trans noneReclaimed, fun n => ?_, fun n tag htag => ?_⟩
    · rw [req', if_neg]
      · exact congrArg Req.pending (idle _)
      · rintro ⟨m, -, h⟩
        obtain ⟨-, tag, -, e⟩ := announcing_iff.mp h
        cases e
    · rw [req']
      have changes (m : LineNo) : s.signals m ≠ (presenceAged s q c).signals m ↔ ageingChanges s s.slots m := ne_comm
      constructor
      · intro pending
        split at pending
        · next found =>
          obtain ⟨m, -, h⟩ := found
          obtain ⟨changed, tag', htag', e⟩ := announcing_iff.mp h
          cases e
          have same : m = n := by
            by_contra ne
            rcases tags.1 m n ne with none' | differ
            · rw [show s.cfg.tags[m] = some tag from htag'] at none'; cases none'
            · exact differ ((show s.cfg.tags[m] = some tag from htag').trans htag.symm)
          subst same
          exact (changes m).mp changed
        · rw [show ((presenceAged s q c).req (.lineState tag)) = Req.idle from idle _] at pending
          cases pending
      · intro changed
        rw [if_pos ⟨n, mem_allLines n, announcing_iff.mpr ⟨(changes n).mpr changed, tag, htag, rfl⟩⟩]

/-- A state after both tables have taken the refresh expiry (R83, R133). -/
def tablesAged (s : State) (q : List (ReqId × Req)) (c d : Nat) : State := { presenceAged s q c with slots := s.ageSlots.slots, draws := d }

theorem refreshTables_eq (s : State) :
    ∃ q c d, ∃ slots ∈ [s.slots, s.ageSlots.slots], s.refreshTables = tablesAged s q c d ∧ AgeingRaises s slots q c := by
  obtain ⟨q, c, e, raises⟩ := refreshPresence_eq s
  obtain ⟨q', c', e', raises'⟩ := refreshPresence_eq s.ageSlots
  have a : s.refreshPresence.ageSlots = tablesAged s q c s.draws := by rw [e]; rfl
  have b : s.ageSlots.refreshPresence = tablesAged s q' c' s.draws := e'
  have second : AgeingRaises s s.ageSlots.slots q' c' := ⟨raises'.claims, raises'.quiet⟩
  unfold State.refreshTables
  dsimp only
  rw [a, b]
  split
  · exact ⟨q, c, _, s.slots, List.mem_cons_self, rfl, raises⟩
  · split
    · exact ⟨q, c, s.draws + 1, s.slots, List.mem_cons_self, rfl, raises⟩
    · exact ⟨q', c', s.draws + 1, s.ageSlots.slots, List.mem_cons_of_mem _ List.mem_cons_self, rfl, second⟩

theorem ageSlots_get (s : State) {i : Fin 32} {tag : Fin 64} (source : s.cfg.slots[i].source = .tag tag) :
    s.ageSlots.slots[i].value = s.slots[i].value ∧ s.ageSlots.slots[i].age = min 3 (s.slots[i].age + 1) := by
  unfold State.ageSlots
  dsimp only
  rw [mapTable_get, source]
  exact ⟨rfl, rfl⟩

/-! ## What an event that announces every line raises (R129) -/

theorem settle_every_announced {v : State} (started : v.started = true) (before : State) {n : LineNo} {tag : Fin 64} (h : v.cfg.tags[n] = some tag) :
    ((v.settle before true).req (.lineState tag)).pending = true := by
  have kept : (forwarded before v).kept = v.kept := by
    refine eachLine_induction (fun u => u.kept = v.kept) _ (fun n u h => (kept_raiseDataIn before n u).trans h) _ _ ?_
    refine eachLine_induction (fun u => u.kept = v.kept) _ (fun n u h => (kept_reportDrained n u).trans h) _ _ ?_
    refine eachLine_induction (fun u => u.kept = v.kept) _ (fun n u h => (kept_updateFlow n u).trans h) _ _ ?_
    exact (kept_serve _ _).trans ((kept_updateOffers _).trans (kept_testHold v))
  have cfg : (forwarded before v).cfg = v.cfg := eq_of_kept_cfg kept
  rw [settle_of_started started, eachLine_raiseLineState]
  obtain ⟨q, c, e, req, -⟩ := eachLine_raiseIf (announcing before true (forwarded before v)) allLines (forwarded before v)
  rw [e]
  show (reqOf q (.lineState tag)).pending = true
  have tagged : announcing before true (forwarded before v) n = some (.lineState tag) := by
    unfold announcing
    rw [cfg, h]
    rfl
  rw [req, if_pos ⟨n, mem_allLines n, tagged⟩]

/-! ## Refresh -/

/-- The state of a refresh before the confirmations are asked for. -/
def reannounced (s : State) : State := eachLine allLines State.reflow (State.refreshTables { s with refreshTimer := some (s.now + 1000 * s.cfg.refreshPeriod) })

/-- What stands before the confirmations of a refresh are asked for. -/
structure Reannounced (s u : State) (slots : Vector SlotState 32) : Prop where
  same : ∃ q c d, u =
    { s with
      refreshTimer := some (s.now + 1000 * s.cfg.refreshPeriod)
      presence := renewed s.presence
      slots := s.ageSlots.slots
      draws := d
      reqs := q
      counters := { s.counters with agedOutEntries := agedOut s.presence s.counters.agedOutEntries, requestsCoalesced := c } }
  claims : ∀ n, s.st n = .session → (u.req (.claim n)).pending = true
  flows : ∀ n : LineNo, s.st n = .session → s.path[n].flow = some .hold → (u.req (.flow n)).pending = true
  quiet : s.reqs = [] → (∀ n, s.st n ≠ .session) → crossOk s.cfg →
    u.counters.requestsCoalesced = s.counters.requestsCoalesced ∧ (∀ n, (u.req (.flow n)).pending = false) ∧
      ∀ (n : LineNo) tag, s.cfg.tags[n] = some tag → ((u.req (.lineState tag)).pending = true ↔ ageingChanges s slots n)

theorem reannounced_spec (s : State) : ∃ slots ∈ [s.slots, s.ageSlots.slots], Reannounced s (reannounced s) slots := by
  obtain ⟨q, c, d, slots, hslots, e, raises⟩ := refreshTables_eq { s with refreshTimer := some (s.now + 1000 * s.cfg.refreshPeriod) }
  refine ⟨slots, hslots, ?_⟩
  unfold reannounced
  rw [e, eachLine_reflow]
  obtain ⟨q', c', e', req, -⟩ := eachLine_raiseIf
    (reflowing (tablesAged { s with refreshTimer := some (s.now + 1000 * s.cfg.refreshPeriod) } q c d)) allLines
    (tablesAged { s with refreshTimer := some (s.now + 1000 * s.cfg.refreshPeriod) } q c d)
  have reqs (j : ReqId) : (eachLine allLines
      (raiseIf (reflowing (tablesAged { s with refreshTimer := some (s.now + 1000 * s.cfg.refreshPeriod) } q c d)))
      (tablesAged { s with refreshTimer := some (s.now + 1000 * s.cfg.refreshPeriod) } q c d)).req j = reqOf q' j := by rw [e']; rfl
  refine ⟨⟨q', c', d, e'⟩, fun n session => ?_, fun n session hold => ?_, fun empty none tags => ?_⟩
  · rw [reqs, req]
    split
    · rfl
    · exact raises.claims n session
  · have flowing : reflowing (tablesAged { s with refreshTimer := some (s.now + 1000 * s.cfg.refreshPeriod) } q c d) n = some (.flow n) :=
      if_pos ⟨session, hold⟩
    rw [reqs, req, if_pos ⟨n, mem_allLines n, flowing⟩]
  · obtain ⟨count, flows, tagged⟩ := raises.quiet empty none tags
    have nobody (n : LineNo) : reflowing (tablesAged { s with refreshTimer := some (s.now + 1000 * s.cfg.refreshPeriod) } q c d) n = Option.none :=
      if_neg fun h => none n h.1
    have still : eachLine allLines
        (raiseIf (reflowing (tablesAged { s with refreshTimer := some (s.now + 1000 * s.cfg.refreshPeriod) } q c d)))
        (tablesAged { s with refreshTimer := some (s.now + 1000 * s.cfg.refreshPeriod) } q c d) =
        tablesAged { s with refreshTimer := some (s.now + 1000 * s.cfg.refreshPeriod) } q c d := by
      refine eachLine_induction (fun u => u = _) _ (fun n u h => ?_) _ _ rfl
      rw [h]
      unfold raiseIf
      rw [nobody]
    rw [still]
    exact ⟨count, flows, tagged⟩

theorem raiseConfirms_pending (s : State) {i : ReqId} (h : (s.req i).pending = true) : (s.raiseConfirms.req i).pending = true := by
  have one (n : LineNo) (u : State) (h : (u.req i).pending = true) : ((u.raiseConfirm n).req i).pending = true := by
    unfold State.raiseConfirm
    dsimp only
    refine raise_keeps_pending _ _ _ ?_
    unfold State.updSess
    split <;> exact h
  unfold State.raiseConfirms inFreeOrder
  exact freeLines_induction (fun u => (u.req i).pending = true) _ one (fun _ _ h => h) _ _ _ h

theorem eq_of_core_claims {u v : State} (h : u.core = v.core) (n : LineNo) : u.claims[n].surveyOwed = v.claims[n].surveyOwed := by
  have table : u.claims.map (fun c => { c with admitConfirm := false }) = v.claims.map fun c => { c with admitConfirm := false } :=
    show u.core.claims = v.core.claims from h ▸ rfl
  have line := congrArg (fun x : Vector Claims 16 => x[n].surveyOwed) table
  simpa only [Fin.getElem_fin, Vector.getElem_map] using line

theorem settle_core (s before : State) (every : Bool) : (s.settle before every).core = s.core := core_of_kept (settle_kept s before every)

section
variable {s : State} {t : Moment}

/-- What a refresh period leaves. -/
theorem refresh_leads (running : s.loader = .running) :
    let u := ((s.at t).refresh).settle (s.at t) true
    u.refreshTimer = some (max s.now t + 1000 * s.cfg.refreshPeriod) ∧ u.presence = renewed s.presence ∧
      u.counters.agedOutEntries = agedOut s.presence s.counters.agedOutEntries ∧ u.slots = (s.at t).ageSlots.slots ∧
      (∀ n : LineNo, s.st n = .session → (u.req (.claim n)).pending = true) ∧ (∀ n : LineNo, u.claims[n].surveyOwed = s.claims[n].surveyOwed) ∧
      (∀ n : LineNo, s.st n = .session → s.path[n].flow = some .hold → (u.req (.flow n)).pending = true) ∧
      (∀ (n : LineNo) (tag : Fin 64), s.cfg.tags[n] = some tag → (u.req (.lineState tag)).pending = true) ∧
      (s.accountantPresent = true → Confirmed s u (max s.now t)) ∧ (s.accountantPresent = false → u.requestSerial = s.requestSerial) ∧
      (s.reqs = [] → (∀ n : LineNo, s.st n ≠ .session ∧ s.sess[n] = none) → OffersOk s → crossOk s.cfg →
        ∃ slots ∈ [s.slots, (s.at t).ageSlots.slots], ∀ twice : LineNo → Bool,
          (∀ n, twice n = true ↔ (s.cfg.tags[n]).isSome = true ∧ ageingChanges (s.at t) slots n) →
          u.counters.requestsCoalesced = (allLines.filter twice).foldl (fun k _ => sat16 k) s.counters.requestsCoalesced) ∧
      u.sup = s.sup ∧ u.sign = s.sign ∧ u.roster = s.roster := by
  intro u
  obtain ⟨slots, hslots, spec⟩ := reannounced_spec (s.at t)
  obtain ⟨q, c, d, e⟩ := spec.same
  obtain ⟨v, hv⟩ : ∃ v, v = reannounced (s.at t) := ⟨_, rfl⟩
  rw [← hv] at spec e
  have hu : u = v.raiseConfirms.settle (s.at t) true := by rw [hv]; rfl
  have core : u.core = v.core := by rw [hu, settle_core, core_raiseConfirms]
  clear_value u
  have started : v.raiseConfirms.started = true := by
    have loader : v.raiseConfirms.loader = v.loader := eq_of_core_loader (core_raiseConfirms v)
    exact decide_eq_true (loader.trans (by rw [e]; exact running))
  have cfg : v.raiseConfirms.cfg = s.cfg := (eq_of_core_cfg (core_raiseConfirms v)).trans (by rw [e]; rfl)
  have pending {i : ReqId} (h : (v.req i).pending = true) : (u.req i).pending = true := by
    rw [hu]
    exact settle_keeps_pending _ _ _ _ (raiseConfirms_pending v h)
  refine ⟨?_, ?_, ?_, ?_, fun n session => pending (spec.claims n session), fun n => ?_, fun n session hold => pending (spec.flows n session hold),
    fun n tag htag => ?_, fun present => ?_, fun absent => ?_, fun empty quiet offers tags => ?_, ?_, ?_, ?_⟩
  · refine (show u.core.refreshTimer = v.core.refreshTimer from congrArg State.refreshTimer core).trans ?_
    rw [e]; rfl
  · rw [eq_of_core_presence core, e]; rfl
  · have counters := congrArg (fun c : Counters => c.agedOutEntries) (eq_of_core_counters core)
    refine (show u.counters.agedOutEntries = v.counters.agedOutEntries from counters).trans ?_
    rw [e]; rfl
  · rw [eq_of_core_slots core, e]
  · rw [eq_of_core_claims core, e]; rfl
  · rw [hu]
    exact settle_every_announced started (s.at t) (by rw [cfg]; exact htag)
  · rw [hu]
    refine confirmed_of_asked (v := v) (fun n => ?_) (by rw [e]; rfl) (by rw [e]; rfl) (by rw [e]; rfl) ?_ started ⟨rfl, rfl, rfl, rfl⟩ _ _
    · rw [e]
      show Option.Rel SameButHold s.sess[n] s.sess[n]
      cases s.sess[n] with
      | none => exact .none
      | some x => exact .some (.refl x)
    · rw [e]; exact present
  · have none : v.accountantPresent = false := by rw [e]; exact absent
    rw [hu, raiseConfirms_of_absent none, settle_requestSerial, e]
    rfl
  · obtain ⟨count, flows, tagged⟩ := spec.quiet empty (fun n => (quiet n).1) tags
    have sess (n : LineNo) : v.sess[n] = none := by rw [e]; exact (quiet n).2
    have still : v.raiseConfirms = v := by
      have nobody : allLines.filter v.wantsConfirm = [] := List.filter_eq_nil_iff.mpr fun n _ => by
        unfold State.wantsConfirm
        rw [sess n]
        exact Bool.false_ne_true
      unfold State.raiseConfirms
      rw [nobody]
      rfl
    have loader : v.loader = .running := by rw [e]; exact running
    have vCfg : v.cfg = s.cfg := by rw [e]; rfl
    refine ⟨slots, hslots, fun twice htwice => ?_⟩
    rw [hu, still, settle_every_coalesced loader sess (by rw [e]; exact offers) flows (by rw [vCfg]; exact tags), count, vCfg]
    refine congrArg (fun ls : List LineNo => ls.foldl (fun k _ => sat16 k) s.counters.requestsCoalesced) (List.filter_congr fun n _ => ?_)
    rw [Bool.eq_iff_iff, htwice n]
    cases htag : s.cfg.tags[n] with
    | none => simp
    | some tag =>
      rw [Option.any_some, tagged n tag htag]
      exact ⟨fun h => ⟨rfl, h⟩, fun h => h.2⟩
  · rw [eq_of_core_sup core, e]; rfl
  · rw [eq_of_core_sign core, e]; rfl
  · rw [eq_of_core_roster core, e]; rfl

end

/-! ## Survey (R82) -/

theorem reclaim_keeps {α : Type} {g : State → α} (hraise : ∀ s i, g (State.raise s i) = g s) (hclaims : ∀ (s : State) n x, g (s.setClaims n x) = g s)
    (b : Bool) (n : LineNo) (s : State) : g (State.reclaim b n s) = g s := by
  unfold State.reclaim
  split
  · dsimp only
    split
    · exact (hraise _ _).trans (hclaims _ _ _)
    · exact hraise _ _
  · rfl

theorem takeText_flow (s : State) (n : LineNo) (t : Text) (m : LineNo) : (s.takeText n t).path[m].flow = s.path[m].flow := by
  have of_set {path : Vector Path 16} {p : Path} (e : path = s.path.set n p) (flow : p.flow = s.path[n].flow) : path[m].flow = s.path[m].flow := by
    rw [e, vector_set_get]
    split
    · next same => subst same; exact flow
    · rfl
  rcases takeText_cases s n t with ⟨-, -, e⟩ | ⟨e, -⟩
  · rw [e]
    exact of_set (sendOut_path s n _) rfl
  · exact of_set e rfl

theorem testHold_flow (s : State) (m : LineNo) : s.testHold.path[m].flow = s.path[m].flow := by
  have notices (ms : List (Fin 16)) (n : LineNo) (s : State) : (State.noticeMessages ms n s).path[m].flow = s.path[m].flow := by
    unfold State.noticeMessages
    induction ms generalizing s with
    | nil => rfl
    | cons k ms ih =>
      refine (ih _).trans ?_
      show (s.noticeText n (messageText [k])).path[m].flow = s.path[m].flow
      unfold State.noticeText
      split
      · exact takeText_flow s n _ m
      · rfl
  exact inFreeOrder_keeps (fun u => u.path[m].flow) _ (notices [13]) (fun _ _ => rfl) _ _

theorem raiseConfirms_path (s : State) : s.raiseConfirms.path = s.path := by
  refine inFreeOrder_keeps State.path _ (fun n u => ?_) (fun _ _ => rfl) _ _
  unfold State.raiseConfirm
  dsimp only
  rw [raise_path]
  show (State.updSess _ n _).path = u.path
  unfold State.updSess
  split <;> rfl

theorem hear_flow (s : State) (i : Station) (m : LineNo) : (s.hear i).path[m].flow = s.path[m].flow := by
  have toServed (u : State) : u.testHold.updateOffers.path[m].flow = u.path[m].flow := by
    rw [updateOffers_path]
    exact testHold_flow u m
  unfold State.hear State.changeRoster
  split
  · rfl
  · unfold State.reactRoster
    rw [clearChannelHold_none _ _ fun n => channelTurnedAbsent_heard s i n]
    dsimp only
    split
    · exact (congrArg (fun x : Vector Path 16 => x[m].flow) (raiseConfirms_path _)).trans (toServed _)
    · exact toServed _

/-- What a survey raises. -/
structure Surveyed (h v : State) : Prop where
  presence : v.presence = h.presence
  sup : v.sup = h.sup
  sign : v.sign = h.sign
  cfg : v.cfg = h.cfg
  loader : v.loader = h.loader
  claims : ∀ n, h.st n = .session → (v.req (.claim n)).pending = true ∧ v.claims[n].surveyOwed = true
  others : ∀ n, h.st n ≠ .session → v.claims[n].surveyOwed = h.claims[n].surveyOwed
  flows : ∀ n : LineNo, h.st n = .session → h.path[n].flow = some .hold → (v.req (.flow n)).pending = true

theorem reclaim_claims_ne {n m : LineNo} (ne : m ≠ n) (s : State) : (State.reclaim true m s).claims[n] = s.claims[n] := by
  unfold State.reclaim
  split
  · exact (congrArg (fun x : Vector Claims 16 => x[n]) (raise_claims _ _)).trans (vector_set_get_ne _ _ ne)
  · rfl

theorem answerSurvey_spec (h : State) : Surveyed h h.answerSurvey := by
  obtain ⟨w, hw⟩ : ∃ w, w = eachLine allLines (State.reclaim true) h := ⟨_, rfl⟩
  have keeps {α : Type} (g : State → α) (hraise : ∀ s i, g (State.raise s i) = g s) (hclaims : ∀ (s : State) n x, g (s.setClaims n x) = g s) :
      g w = g h := by rw [hw]; exact eachLine_keeps g _ (reclaim_keeps hraise hclaims true) _ _
  have st (n : LineNo) : w.st n = h.st n := keeps (fun u => u.st n) (fun s i => raise_st s i n) fun _ _ _ => rfl
  have path : w.path = h.path := keeps State.path raise_path fun _ _ _ => rfl
  have still (m n : LineNo) (u : State) : (State.reclaim true m u).st n = u.st n :=
    reclaim_keeps (g := fun u => u.st n) (fun s i => raise_st s i n) (fun _ _ _ => rfl) true m u
  unfold State.answerSurvey
  rw [← hw, eachLine_reflow]
  obtain ⟨q, c, e, req, -⟩ := eachLine_raiseIf (reflowing w) allLines w
  rw [e]
  refine ⟨keeps State.presence raise_presence fun _ _ _ => rfl, keeps State.sup raise_sup fun _ _ _ => rfl, keeps State.sign raise_sign fun _ _ _ => rfl,
    keeps State.cfg raise_cfg fun _ _ _ => rfl, keeps State.loader raise_loader fun _ _ _ => rfl, fun n session => ?_, fun n idle => ?_,
    fun n session hold => ?_⟩
  · have made : (w.req (.claim n)).pending = true ∧ w.claims[n].surveyOwed = true := by
      rw [hw]
      refine eachLine_makes (I := fun u => u.st n = .session) (Q := fun u => (u.req (.claim n)).pending = true ∧ u.claims[n].surveyOwed = true)
        (fun m u h => (still m n u).trans h) (fun u session => ?_) (fun m u session hq => ?_) (mem_allLines n) session
      · unfold State.reclaim
        rw [if_pos session]
        dsimp only
        rw [if_pos rfl, raise_claims]
        exact ⟨raised_pending _ _, congrArg Claims.surveyOwed (vector_set_get_self _ _ _)⟩
      · by_cases same : m = n
        · subst same
          unfold State.reclaim
          rw [if_pos session]
          dsimp only
          rw [if_pos rfl, raise_claims]
          exact ⟨raised_pending _ _, congrArg Claims.surveyOwed (vector_set_get_self _ _ _)⟩
        · rw [reclaim_claims_ne same]
          refine ⟨?_, hq.2⟩
          unfold State.reclaim
          split
          · exact raise_keeps_pending _ _ _ hq.1
          · exact hq.1
    refine ⟨?_, made.2⟩
    show (reqOf q (.claim n)).pending = true
    rw [req]
    split
    · rfl
    · exact made.1
  · show w.claims[n].surveyOwed = h.claims[n].surveyOwed
    have both : w.st n = h.st n ∧ w.claims[n] = h.claims[n] := by
      rw [hw]
      refine eachLine_induction (fun u => u.st n = h.st n ∧ u.claims[n] = h.claims[n]) _ (fun m u ⟨hst, hclaims⟩ => ?_) _ _ ⟨rfl, rfl⟩
      refine ⟨(still m n u).trans hst, ?_⟩
      by_cases same : m = n
      · subst same
        unfold State.reclaim
        rw [if_neg (by rw [hst]; exact idle)]
        exact hclaims
      · rw [reclaim_claims_ne same]
        exact hclaims
    rw [both.2]
  · show (reqOf q (.flow n)).pending = true
    have flowing : reflowing w n = some (.flow n) := if_pos ⟨(st n).trans session, by rw [path]; exact hold⟩
    rw [req, if_pos ⟨n, mem_allLines n, flowing⟩]

/-! ## Beacons (R69, R87, R88) -/

/-- The state in which the confirmations are asked for when a beacon turns an accountant present. -/
def beaconTurned (s : State) (src : Station) (p : BeaconPayload) : State :=
  let s1 : State := { s with echo := s.canEcho, roster := s.roster.set src (beaconEntry p) }
  (s1.clearChannelHold (s1.channelTurnedAbsent s.roster)).testHold.updateOffers

theorem takeBeacon_asks {s : State} {src : Station} (hears : s.hears src = true) {p : BeaconPayload} (accountant : p.roles.getLsbD 1 = true)
    (turns : ¬(s.roster[src].age < 3 ∧ s.roster[src].roles.accountant = true) ∨ s.roster[src].freshSeen = false ∧ p.freshStart ≠ 0) :
    (s.takeBeacon src p).sess = (beaconTurned s src p).raiseConfirms.sess ∧ (s.takeBeacon src p).claims = (beaconTurned s src p).raiseConfirms.claims ∧
      (s.takeBeacon src p).reqs = (beaconTurned s src p).raiseConfirms.reqs ∧
      (s.takeBeacon src p).requestSerial = (beaconTurned s src p).raiseConfirms.requestSerial := by
  have other : src ≠ s.station := ((hears_iff s src).mp hears).2
  have turned : accountantTurned s.roster (beaconTurned s src p).roster (if s.roster[src].returns p then some src else none) = true := by
    have roster : (beaconTurned s src p).roster = s.roster.set src (beaconEntry p) := eq_of_kept_roster ((kept_updateOffers _).trans (kept_testHold _))
    rw [roster]
    unfold accountantTurned
    rw [List.any_eq_true]
    refine ⟨src, List.mem_finRange src, ?_⟩
    have present : (beaconEntry p).accountant = true := accountant
    rw [vector_set_get_self, present, Bool.true_and, Bool.or_eq_true, Bool.not_eq_true', decide_eq_true_eq]
    by_cases was : s.roster[src].accountant = true
    · refine .inr (if_pos ?_)
      obtain ⟨young, role⟩ := (accountant_iff s src).mp was
      obtain ⟨unseen, fresh⟩ := turns.resolve_left fun no => no ⟨young, role⟩
      unfold RosterEntry.returns
      rw [unseen]
      simp only [Bool.and_eq_true, Bool.not_false, and_true]
      exact ⟨decide_eq_true young, decide_eq_true fresh⟩
    · exact .inl (Bool.eq_false_iff.mpr was)
  have changed : State.changeRoster { s with echo := s.canEcho } src (fun _ => beaconEntry p) (if s.roster[src].returns p then some src else none) =
      (beaconTurned s src p).raiseConfirms := (if_neg other).trans (if_pos turned)
  unfold State.takeBeacon
  rw [if_pos hears]
  dsimp only
  rw [changed]
  split <;> exact ⟨rfl, rfl, rfl, rfl⟩

theorem beaconTurned_sessions (s : State) (src : Station) (p : BeaconPayload) : SessionsBut s (beaconTurned s src p) := by
  intro n
  unfold beaconTurned
  dsimp only
  rw [updateOffers_keeps (g := State.sess) raise_sess (fun _ _ => rfl), testHold_sess]
  show Option.Rel SameButHold s.sess[n] (s.sess[n].map _)
  cases s.sess[n] with
  | none => exact .none
  | some x => exact .some (sameButHold_holdTest _ x)

theorem beacon_confirmed {t : Moment} {src : Station} {p : BeaconPayload} {s : State} (running : s.loader = .running) (other : src ≠ s.station)
    (accountant : p.roles.getLsbD 1 = true)
    (turns : ¬(s.roster[src].age < 3 ∧ s.roster[src].roles.accountant = true) ∨ s.roster[src].freshSeen = false ∧ p.freshStart ≠ 0) :
    Confirmed s (((s.at t).takeBeacon src p).settle (s.at t) false) (max s.now t) := by
  have hears : (s.at t).hears src = true := hears_of_running running other
  obtain ⟨started, -⟩ := Offers.takeBeacon_running hears accountant
  have kept : (beaconTurned (s.at t) src p).kept = (State.clearChannelHold { s.at t with echo := s.canEcho, roster := s.roster.set src (beaconEntry p) }
      (State.channelTurnedAbsent { s.at t with echo := s.canEcho, roster := s.roster.set src (beaconEntry p) } s.roster)).kept :=
    (kept_updateOffers _).trans (kept_testHold _)
  refine confirmed_of_asked (s := s) (v := beaconTurned (s.at t) src p) (fun n => beaconTurned_sessions (s.at t) src p n) ((eq_of_kept_requestSerial kept).trans rfl)
    ((eq_of_kept_now kept).trans rfl) ((eq_of_kept_cfg kept).trans rfl) ?_ started (takeBeacon_asks hears accountant turns) _ _
  refine (accountantPresent_iff _).mpr ⟨src, ?_⟩
  rw [eq_of_kept_roster kept]
  show (s.roster.set src (beaconEntry p))[src].accountant = true
  rw [vector_set_get_self]
  exact accountant

theorem heard_loader (s : State) (i : Station) : (s.heard i).loader = s.loader := by
  unfold State.heard
  split <;> rfl

theorem heard_sign (s : State) (i : Station) : (s.heard i).sign = s.sign := by
  unfold State.heard
  split <;> rfl

/-- Settles O28: the tables take a refresh in either order, what is renewed is announced, and the sessions that ask take their serials in turn. -/
theorem surveysAndPeriodsReannounce : Obligations.SurveysAndPeriodsReannounce := by
  intro t s unconfirmed asking confirmed
  refine ⟨fun src running other => ?_, fun d due running timer => ?_, fun src p running other accountant turns => ?_, fun d due timer => ?_⟩
  · have hears : (s.at t).hears src = true := hears_of_running running other
    obtain ⟨h, hh⟩ : ∃ h, h = State.hear { s.at t with echo := (s.at t).canEcho } src := ⟨_, rfl⟩
    have e : exec (.survey t src) s = .next (h.answerSurvey.settle (s.at t) true) := by
      refine (if_pos hears).trans (congrArg (fun v : State => Host.Outcome.next (v.settle (s.at t) true)) ((if_pos hears).trans ?_))
      rw [hh]
    have core : h.core = (State.heard { s.at t with echo := (s.at t).canEcho } src).core := by rw [hh]; exact hear_core _ src
    have sup : h.sup = s.sup := (eq_of_core_sup core).trans (heard_sup _ _)
    have st (n : LineNo) : h.st n = s.st n := by unfold State.st; rw [sup]
    have flow (n : LineNo) : h.path[n].flow = s.path[n].flow := by rw [hh]; exact hear_flow _ src n
    have owed (n : LineNo) : h.claims[n].surveyOwed = s.claims[n].surveyOwed := by
      refine (eq_of_core_claims core n).trans ?_
      unfold State.heard
      split <;> rfl
    have cfg : h.cfg = s.cfg := (eq_of_core_cfg core).trans (heard_cfg _ _)
    have spec := answerSurvey_spec h
    have started : h.answerSurvey.started = true :=
      decide_eq_true (spec.loader.trans ((eq_of_core_loader core).trans ((heard_loader _ _).trans running)))
    refine ⟨_, e, fun n session => ?_, fun n idle => ?_, fun n session hold => ?_, fun n tag htag => ?_, ?_, ?_, ?_⟩
    · obtain ⟨pending, mark⟩ := spec.claims n ((st n).trans session)
      exact ⟨settle_keeps_pending _ _ _ _ pending, by rw [settle_claims]; exact mark⟩
    · rw [settle_claims, spec.others n (by rw [st]; exact idle)]
      exact owed n
    · exact settle_keeps_pending _ _ _ _ (spec.flows n ((st n).trans session) ((flow n).trans hold))
    · exact settle_every_announced started _ (by rw [spec.cfg, cfg]; exact htag)
    · rw [settle_presence, spec.presence]
      exact (eq_of_core_presence core).trans (heard_presence _ _)
    · rw [settle_sup, spec.sup, sup]
    · rw [settle_sign, spec.sign]
      exact (eq_of_core_sign core).trans (heard_sign _ _)
  · have due' : fallenDue s.refreshTimer (s.at t).now = true := by
      rw [timer]
      exact decide_eq_true due
    have e : exec (.refreshTimerExpiry t) s = .next ((s.at t).refresh.settle (s.at t) true) := if_pos due'
    obtain ⟨again, presence, out, slots, claims, owed, flows, tags, confirms, absent, coalesced, sup, sign, roster⟩ := refresh_leads (t := t) running
    refine ⟨_, e, again, presence, out, fun i tag source => ?_, claims, owed, flows, tags, fun someone => ?_, fun nobody => ?_, fun empty quiet offers cross => ?_,
      sup, sign, roster⟩
    · rw [slots]
      exact ageSlots_get (s.at t) source
    · exact confirms ((accountantPresent_iff s).mpr (someone.imp fun i h => (accountant_iff s i).mpr h))
    · refine absent (Bool.eq_false_iff.mpr fun present => ?_)
      obtain ⟨i, h⟩ := (accountantPresent_iff s).mp present
      exact nobody i ((accountant_iff s i).mp h)
    · intro raisedTwice
      obtain ⟨used, hused, count⟩ := coalesced empty quiet offers cross
      refine ⟨used, by rw [slots]; exact hused, count _ fun n => ?_⟩
      rw [presence]
      exact decide_eq_true_iff
  · exact ⟨_, rfl, beacon_confirmed running other accountant turns⟩
  · have effect : (if fallenDue (s.at t).beaconTimer (s.at t).now then (s.at t).beaconPeriod else s.at t) = (s.at t).beaconPeriod := by
      refine if_pos ?_
      have timer : (s.at t).beaconTimer = some d := timer
      rw [timer]
      exact decide_eq_true due
    have core := reactRoster_core { s.at t with beaconTimer := some ((s.at t).now + 10000), roster := agedRoster s.station s.roster } s.roster none
    obtain ⟨v, hv⟩ : ∃ v, v = State.reactRoster { s.at t with beaconTimer := some ((s.at t).now + 10000), roster := agedRoster s.station s.roster }
      s.roster none := ⟨_, rfl⟩
    rw [← hv] at core
    have period : (s.at t).beaconPeriod = v.raise .beacon := by rw [hv]; rfl
    have timerV : v.beaconTimer = some (max s.now t + 10000) := show v.core.beaconTimer = _ by rw [core]; rfl
    refine ⟨((s.at t).beaconPeriod).settle (s.at t) false, congrArg (fun w : State => Host.Outcome.next (w.settle (s.at t) false)) effect, ?_, ?_, fun i => ?_,
      ?_, ?_, ?_⟩
    · rw [settle_beaconTimer, period, raise_beaconTimer]
      exact timerV
    · rw [period]
      exact settle_keeps_pending _ _ _ _ (raised_pending _ _)
    · rw [settle_roster, period, raise_roster, eq_of_core_roster core]
      exact mapTable_get _ _ i
    · rw [settle_sup, period, raise_sup, eq_of_core_sup core]; rfl
    · rw [settle_sign, period, raise_sign, eq_of_core_sign core]; rfl
    · rw [settle_presence, period, raise_presence, eq_of_core_presence core]; rfl

end Sys2Proof.Proofs.Periods
end

section
/-! The selector (R156, R157): which of the pending requests an idle of the bus starts, and what a request dropped for want of a frame leaves to the next. -/

namespace Sys2Proof.Proofs.Selection

open Sys2Proof Sys2Proof.Machine Sys2Proof.Proofs.Lines Sys2Proof.Proofs.Disconnect Sys2Proof.Proofs.HangUp Sys2Proof.Proofs.Strikes

/-! ## The requests considered -/

theorem reqOf_of_mem {q : List (ReqId × Req)} (once : q.Pairwise fun a b => a.1 ≠ b.1) {p : ReqId × Req} (h : p ∈ q) : reqOf q p.1 = p.2 := by
  induction q with
  | nil => cases h
  | cons a q ih =>
    obtain ⟨first, rest⟩ := List.pairwise_cons.mp once
    rcases List.mem_cons.mp h with rfl | h
    · exact if_pos rfl
    · exact (if_neg (first p h)).trans (ih rest h)

theorem mem_of_reqOf {q : List (ReqId × Req)} {i : ReqId} (h : reqOf q i ≠ Req.idle) : (i, reqOf q i) ∈ q := by
  induction q with
  | nil => exact absurd rfl h
  | cons a q ih =>
    obtain ⟨j, r⟩ := a
    by_cases same : j = i
    · rw [show reqOf ((j, r) :: q) i = r from if_pos same, ← same]
      exact List.mem_cons_self
    · have e : reqOf ((j, r) :: q) i = reqOf q i := if_neg same
      rw [e] at h ⊢
      exact List.mem_cons_of_mem _ (ih h)

theorem pending_ne_idle {r : Req} (h : r.pending = true) : r ≠ Req.idle := fun e => by rw [e] at h; cases h

/-- The requests considered are those pending that the bus state allows (R157). -/
theorem mem_considered {s : State} (once : s.reqs.Pairwise fun a b => a.1 ≠ b.1) (i : ReqId) :
    i ∈ s.considered ↔ (s.req i).pending = true ∧ s.bus.allows i = true := by
  unfold State.considered
  simp only [List.mem_map, List.mem_filter, Bool.and_eq_true]
  constructor
  · rintro ⟨p, ⟨mem, pending, allows⟩, rfl⟩
    have e : s.req p.1 = p.2 := reqOf_of_mem once mem
    exact ⟨by rw [e]; exact pending, allows⟩
  · rintro ⟨pending, allows⟩
    exact ⟨(i, s.req i), ⟨mem_of_reqOf (pending_ne_idle pending), pending, allows⟩, rfl⟩

theorem pairwise_putReq {q : List (ReqId × Req)} (once : q.Pairwise fun a b => a.1 ≠ b.1) (i : ReqId) (r : Req) :
    (putReq q i r).Pairwise fun a b => a.1 ≠ b.1 := by
  unfold putReq
  split
  · exact once.filter _
  · refine List.pairwise_cons.mpr ⟨fun p hp => ?_, once.filter _⟩
    have := (List.mem_filter.mp hp).2
    exact fun e => of_decide_eq_true this e.symm

/-! ## The preferred request -/

theorem preferred_mem {s : State} {ls : List ReqId} {j : ReqId} (h : s.preferred ls = some j) : j ∈ ls := by
  induction ls with
  | nil => cases h
  | cons i ls ih =>
    unfold State.preferred at h
    split at h
    · cases h; exact List.mem_cons_self
    · next k hk =>
      split at h
      · cases h; exact List.mem_cons_self
      · cases h; exact List.mem_cons_of_mem _ (ih hk)

/-- The request with the least key is preferred. -/
theorem preferred_of_least {s : State} {ls : List ReqId} {i : ReqId} (mem : i ∈ ls) (least : ∀ j ∈ ls, j ≠ i → s.selectKey i < s.selectKey j) :
    s.preferred ls = some i := by
  induction ls with
  | nil => cases mem
  | cons k ls ih =>
    unfold State.preferred
    have rest := fun j hj => least j (List.mem_cons_of_mem _ hj)
    by_cases same : k = i
    · subst same
      split
      · rfl
      · next j hj =>
        refine if_pos ?_
        by_cases e : j = k
        · rw [e]
        · exact Nat.le_of_lt (rest j (preferred_mem hj) e)
    · have later : i ∈ ls := (List.mem_cons.mp mem).resolve_left (Ne.symm same)
      rw [ih later rest]
      exact if_neg (Nat.not_le.mpr (least k List.mem_cons_self same))

/-! ## The order of R157 -/

/-- The level and kind code of a request, as R157 and Table 11-2 give them. -/
def codes (i : ReqId) : Nat × Nat :=
  match i with
  | .beacon => (1, 1) | .flow _ => (1, 2) | .release _ => (2, 3) | .claim _ => (2, 4) | .survey => (2, 5)
  | .admitReq _ => (3, 6) | .charge _ => (4, 9) | .lineState _ => (5, 11) | .orderResult _ => (5, 12) | .runResult _ => (5, 12)
  | .dataIn _ => (6, 13)

theorem codes_eq (i : ReqId) : i.precedence = codes i := by cases i <;> rfl

theorem codes_lt (i : ReqId) : (codes i).1 < 8 ∧ (codes i).2 < 32 := by cases i <;> simp [codes]

/-- The place of a request among those of its kind, as R157 gives it. -/
def placeOf (s : State) (i : ReqId) : Nat :=
  match i with
  | .beacon | .survey => 0
  | .flow n | .release n | .claim n | .admitReq n => n
  | .charge serial => (s.queue.map fun r => r.charge.serial).idxOf serial
  | .lineState tag => tag
  | .orderResult slot => 2 * slot
  | .runResult n => 2 * n + 1
  | .dataIn n => (n.val + 15 - s.rotation.val) % 16

theorem rank_eq (s : State) (i : ReqId) : s.rank i = placeOf s i := by
  cases i with
  | charge serial =>
    show s.queue.findIdx _ = (s.queue.map _).idxOf serial
    unfold List.idxOf
    rw [List.findIdx_map]
    congr 1
  | _ => rfl

theorem rank_lt {s : State} (short : s.queue.length ≤ 32) (i : ReqId) : s.rank i < 256 := by
  cases i with
  | charge serial =>
    have : s.queue.findIdx (fun r => decide (r.charge.serial = serial)) ≤ s.queue.length := List.findIdx_le_length
    show s.queue.findIdx _ < 256
    omega
  | beacon | survey => exact Nat.succ_pos 255
  | flow n | release n | claim n | admitReq n => show n.val < 256; omega
  | lineState tag => show tag.val < 256; omega
  | orderResult slot => show 2 * slot.val < 256; omega
  | runResult n => show 2 * n.val + 1 < 256; omega
  | dataIn n => show (n.val + 15 - s.rotation.val) % 16 < 256; omega

/-- One request is started before another (R157). -/
def Precedes (s : State) (i j : ReqId) : Prop :=
  (codes i).1 < (codes j).1 ∨
    (codes i).1 = (codes j).1 ∧ ((codes i).2 < (codes j).2 ∨ (codes i).2 = (codes j).2 ∧ placeOf s i < placeOf s j)

theorem selectKey_lt {s : State} (short : s.queue.length ≤ 32) {i j : ReqId} (h : Precedes s i j) : s.selectKey i < s.selectKey j := by
  unfold State.selectKey
  have ri := rank_lt short i
  have := codes_lt i
  unfold Precedes at h
  rw [← rank_eq, ← rank_eq] at h
  rw [codes_eq, codes_eq]
  omega

/-! ## What a dropped request leaves -/

/-- A state with a line's survey-owed mark cleared at most, and other requests. -/
def Unmarked (s u : State) (i : ReqId) : Prop :=
  ∃ q claims, u = { s with reqs := q, claims := claims } ∧ (∀ n : LineNo, i = .claim n → claims[n].surveyOwed = false) ∧
    ∀ n : LineNo, claims[n].release = s.claims[n].release ∧ claims[n].admitConfirm = s.claims[n].admitConfirm ∧ (i ≠ .claim n → claims[n] = s.claims[n])

theorem Unmarked.build {s u : State} {i j : ReqId} (h : Unmarked s u i) (ne : j ≠ i) : u.build j = s.build j := by
  obtain ⟨q, claims, rfl, -, same⟩ := h
  cases j with
  | claim n =>
    have line : claims[n] = s.claims[n] := (same n).2.2 (Ne.symm ne)
    show State.buildClaim _ n = State.buildClaim _ n
    unfold State.buildClaim
    dsimp only
    rw [line]
    rfl
  | release n =>
    show (claims[n].release).map _ = (s.claims[n].release).map _
    rw [(same n).1]
  | admitReq n =>
    show State.buildAdmitReq _ n = State.buildAdmitReq _ n
    unfold State.buildAdmitReq
    dsimp only
    rw [(same n).2.1]
  | _ => rfl

theorem dropped_unmarked {s : State} {i : ReqId} (none : s.build i = none) :
    Unmarked s (s.selectReq i) i ∧ ∀ j, (s.selectReq i).req j = if j = i then Req.idle else s.req j := by
  have e : s.selectReq i = (s.noteSelected i).dropReq i := by
    unfold State.selectReq
    rw [none]
  have reqs : (s.noteSelected i).reqs = s.reqs := by
    unfold State.noteSelected
    split
    · rfl
    · split <;> rfl
    · rfl
  rw [e]
  refine ⟨?_, fun j => ?_⟩
  · unfold State.noteSelected
    split
    · next n =>
      refine ⟨_, _, rfl, fun m h => ?_, fun m => ?_⟩
      · cases h
        exact congrArg Claims.surveyOwed (vector_set_get_self _ _ _)
      · show (s.claims.set n.val _ n.isLt)[m].release = _ ∧ (s.claims.set n.val _ n.isLt)[m].admitConfirm = _ ∧ (_ → (s.claims.set n.val _ n.isLt)[m] = _)
        rw [vector_set_get]
        by_cases same : n = m
        · subst same
          rw [if_pos rfl]
          exact ⟨rfl, rfl, fun ne => absurd rfl ne⟩
        · rw [if_neg same]
          exact ⟨rfl, rfl, fun _ => rfl⟩
    · next n =>
      have nothing : ¬(s.buildDataIn n).isSome = true := by
        rw [show s.buildDataIn n = Option.none from none]
        exact Bool.false_ne_true
      rw [if_neg nothing]
      exact ⟨_, s.claims, rfl, nofun, fun _ => ⟨rfl, rfl, fun _ => rfl⟩⟩
    · next i other _ => exact ⟨_, s.claims, rfl, fun n h => absurd h (other n), fun _ => ⟨rfl, rfl, fun _ => rfl⟩⟩
  · unfold State.dropReq
    rw [req_setReq]
    unfold State.req
    rw [reqs]

/-! ## What a started frame leaves -/

/-- The state with the frame of a request started. -/
theorem started_frame {s : State} {i : ReqId} {d : Dest} {b : FrameBody} (built : s.build i = some (d, b)) :
    s.selectReq i = { (s.noteSelected i).setReq i { (s.noteSelected i).req i with pending := false } with wire := some ⟨i, d, b⟩ } := by
  unfold State.selectReq
  rw [built]

theorem noteSelected_eq (s : State) (i : ReqId) : ∃ claims path, s.noteSelected i = { s with claims := claims, path := path } := by
  unfold State.noteSelected
  split
  · exact ⟨_, s.path, rfl⟩
  · split
    · exact ⟨s.claims, _, rfl⟩
    · exact ⟨s.claims, s.path, rfl⟩
  · exact ⟨s.claims, s.path, rfl⟩

theorem noteSelected_claim (s : State) (n : LineNo) : (s.noteSelected (.claim n)).claims[n].surveyOwed = false :=
  congrArg Claims.surveyOwed (vector_set_get_self _ _ _)

theorem build_dataIn {s : State} {i : ReqId} {d : Dest} {n : LineNo} {a k : Bool} {cs : List Char7} (built : s.build i = some (d, .dataIn n a k cs)) :
    i = .dataIn n ∧ (s.buildDataIn n).isSome = true ∧ cs = s.path[n].inQ.chars.take s.path[n].takes ∧ a = (s.path[n].carriesFlags && s.path[n].attention) ∧
      k = (s.path[n].carriesFlags && s.path[n].brk) := by
  cases i with
  | dataIn m =>
    have built : s.buildDataIn m = some (d, .dataIn n a k cs) := built
    have some : (s.buildDataIn m).isSome = true := by rw [built]; rfl
    unfold State.buildDataIn at built
    dsimp only at built
    split at built
    · split at built
      · cases built
      · cases built
        exact ⟨rfl, some, rfl, rfl, rfl⟩
    · cases built
  | claim m =>
    have built : s.buildClaim m = _ := built
    unfold State.buildClaim at built
    repeat' split at built
    all_goals cases built
  | flow m =>
    have built : s.buildFlow m = _ := built
    unfold State.buildFlow at built
    repeat' split at built
    all_goals cases built
  | admitReq m =>
    have built : s.buildAdmitReq m = _ := built
    unfold State.buildAdmitReq at built
    repeat' split at built
    all_goals cases built
  | beacon | survey => cases built
  | release m | charge m | lineState m | orderResult m | runResult m =>
    obtain ⟨x, -, e⟩ := Option.map_eq_some_iff.mp built
    cases e

theorem takes_le (p : Path) : p.takes ≤ p.inQ.chars.length := by
  unfold Path.takes
  dsimp only
  split <;> omega

theorem noteSelected_dataIn {s : State} {d : Dest} {n : LineNo} {a k : Bool} {cs : List Char7} (built : s.build (.dataIn n) = some (d, .dataIn n a k cs)) :
    (s.noteSelected (.dataIn n)).path[n] = { s.path[n] with inFlight := some ⟨cs.length, a, k, false, false⟩ } := by
  obtain ⟨-, some, rfl, rfl, rfl⟩ := build_dataIn built
  have length : (s.path[n].inQ.chars.take s.path[n].takes).length = s.path[n].takes := List.length_take_of_le (takes_le _)
  unfold State.noteSelected
  dsimp only
  rw [if_pos some, length]
  exact vector_set_get_self _ _ _

/-- What a selected request leaves whose frame is started. -/
structure Started (s u : State) (i : ReqId) (d : Dest) (b : FrameBody) : Prop where
  wire : u.wire = some ⟨i, d, b⟩
  req : ∀ k, u.req k = if k = i then { s.req i with pending := false } else s.req k
  same : u.sup = s.sup ∧ u.sign = s.sign ∧ u.presence = s.presence ∧ u.roster = s.roster ∧ u.orderSlots = s.orderSlots
  answered : ∀ n : LineNo, i = .claim n ∨ s.claims[n].surveyOwed = false → u.claims[n].surveyOwed = false
  flight : ∀ (n : LineNo) (a k : Bool) (cs : List Char7), b = .dataIn n a k cs → u.path[n] = { s.path[n] with inFlight := some ⟨cs.length, a, k, false, false⟩ }

theorem noteSelected_reqs (s : State) (i : ReqId) : (s.noteSelected i).reqs = s.reqs := by
  obtain ⟨claims, path, e⟩ := noteSelected_eq s i
  rw [e]

theorem noteSelected_answered {s : State} {i : ReqId} {n : LineNo} (h : i = .claim n ∨ s.claims[n].surveyOwed = false) :
    (s.noteSelected i).claims[n].surveyOwed = false := by
  by_cases own : i = .claim n
  · rw [own]
    exact noteSelected_claim s n
  · replace h := h.resolve_left own
    unfold State.noteSelected
    split
    · next m =>
      show (s.claims.set m.val _ m.isLt)[n].surveyOwed = false
      rw [vector_set_get]
      split
      · rfl
      · exact h
    · split <;> exact h
    · exact h

theorem selectReq_started {s : State} {i : ReqId} {d : Dest} {b : FrameBody} (built : s.build i = some (d, b)) : Started s (s.selectReq i) i d b := by
  rw [started_frame built]
  have reqs (k : ReqId) : (s.noteSelected i).req k = s.req k := congrArg (reqOf · k) (noteSelected_reqs s i)
  refine ⟨rfl, fun k => ?_, ?_, fun n h => noteSelected_answered h, fun n a k cs e => ?_⟩
  · refine (req_setReq (s.noteSelected i) i k _).trans ?_
    rw [reqs, reqs]
  · obtain ⟨claims, path, e⟩ := noteSelected_eq s i
    rw [e]
    exact ⟨rfl, rfl, rfl, rfl, rfl⟩
  · subst e
    obtain ⟨rfl, -⟩ := build_dataIn built
    exact noteSelected_dataIn built

/-! ## The selector -/

theorem select_started {s : State} {i : ReqId} (preferred : s.preferred s.considered = some i) (built : (s.build i).isSome = true) (fuel : Nat) :
    State.select (fuel + 1) s = s.selectReq i := by
  rw [State.select, preferred]
  exact if_pos built

theorem select_dropped {s : State} {i : ReqId} (preferred : s.preferred s.considered = some i) (none : s.build i = none) (fuel : Nat) :
    State.select (fuel + 1) s = State.select fuel (s.selectReq i) := by
  rw [State.select, preferred]
  exact if_neg (by rw [none]; exact Bool.false_ne_true)

theorem select_nothing {s : State} (nothing : s.considered = []) (fuel : Nat) : State.select fuel s = s := by
  cases fuel with
  | zero => rfl
  | succ fuel =>
    rw [State.select, nothing]
    rfl

/-- A request that stands pending and that the bus state allows. -/
def Allowed (s : State) (i : ReqId) : Prop := (s.req i).pending = true ∧ (s.bus = .active ∨ s.bus = .joining ∧ i = .beacon)

theorem allows_iff (b : BusState) (i : ReqId) : b.allows i = true ↔ b = .active ∨ b = .joining ∧ i = .beacon := by
  cases b with
  | active => exact iff_of_true rfl (Or.inl rfl)
  | silent => simp [BusState.allows]
  | joining => cases i <;> simp [BusState.allows]

theorem mem_considered_iff {s : State} (once : s.reqs.Pairwise fun a b => a.1 ≠ b.1) (i : ReqId) : i ∈ s.considered ↔ Allowed s i := by
  rw [mem_considered once, allows_iff]
  exact Iff.rfl

/-- The first of the requests allowed, in the order of R157, is the preferred one. -/
theorem preferred_of_first {s : State} (once : s.reqs.Pairwise fun a b => a.1 ≠ b.1) (short : s.queue.length ≤ 32) {i : ReqId} (allowed : Allowed s i)
    (first : ∀ j, Allowed s j → j ≠ i → Precedes s i j) : s.preferred s.considered = some i :=
  preferred_of_least ((mem_considered_iff once i).mpr allowed) fun j hj ne => selectKey_lt short (first j ((mem_considered_iff once j).mp hj) ne)

theorem mem_reqs {s : State} {i : ReqId} (allowed : Allowed s i) : (i, s.req i) ∈ s.reqs := mem_of_reqOf (pending_ne_idle allowed.1)

theorem dropped_reqs {s : State} {i : ReqId} (none : s.build i = none) : (s.selectReq i).reqs = putReq s.reqs i Req.idle := by
  have e : s.selectReq i = (s.noteSelected i).dropReq i := by
    unfold State.selectReq
    rw [none]
  rw [e, ← noteSelected_reqs s i]
  rfl

theorem Unmarked.allowed_iff {s u : State} {i : ReqId} (h : Unmarked s u i) (req : ∀ j, u.req j = if j = i then Req.idle else s.req j) (k : ReqId) :
    Allowed u k ↔ Allowed s k ∧ k ≠ i := by
  obtain ⟨q, claims, e, -⟩ := h
  have bus : u.bus = s.bus := by rw [e]
  unfold Allowed
  rw [bus, req]
  by_cases same : k = i
  · rw [if_pos same]
    exact ⟨fun h => absurd h.1 Bool.false_ne_true, fun h => absurd same h.2⟩
  · rw [if_neg same]
    exact ⟨fun h => ⟨h, same⟩, fun h => h.1⟩

theorem Unmarked.precedes_iff {s u : State} {i : ReqId} (h : Unmarked s u i) (j k : ReqId) : Precedes u j k ↔ Precedes s j k := by
  obtain ⟨q, claims, rfl, -⟩ := h
  have place (j : ReqId) : placeOf { s with reqs := q, claims := claims } j = placeOf s j := by cases j <;> rfl
  unfold Precedes
  rw [place, place]

/-- The selector after it has dropped its first request: the next one is started. -/
theorem select_next {s : State} {i j : ReqId} {d : Dest} {b : FrameBody} (once : s.reqs.Pairwise fun a b => a.1 ≠ b.1) (short : s.queue.length ≤ 32)
    (allowed : Allowed s i) (first : ∀ j, Allowed s j → j ≠ i → Precedes s i j) (none : s.build i = none) (next : Allowed s j ∧ j ≠ i)
    (second : ∀ k, Allowed s k ∧ k ≠ i → k ≠ j → Precedes s j k) (built : s.build j = some (d, b)) :
    State.select s.reqs.length s = (s.selectReq i).selectReq j ∧ (s.selectReq i).build j = some (d, b) := by
  obtain ⟨unmarked, req⟩ := dropped_unmarked none
  have length : ∃ fuel, s.reqs.length = fuel + 2 := by
    have two : [(i, s.req i), (j, s.req j)] ⊆ s.reqs := by
      intro p hp
      rcases List.mem_cons.mp hp with rfl | hp
      · exact mem_reqs allowed
      · rw [List.mem_singleton.mp hp]
        exact mem_reqs next.1
    have distinct : [(i, s.req i), (j, s.req j)].Nodup := by
      simp only [List.nodup_cons, List.mem_singleton, Prod.mk.injEq, not_and]
      exact ⟨fun e => absurd e.symm next.2, List.not_mem_nil, List.nodup_nil⟩
    have := distinct.length_le_of_subset two
    exact ⟨s.reqs.length - 2, (Nat.sub_add_cancel this).symm⟩
  obtain ⟨fuel, length⟩ := length
  have once' : (s.selectReq i).reqs.Pairwise fun a b => a.1 ≠ b.1 := by
    rw [dropped_reqs none]
    exact pairwise_putReq once _ _
  have short' : (s.selectReq i).queue.length ≤ 32 := by
    obtain ⟨q, claims, e, -⟩ := unmarked
    rw [e]
    exact short
  have built' : (s.selectReq i).build j = some (d, b) := (unmarked.build next.2).trans built
  rw [length, select_dropped (preferred_of_first once short allowed first) none]
  refine ⟨select_started (preferred_of_first once' short' ((unmarked.allowed_iff req j).mpr next) fun k hk ne =>
    (unmarked.precedes_iff j k).mpr (second k ((unmarked.allowed_iff req k).mp hk) ne)) (by rw [built']; rfl) _, built'⟩

/-- The selector after it has dropped its only request: nothing is started. -/
theorem select_last {s : State} {i : ReqId} (once : s.reqs.Pairwise fun a b => a.1 ≠ b.1) (short : s.queue.length ≤ 32)
    (allowed : Allowed s i) (only : ∀ k, Allowed s k → k = i) (none : s.build i = none) : State.select s.reqs.length s = s.selectReq i := by
  obtain ⟨unmarked, req⟩ := dropped_unmarked none
  have length := List.length_pos_of_mem (mem_reqs allowed)
  have once' : (s.selectReq i).reqs.Pairwise fun a b => a.1 ≠ b.1 := by
    rw [dropped_reqs none]
    exact pairwise_putReq once _ _
  rw [show s.reqs.length = (s.reqs.length - 1) + 1 from (Nat.sub_add_cancel length).symm,
    select_dropped (preferred_of_first once short allowed fun j hj ne => absurd (only j hj) ne) none]
  refine select_nothing (List.eq_nil_iff_forall_not_mem.mpr fun k hk => ?_) _
  obtain ⟨hk, ne⟩ := (unmarked.allowed_iff req k).mp ((mem_considered_iff once' k).mp hk)
  exact ne (only k hk)

/-! ## An idle of the bus -/

theorem build_at (s : State) (t : Moment) (i : ReqId) : (s.at t).build i = s.build i := by cases i <;> rfl

/-- What a request dropped leaves of it. -/
def Dropped (i : ReqId) (u : State) : Prop :=
  ∀ n : LineNo, ((i = .claim n ∨ i = .release n ∨ i = .admitReq n ∨ i = .runResult n) → u.req i = Req.idle) ∧ (i = .claim n → u.claims[n].surveyOwed = false)

/-- The blocks that an idle leaves as they stand. -/
def Same (s u : State) : Prop :=
  u.sup = s.sup ∧ u.sign = s.sign ∧ u.presence = s.presence ∧ u.roster = s.roster ∧ u.orderSlots = s.orderSlots

theorem Same.settle {s v : State} (h : Same s v) (before : State) (every : Bool) : Same s (v.settle before every) := by
  obtain ⟨sup, sign, presence, roster, slots⟩ := h
  exact ⟨(settle_sup _ _ _).trans sup, (settle_sign _ _ _).trans sign, (settle_presence _ _ _).trans presence, (settle_roster _ _ _).trans roster,
    (settle_orderSlots _ _ _).trans slots⟩

theorem raisedByWork_of {i : ReqId} {n : LineNo} (h : i = .claim n ∨ i = .release n ∨ i = .admitReq n ∨ i = .runResult n) : raisedByWork i = false := by
  rcases h with rfl | rfl | rfl | rfl <;> rfl

theorem Dropped.settle {i : ReqId} {v : State} (h : Dropped i v) (before : State) (every : Bool) : Dropped i (v.settle before every) := fun n =>
  ⟨fun kind => (settle_req_other (raisedByWork_of kind) _ _ _).trans ((h n).1 kind), fun e => by rw [settle_claims]; exact (h n).2 e⟩

theorem Unmarked.same {s u : State} {i : ReqId} (h : Unmarked s u i) : Same s u := by
  obtain ⟨q, claims, rfl, -⟩ := h
  exact ⟨rfl, rfl, rfl, rfl, rfl⟩

theorem exec_busIdle {t : Moment} {s : State} (free : s.wire = none) : ((fun s : State => if s.wire = none then State.select s.reqs.length s else s) (s.at t)) =
    State.select s.reqs.length (s.at t) := if_pos free

section
variable {s : State} {t : Moment} (ok : RequestsOk s) (short : s.queue.length ≤ 32) (free : s.wire = none) {i : ReqId} (allowed : Allowed s i)
  (first : ∀ j, Allowed s j → j ≠ i → Precedes s i j)
include ok short free allowed first

/-- The first request allowed is started. -/
theorem busIdle_starts {d : Dest} {b : FrameBody} (built : s.build i = some (d, b)) :
    Leads (.busIdle t) s fun u =>
      u.wire = some ⟨i, d, b⟩ ∧ (u.req i).strikes = (s.req i).strikes ∧ Same s u ∧
        (∀ n : LineNo, i = .claim n → u.claims[n].surveyOwed = false) ∧
        ∀ (n : LineNo) (a k : Bool) (cs : List Char7), b = .dataIn n a k cs →
          u.path[n].inFlight = some ⟨cs.length, a, k, false, false⟩ ∧ u.path[n].inQ = s.path[n].inQ := by
  obtain ⟨-, once, -⟩ := ok
  have built : (s.at t).build i = some (d, b) := (build_at s t i).trans built
  have length := List.length_pos_of_mem (mem_reqs allowed)
  have selected : State.select s.reqs.length (s.at t) = (s.at t).selectReq i := by
    rw [show s.reqs.length = (s.reqs.length - 1) + 1 from (Nat.sub_add_cancel length).symm]
    exact select_started (preferred_of_first (s := s.at t) once short allowed first) (by rw [built]; rfl) _
  have started := selectReq_started built
  refine leads_of_take rfl ((exec_busIdle free).trans selected) ?_
  have kept := settle_kept ((s.at t).selectReq i) (s.at t) false
  refine ⟨(settle_wire _ _ _).trans started.wire, ?_, Same.settle (s := s) started.same _ _, fun n e => ?_, fun n a k cs e => ?_⟩
  · rw [settle_strikes, started.req, if_pos rfl]
    rfl
  · rw [settle_claims]
    exact started.answered n (Or.inl e)
  · have inward := eq_of_kept_inward kept n
    rw [started.flight n a k cs e] at inward
    have flight := congrArg Path.inFlight inward
    have queue := congrArg Path.inQ inward
    exact ⟨flight, queue⟩

/-- Where the owner of the first finds nothing to build, it is dropped and the next is started. -/
theorem busIdle_starts_next (none : s.build i = none) {j : ReqId} {d : Dest} {b : FrameBody} (next : Allowed s j ∧ j ≠ i)
    (second : ∀ k, Allowed s k ∧ k ≠ i → k ≠ j → Precedes s j k) (built : s.build j = some (d, b)) :
    Leads (.busIdle t) s fun u => u.wire = some ⟨j, d, b⟩ ∧ Same s u ∧ Dropped i u := by
  obtain ⟨-, once, -⟩ := ok
  have none : (s.at t).build i = Option.none := (build_at s t i).trans none
  obtain ⟨unmarked, req⟩ := dropped_unmarked none
  obtain ⟨selected, built'⟩ := select_next (s := s.at t) once short allowed first none next second ((build_at s t j).trans built)
  have started := selectReq_started built'
  refine leads_of_take rfl ((exec_busIdle free).trans selected) ?_
  have same : Same s (((s.at t).selectReq i).selectReq j) := by
    obtain ⟨sup, sign, presence, roster, slots⟩ := started.same
    obtain ⟨sup', sign', presence', roster', slots'⟩ := unmarked.same
    exact ⟨sup.trans sup', sign.trans sign', presence.trans presence', roster.trans roster', slots.trans slots'⟩
  refine ⟨(settle_wire _ _ _).trans started.wire, same.settle _ _, Dropped.settle (fun n => ⟨fun _ => ?_, fun e => ?_⟩) _ _⟩
  · rw [started.req, if_neg (Ne.symm next.2), req, if_pos rfl]
  · obtain ⟨q, claims, e', owed, -⟩ := unmarked
    refine started.answered n (Or.inr ?_)
    rw [e']
    exact owed n e

omit first in
/-- Where it was the only one, nothing is started. -/
theorem busIdle_starts_none (none : s.build i = none) (only : ∀ k, Allowed s k → k = i) :
    Leads (.busIdle t) s fun u => u.wire = Option.none ∧ Same s u ∧ Dropped i u := by
  obtain ⟨-, once, -⟩ := ok
  have none : (s.at t).build i = Option.none := (build_at s t i).trans none
  obtain ⟨unmarked, req⟩ := dropped_unmarked none
  refine leads_of_take rfl ((exec_busIdle free).trans (select_last (s := s.at t) once short allowed only none)) ?_
  refine ⟨(settle_wire _ _ _).trans ?_, Same.settle unmarked.same _ _, Dropped.settle (fun n => ⟨fun _ => ?_, fun e => ?_⟩) _ _⟩
  · obtain ⟨q, claims, e, -⟩ := unmarked
    rw [e]
    exact free
  · rw [req, if_pos rfl]
  · obtain ⟨q, claims, e', owed, -⟩ := unmarked
    rw [e']
    exact owed n e

end

/-- With the transmitter busy, or with nothing the bus state allows, an idle starts nothing. -/
theorem busIdle_idle {s : State} {t : Moment} (h : s.wire ≠ none ∨ s.bus = .silent ∨ (RequestsOk s ∧ ∀ i, ¬Allowed s i)) :
    Gives (.busIdle t) s (s.at t) := by
  refine gives_of_eq rfl ?_
  by_cases free : s.wire = none
  · refine (exec_busIdle free).trans (select_nothing (List.eq_nil_iff_forall_not_mem.mpr fun k hk => ?_) _)
    rcases h with busy | silent | ⟨⟨-, once, -⟩, nothing⟩
    · exact busy free
    · obtain ⟨p, mem, -⟩ := List.mem_map.mp hk
      have := (List.mem_filter.mp mem).2
      rw [show (s.at t).bus = .silent from silent] at this
      exact Bool.false_ne_true ((Bool.and_false _).symm.trans this)
    · exact nothing k ((mem_considered_iff (s := s.at t) once k).mp hk)
  · exact if_neg free

end Sys2Proof.Proofs.Selection
end

section
/-! What the LC-16's own frames carry (R173, Tables 11-2 to 11-4): what each owner builds, its bytes, and that every frame built is well-formed; and with
the selector of R157 the obligation on the transmit request set. -/

namespace Sys2Proof.Proofs.Contents

open Sys2Proof Sys2Proof.Machine Sys2Proof.Proofs.Lines Sys2Proof.Proofs.Disconnect Sys2Proof.Proofs.Selection

/-! ## What the owners build -/

section
variable {s : State} {n : LineNo}

theorem build_beacon (s : State) :
    s.build .beacon =
      some (.all, .beacon
        { freshStart := !s.freshAnnounced
          configClamped := s.configClamped
          clash := s.clashTimer.isSome
          sessions := (allLines.filter fun m => s.st m = .session).length
          signOns := (allLines.filter fun m => s.st m = .signon).length
          freeLines := (allLines.filter fun m => s.st m = .idle ∧ s.mb m = false).length
          freeSlots := 32 - s.queue.length
          alarmLevel := s.alarmLevel }) := by
  have free : s.freeLines = (allLines.filter fun m => decide (s.st m = .idle ∧ s.mb m = false)).length := by
    unfold State.freeLines countLines
    refine congrArg List.length (List.filter_congr fun m _ => ?_)
    by_cases idle : s.st m = .idle
    · have mb : s.mb m = s.madeBusy m := by
        unfold State.mb
        rw [idle]
      rw [mb, idle]
      simp
    · simp [idle]
  show some (Dest.all, FrameBody.beacon s.beaconOut) = _
  unfold State.beaconOut
  rw [free]
  rfl

theorem takes_eq (p : Path) : p.takes = min (min 14 p.inQ.chars.length) (if p.attention = true ∨ p.brk = true then p.mark.getD 0 else 14) := by
  have waits : p.flagWaits = true ↔ p.attention = true ∨ p.brk = true := Bool.or_eq_true_iff
  unfold Path.takes
  dsimp only
  by_cases h : p.flagWaits = true
  · rw [if_pos h, if_pos (waits.mp h)]
  · rw [if_neg h, if_neg fun e => h (waits.mpr e)]
    omega

theorem carriesFlags_eq (p : Path) : p.carriesFlags = decide ((p.attention = true ∨ p.brk = true) ∧ p.mark = some p.takes) := by
  unfold Path.carriesFlags Path.flagWaits
  simp

theorem channel_iff (r : RosterEntry) : r.channel = true ↔ r.age < 3 ∧ r.roles.channel = true := by
  simp [RosterEntry.channel, RosterEntry.present]

section
variable {x : Session} (st : s.st n = .session) (sess : s.sess[n] = some x)
include st sess

theorem build_claim_session :
    s.build (.claim n) = some (.all, .claim n (if s.claims[n].surveyOwed then .surveyAnswer else .refresh) x.provisional x.user x.serial x.channel) := by
  show s.buildClaim n = _
  unfold State.buildClaim
  rw [st, sess]

theorem build_flow : s.build (.flow n) = s.path[n].flow.map (fun f => (.station x.channel, .flow n f)) := by
  show s.buildFlow n = _
  unfold State.buildFlow
  rw [sess]
  cases s.path[n].flow with
  | none => rfl
  | some f => exact if_pos st

omit st in
theorem build_confirm {k : Confirm} (kind : s.claims[n].admitConfirm = true) (confirm : x.confirm = some k) (prov : x.provisional = true)
    (reason : x.reason = none) : s.build (.admitReq n) = some (.accountants, .admitReq n k.serial true x.user []) := by
  show s.buildAdmitReq n = _
  unfold State.buildAdmitReq
  rw [if_pos kind, sess]
  dsimp only
  rw [confirm]
  exact if_pos (by rw [prov, reason]; rfl)

omit st in
theorem build_confirm_none (kind : s.claims[n].admitConfirm = true) (h : x.provisional = false ∨ x.reason ≠ none ∨ x.confirm = none) :
    s.build (.admitReq n) = none := by
  show s.buildAdmitReq n = _
  unfold State.buildAdmitReq
  rw [if_pos kind, sess]
  dsimp only
  split
  · next k confirm =>
    refine if_neg fun e => ?_
    obtain ⟨prov, reason⟩ := Bool.and_eq_true_iff.mp e
    rcases h with h | h | h
    · rw [h] at prov
      cases prov
    · exact h (Option.isNone_iff_eq_none.mp reason)
    · rw [confirm] at h
      cases h
  · rfl

omit st in
theorem forwardingBlocked_iff :
    s.forwardingBlocked n = true ↔
      s.path[n].channelHold = true ∨ ¬(s.roster[x.channel].age < 3 ∧ s.roster[x.channel].roles.channel = true) ∨ s.bus ≠ .active := by
  unfold State.forwardingBlocked
  rw [sess]
  dsimp only
  rw [Bool.or_eq_true, Bool.or_eq_true, Bool.not_eq_true', ← channel_iff, decide_eq_true_iff, or_assoc, Bool.not_eq_true]

omit st in
theorem build_dataIn_none (h : s.forwardingBlocked n = true ∨ s.path[n].takes = 0 ∧ s.path[n].carriesFlags = false) : s.build (.dataIn n) = none := by
  show s.buildDataIn n = _
  unfold State.buildDataIn
  dsimp only
  rw [sess]
  exact if_pos (Or.inr h)

theorem build_dataIn_some (clear : ¬s.forwardingBlocked n = true) (h : s.path[n].takes ≠ 0 ∨ s.path[n].carriesFlags = true) :
    s.build (.dataIn n) =
      some (.station x.channel,
        .dataIn n (s.path[n].carriesFlags && s.path[n].attention) (s.path[n].carriesFlags && s.path[n].brk) (s.path[n].inQ.chars.take s.path[n].takes)) := by
  show s.buildDataIn n = _
  unfold State.buildDataIn
  dsimp only
  rw [sess]
  refine if_neg ?_
  rintro (away | blocked | ⟨empty, flags⟩)
  · exact away st
  · exact clear blocked
  · rcases h with h | h
    · exact h empty
    · rw [flags] at h
      cases h

end

theorem build_claim_new {x : Context} {q : BitVec 16} {g : Granted} (st : s.st n = .signon) (sign : s.sign[n] = some x) (phase : x.phase = .claiming)
    (serial : x.sessionSerial = some q) (granted : x.granted = some g) :
    s.build (.claim n) = some (.all, .claim n .new x.provisional x.user q g.channel) := by
  show s.buildClaim n = _
  unfold State.buildClaim
  rw [st, sign]
  dsimp only
  rw [if_pos phase, serial, granted]
  rfl

theorem build_claim_phase {x : Context} (st : s.st n = .signon) (sign : s.sign[n] = some x) (phase : x.phase ≠ .claiming) : s.build (.claim n) = none := by
  show s.buildClaim n = _
  unfold State.buildClaim
  rw [st, sign]
  exact if_neg phase

theorem build_admitReq_new {x : Context} {q : BitVec 8} (kind : s.claims[n].admitConfirm = false) (sign : s.sign[n] = some x)
    (serial : x.requestSerial = some q) :
    s.build (.admitReq n) = if x.phase = .asking then some (.accountants, .admitReq n q false x.user x.code) else none := by
  show s.buildAdmitReq n = _
  unfold State.buildAdmitReq
  rw [if_neg (by rw [kind]; exact Bool.false_ne_true), sign]
  dsimp only
  rw [serial]

theorem build_claim_other (signon : s.st n ≠ .signon) (session : s.st n ≠ .session) : s.build (.claim n) = none := by
  show s.buildClaim n = _
  unfold State.buildClaim
  split
  · next h => exact absurd h signon
  · next h => exact absurd h session
  all_goals rfl

theorem build_path_other (session : s.st n ≠ .session) : s.build (.flow n) = none ∧ s.build (.dataIn n) = none := by
  constructor
  · show s.buildFlow n = _
    unfold State.buildFlow
    split
    · exact if_neg session
    · rfl
  · show s.buildDataIn n = _
    unfold State.buildDataIn
    dsimp only
    split
    · exact if_pos (Or.inl session)
    · rfl

theorem build_charge {before after : List Queued} {q : Queued} (queue : s.queue = before ++ q :: after) (offered : q.offered = true)
    (first : ∀ r ∈ before, r.charge.serial ≠ q.charge.serial) : s.build (.charge q.charge.serial) = some (.accountants, .charge q.charge) := by
  have found : (s.queue.find? fun r => r.charge.serial = q.charge.serial && r.offered) = some q := by
    rw [queue, List.find?_append]
    have none : (before.find? fun r => r.charge.serial = q.charge.serial && r.offered) = none :=
      List.find?_eq_none.mpr fun r hr e => first r hr (of_decide_eq_true (Bool.and_eq_true_iff.mp e).1)
    rw [none, Option.none_or, List.find?_cons_of_pos]
    simp [offered]
  show (s.queue.find? _).map _ = _
  rw [found]
  rfl

theorem build_charge_none {serial : BitVec 8} (h : ∀ r ∈ s.queue, r.charge.serial = serial → r.offered = false) : s.build (.charge serial) = none := by
  have none : (s.queue.find? fun r => r.charge.serial = serial && r.offered) = none := List.find?_eq_none.mpr fun r hr e => by
    obtain ⟨same, offered⟩ := Bool.and_eq_true_iff.mp e
    rw [h r hr (of_decide_eq_true same)] at offered
    cases offered
  show (s.queue.find? _).map _ = _
  rw [none]
  rfl

/-- The least line that meets a test is the one found. -/
theorem find_allLines {p : LineNo → Bool} (h : p n = true) (least : ∀ m, m < n → p m = false) : allLines.find? p = some n := by
  have split : ∀ n : LineNo, allLines = allLines.take n ++ n :: allLines.drop (n + 1) := by decide
  have early : ∀ n : LineNo, ∀ m ∈ allLines.take n, m < n := by decide
  rw [split n, List.find?_append, List.find?_eq_none.mpr fun m hm e => by rw [least m (early n m hm)] at e; cases e]
  exact List.find?_cons_of_pos h

theorem build_lineState {tag : Fin 64} (own : s.cfg.tags[n] = some tag) (first : ∀ m : LineNo, m < n → s.cfg.tags[m] ≠ some tag) :
    s.build (.lineState tag) =
      some (.all, .lineState tag
        { busy := decide (s.st n ≠ .idle ∧ s.st n ≠ .out)
          out := decide (s.st n = .out)
          session := decide (s.st n = .session)
          fault := s.sup[n].fault
          mb := s.mb n }) := by
  have found : s.lineOfTag tag = some n := find_allLines (decide_eq_true own) fun m hm => decide_eq_false (first m hm)
  show (s.lineOfTag tag).map _ = _
  rw [found]
  unfold State.signals State.signalsWith
  simp

theorem build_orderResult {slot : Fin 17} {r : OrderResult} (h : s.orderSlots[slot] = some r) :
    s.build (.orderResult slot) =
      some (.station r.station, .orderResult r (match r.outcome with | .reportData g _ => s.counters.report g | _ => [])) := by
  show s.orderSlots[slot].map _ = _
  rw [h]
  rfl

end

/-! ## The fields and the bytes (Tables 11-1 to 11-4) -/

/-- A flag at its place in a byte. -/
def flagAt (x : Bool) (v : Nat) : Nat := if x then v else 0

theorem flagAt_eq (x : Bool) (v : Nat) : flagAt x v = v * x.toNat := by cases x <;> simp [flagAt]

theorem flag1_eq (x : Bool) : flag1 x = [BitVec.ofNat 8 (flagAt x 1)] := by cases x <;> rfl

theorem raw_fields (i : ReqId) (d : Dest) (x : FrameBody) (src : Station) :
    (WireFrame.raw ⟨i, d, x⟩ src).level.toNat = (codes i).1 ∧ (WireFrame.raw ⟨i, d, x⟩ src).kind.toNat = (codes i).2 ∧
      (WireFrame.raw ⟨i, d, x⟩ src).source.toNat = src.val ∧
      (WireFrame.raw ⟨i, d, x⟩ src).dest.toNat = (match d with | .station q => q.val | .accountants => 30 | .all => 31) ∧
      (WireFrame.raw ⟨i, d, x⟩ src).length = BitVec.ofNat 5 x.payload.length ∧ (WireFrame.raw ⟨i, d, x⟩ src).payload = x.payload := by
  obtain ⟨level, kind⟩ := codes_lt i
  refine ⟨?_, ?_, ?_, ?_, rfl, rfl⟩
  · show i.precedence.1 % 8 = _
    rw [codes_eq, Nat.mod_eq_of_lt level]
  · show i.precedence.2 % 32 = _
    rw [codes_eq, Nat.mod_eq_of_lt kind]
  · exact Nat.mod_eq_of_lt src.isLt
  · cases d with
    | station q => exact Nat.mod_eq_of_lt (Nat.lt_trans q.isLt (by decide))
    | accountants => rfl
    | all => rfl

theorem payload_beacon (x : BeaconOut) :
    FrameBody.payload (.beacon x) =
      [1, BitVec.ofNat 8 (flagAt x.freshStart 1), BitVec.ofNat 8 (flagAt x.configClamped 1), BitVec.ofNat 8 (flagAt x.clash 1), BitVec.ofNat 8 x.sessions,
        BitVec.ofNat 8 x.signOns, BitVec.ofNat 8 x.freeLines, BitVec.ofNat 8 x.freeSlots, BitVec.ofNat 8 (16 * x.alarmLevel), 0] := by
  have level : byte2 (4096 * x.alarmLevel) = [BitVec.ofNat 8 (16 * x.alarmLevel), 0] := by
    have high : 4096 * x.alarmLevel / 256 = 16 * x.alarmLevel := by omega
    have low : BitVec.ofNat 8 (4096 * x.alarmLevel) = 0 := BitVec.eq_of_toNat_eq (by simp; omega)
    unfold byte2
    rw [high, low]
  simp only [FrameBody.payload]
  rw [level, flag1_eq, flag1_eq, flag1_eq]
  rfl

theorem payload_charge_flags (a b c d e f : Bool) :
    bits1 [a, b, c, d, e, f] = [BitVec.ofNat 8 (flagAt a 1 + flagAt b 2 + flagAt c 4 + flagAt d 8 + flagAt e 16 + flagAt f 32)] := by
  refine congrArg (fun v => [BitVec.ofNat 8 v]) ?_
  simp only [List.foldr, flagAt_eq]
  ring

theorem payload_signal_flags (a b c d e : Bool) :
    bits1 [a, b, c, d, e] = [BitVec.ofNat 8 (flagAt a 1 + flagAt b 2 + flagAt c 4 + flagAt d 8 + flagAt e 16)] := by
  refine congrArg (fun v => [BitVec.ofNat 8 v]) ?_
  simp only [List.foldr, flagAt_eq]
  ring

theorem payload_data_flags (a b : Bool) : bits1 [a, b] = [BitVec.ofNat 8 (flagAt a 1 + flagAt b 2)] := by
  refine congrArg (fun v => [BitVec.ofNat 8 v]) ?_
  simp only [List.foldr, flagAt_eq]
  ring

theorem codeBytes_eq (cs : List Char7) : codeBytes cs = (List.range 8).map fun j => ((cs[j]?).map fun x => x.setWidth 8).getD 0 := by
  refine List.ext_getElem (by simp [codeBytes]) fun j hj hj' => ?_
  have small : j < 8 := by simpa using hj'
  rw [List.getElem_map, List.getElem_range]
  simp only [codeBytes, List.getElem_take, List.getElem_append]
  by_cases inside : j < cs.length
  · rw [dif_pos (by simpa using inside), List.getElem_map, List.getElem?_eq_getElem inside]
    rfl
  · rw [dif_neg (by simpa using inside), List.getElem_replicate, List.getElem?_eq_none (Nat.le_of_not_lt inside)]
    rfl

/-- The three bytes of a user number. -/
def userBytes (v : Nat) : List Byte :=
  [BitVec.ofNat 8 (16 * (v / 100000 % 10) + v / 10000 % 10), BitVec.ofNat 8 (16 * (v / 1000 % 10) + v / 100 % 10),
    BitVec.ofNat 8 (16 * (v / 10 % 10) + v % 10)]

theorem bcd3_eq (v : Nat) : bcd3 v = userBytes v := by simp [bcd3, userBytes]

theorem payload_release (n : LineNo) (r : ReleaseSlot) :
    FrameBody.payload (.release n r) =
      [BitVec.ofNat 8 n] ++ userBytes r.user ++ [BitVec.ofNat 8 (r.serial.toNat / 256), BitVec.ofNat 8 r.serial.toNat] ++ [BitVec.ofNat 8 r.reason.code] := by
  simp only [FrameBody.payload, bcd3_eq]
  rfl

theorem payload_claim (n : LineNo) (k : ClaimKind) (prov : Bool) (u : Nat) (q : BitVec 16) (ch : Station) :
    FrameBody.payload (.claim n k prov u q ch) =
      [BitVec.ofNat 8 n, BitVec.ofNat 8 (k.code + flagAt prov 128)] ++ userBytes u ++ [BitVec.ofNat 8 (q.toNat / 256), BitVec.ofNat 8 q.toNat] ++
        [BitVec.ofNat 8 ch] := by
  simp only [FrameBody.payload, bcd3_eq, flagAt_eq]
  rfl

theorem payload_charge (x : Charge) :
    FrameBody.payload (.charge x) =
      [x.serial, BitVec.ofNat 8 x.line] ++ userBytes x.user ++ byte2 (x.startMinute.getD 0xFFFF) ++ byte3 x.duration ++ byte3 x.units ++
        [BitVec.ofNat 8 x.reason.code,
          BitVec.ofNat 8 (flagAt x.provisional 1 + flagAt x.lateConfirmed 2 + flagAt x.clockUnset 4 + flagAt x.timebase 8 + flagAt x.saturated 16 +
            flagAt x.held 32)] := by
  simp only [FrameBody.payload, bcd3_eq, payload_charge_flags, List.append_assoc]
  rfl

theorem payload_admitReq (n : LineNo) (q : BitVec 8) (confirm : Bool) (u : Nat) (code : List Char7) :
    FrameBody.payload (.admitReq n q confirm u code) =
      [BitVec.ofNat 8 n, q, BitVec.ofNat 8 (code.length + flagAt confirm 128)] ++ userBytes u ++
        (List.range 8).map fun j => ((code[j]?).map fun x => x.setWidth 8).getD 0 := by
  simp only [FrameBody.payload]
  rw [codeBytes_eq, bcd3_eq, flagAt_eq, Nat.add_comm]
  rfl

/-! ## Every frame built is well-formed (R154) -/

/-- The payload length of every frame built is one Table 11-2 gives for its kind. -/
theorem built_length {s : State} {i : ReqId} {d : Dest} {b : FrameBody} (built : s.build i = some (d, b)) :
    i.kind.lengths.1 ≤ b.payload.length ∧ b.payload.length ≤ i.kind.lengths.2 := by
  cases i with
  | beacon | survey => cases built; exact ⟨Nat.le_refl _, Nat.le_refl _⟩
  | flow n =>
    have built : s.buildFlow n = _ := built
    unfold State.buildFlow at built
    repeat' split at built
    all_goals cases built
    exact ⟨Nat.le_refl _, Nat.le_refl _⟩
  | claim n =>
    have built : s.buildClaim n = _ := built
    unfold State.buildClaim at built
    repeat' split at built
    all_goals cases built
    all_goals exact ⟨Nat.le_refl _, Nat.le_refl _⟩
  | admitReq n =>
    have length (q : BitVec 8) (confirm : Bool) (u : Nat) (code : List Char7) : (FrameBody.payload (.admitReq n q confirm u code)).length = 14 := by
      rw [payload_admitReq]
      simp [userBytes]
    have built : s.buildAdmitReq n = _ := built
    unfold State.buildAdmitReq at built
    repeat' split at built
    all_goals cases built
    all_goals exact ⟨Nat.le_of_eq (length _ _ _ _).symm, Nat.le_of_eq (length _ _ _ _)⟩
  | release n =>
    obtain ⟨x, -, e⟩ := Option.map_eq_some_iff.mp built
    cases e
    exact ⟨Nat.le_refl _, Nat.le_refl _⟩
  | charge serial =>
    obtain ⟨x, -, e⟩ := Option.map_eq_some_iff.mp built
    cases e
    exact ⟨Nat.le_refl _, Nat.le_refl _⟩
  | lineState tag =>
    obtain ⟨x, -, e⟩ := Option.map_eq_some_iff.mp built
    cases e
    exact ⟨Nat.le_refl _, Nat.le_refl _⟩
  | runResult n =>
    obtain ⟨x, -, e⟩ := Option.map_eq_some_iff.mp built
    cases e
    exact ⟨Nat.le_of_ble_eq_true rfl, Nat.le_of_ble_eq_true rfl⟩
  | orderResult slot =>
    obtain ⟨x, -, e⟩ := Option.map_eq_some_iff.mp built
    cases e
    have report : ∀ g : Fin 3, (s.counters.report g).length ≤ 13 := by
      intro g
      match g with
      | 0 => exact Nat.le_succ 12
      | 1 => exact Nat.le_succ 12
      | 2 => exact Nat.le_refl 13
    have data : (resultData s.counters x.outcome).length ≤ 13 := by
      unfold resultData
      split
      · exact report _
      · exact Nat.zero_le _
    show 3 ≤ List.length _ ∧ List.length _ ≤ 16
    simp only [FrameBody.payload, byte1, List.length_append, List.length_singleton]
    omega
  | dataIn n =>
    have built : s.buildDataIn n = _ := built
    unfold State.buildDataIn at built
    dsimp only at built
    repeat' split at built
    all_goals cases built
    have taken : s.path[n].takes ≤ 14 := by
      rw [takes_eq]
      omega
    show 2 ≤ List.length _ ∧ List.length _ ≤ 16
    simp only [FrameBody.payload, byte1, bits1, List.length_append, List.length_singleton, List.length_map, List.length_take]
    omega

theorem kindOf_codes (i : ReqId) : kindOf (codes i).1 (codes i).2 = some i.kind := by cases i <;> rfl

theorem lengths_le (k : FrameKind) : k.lengths.2 ≤ 16 := by cases k <;> decide

theorem raw_crc (w : WireFrame) (src : Station) : (w.raw src).crc = crcOf (coveredBits (w.raw src)) := by
  simp only [WireFrame.raw, coveredBits]

theorem wellFormed_of {f : RawFrame} {k : FrameKind} (kind : kindOf f.level.toNat f.kind.toNat = some k) (dest : destValid f.dest = true)
    (length : f.length = BitVec.ofNat 5 f.payload.length) (least : k.lengths.1 ≤ f.payload.length) (most : f.payload.length ≤ k.lengths.2)
    (crc : f.crc = crcOf (coveredBits f)) : frameWellFormed f = true := by
  have short : f.payload.length < 2 ^ 5 := Nat.lt_of_le_of_lt (Nat.le_trans most (lengths_le k)) (by decide)
  have lengths : frameLengthValid f = true := by
    unfold frameLengthValid
    rw [kind, length]
    dsimp only
    rw [BitVec.toNat_ofNat, Nat.mod_eq_of_lt short, decide_eq_true least, decide_eq_true most, decide_eq_true rfl]
    rfl
  unfold frameWellFormed
  rw [dest, lengths, Bool.and_true, Bool.and_true]
  exact decide_eq_true crc.symm

theorem destValid_of {d : Dest} {v : BitVec 5} (h : v.toNat = (match d with | .station q => q.val | .accountants => 30 | .all => 31)) :
    destValid v = true := by
  unfold destValid
  rw [h]
  cases d with
  | station q => simp
  | accountants | all => rfl

theorem built_wellFormed {s : State} {i : ReqId} {d : Dest} {b : FrameBody} (built : s.build i = some (d, b)) :
    frameWellFormed (WireFrame.raw ⟨i, d, b⟩ s.station) = true := by
  obtain ⟨level, kind, -, dest, length, payload⟩ := raw_fields i d b s.station
  obtain ⟨least, most⟩ := built_length built
  refine wellFormed_of (k := i.kind) ?_ (destValid_of dest) (by rw [length, payload]) (by rw [payload]; exact least) (by rw [payload]; exact most)
    (raw_crc _ _)
  rw [level, kind]
  exact kindOf_codes i

/-- Settles O41: the first request in the order of R157 has the least key of the selector, a request dropped changes neither the place of another nor what
its owner builds; then owner by owner what is built, kind by kind its bytes. -/
theorem selectorStartsThePreferredFrame : Obligations.SelectorStartsThePreferredFrame := by
  unfold Obligations.SelectorStartsThePreferredFrame
  refine ⟨fun t s => ⟨fun ok short free i first => ⟨fun d b built => ?_, fun none => ⟨fun j d b second built => ?_, fun only => ?_⟩⟩, fun h => ?_⟩,
    fun s n => ⟨rfl, build_beacon s, rfl, rfl, fun x st sess => ⟨build_claim_session st sess, build_flow st sess,
      fun k kind confirm prov reason => build_confirm sess kind confirm prov reason, fun kind h => build_confirm_none sess kind h, ?_, ?_⟩,
      fun x q g st sign phase serial granted => build_claim_new st sign phase serial granted, fun x st sign phase => build_claim_phase st sign phase,
      fun x q kind sign serial => build_admitReq_new kind sign serial, build_claim_other, build_path_other,
      fun before after q queue offered first => build_charge queue offered first, fun serial h => build_charge_none h,
      fun tag own first => build_lineState own first, fun slot r h => build_orderResult h,
      ⟨fun i d x => raw_fields i d x s.station, payload_beacon, rfl, fun f => ?_, fun r => ?_, fun k prov u q ch => ?_, payload_admitReq n, fun x => ?_,
        fun tag g => ?_, fun r data => ?_, fun r => ?_, fun attention brk cs => ?_, rfl, rfl, rfl⟩, fun i d b built => built_wellFormed built⟩⟩
  · exact busIdle_starts ok short free first.1 first.2 built
  · exact busIdle_starts_next ok short free first.1 first.2 none second.1 second.2 built
  · exact busIdle_starts_none ok short free first.1 none only
  · exact busIdle_idle h
  · rw [← takes_eq, ← carriesFlags_eq, ← forwardingBlocked_iff sess]
    exact fun h => build_dataIn_none sess h
  · rw [← takes_eq, ← carriesFlags_eq, ← forwardingBlocked_iff sess]
    exact fun clear h => build_dataIn_some st sess clear h
  · cases f <;> rfl
  · refine (payload_release n r).trans (congrArg (fun c : Byte => _ ++ [c]) ?_)
    cases r.reason with
    | closed x => cases x <;> rfl
    | withdrawn => rfl
  · refine (payload_claim n k prov u q ch).trans ?_
    cases k <;> rfl
  · refine (payload_charge x).trans ?_
    cases x.startMinute <;> cases x.reason <;> rfl
  · show byte1 tag ++ bits1 _ = _
    rw [payload_signal_flags]
    rfl
  · show [BitVec.ofNat 8 r.kind.code, r.line, BitVec.ofNat 8 r.outcome.code] ++ data = _
    cases r.kind <;> cases r.outcome <;> rfl
  · simp only [FrameBody.payload, flag1_eq]
    cases r.verdict <;> cases r.speed <;> rfl
  · show byte1 n ++ bits1 _ ++ _ = _
    rw [payload_data_flags]
    rfl

end Sys2Proof.Proofs.Contents
end

section
/-! What the Start-Up Loader reads from an image of the store (R3, R128, R131, R169, R174, Table 11-5), item by item: each value from the bytes at its
offset, and the readings that set config-clamped. -/

namespace Sys2Proof.Proofs.Images

open Sys2Proof Sys2Proof.Machine

/-! ## Ranges -/

theorem clampTo_nearest {lo hi : Nat} (h : lo ≤ hi) (v : Nat) : clampTo lo hi v = nearest lo hi v := by
  unfold clampTo nearest
  split
  · omega
  · split <;> omega

theorem nearest_bounds {lo hi : Nat} (h : lo ≤ hi) (v : Nat) : lo ≤ nearest lo hi v ∧ nearest lo hi v ≤ hi := by
  unfold nearest
  split
  · exact ⟨Nat.le_refl _, h⟩
  · split <;> omega

theorem clampFin_nearest (n v : Nat) : (clampFin n v).val = nearest 0 n v := by
  show min v n = _
  unfold nearest
  rw [if_neg (Nat.not_lt_zero v)]
  split <;> omega

theorem ranged_val {lo hi : Nat} (h : lo ≤ hi) (v : Nat) : (ranged lo hi v).val = nearest lo hi v := clampTo_nearest h v

theorem ranged_clamped (lo hi v : Nat) : (ranged lo hi v).clamped = true ↔ outside lo hi v := by simp [ranged, outside]

theorem ranged_zero_clamped (hi v : Nat) : (ranged 0 hi v).clamped = true ↔ hi < v := by simp [ranged]

theorem rangedFin_val (n v : Nat) : (rangedFin n v).val.val = nearest 0 n v := clampFin_nearest n v

theorem rangedFin_clamped (n v : Nat) : (rangedFin n v).clamped = true ↔ n < v := decide_eq_true_iff

/-! ## Bytes, words and tables -/

theorem getD_slice {img : List Byte} {o len i : Nat} (h : i < len) : (slice img o len).getD i 0 = img.getD (o + i) 0 := by
  unfold slice
  rw [List.getD_eq_getElem?_getD, List.getD_eq_getElem?_getD, List.getElem?_take_of_lt h, List.getElem?_drop]

theorem at1_slice {img : List Byte} {o len i : Nat} (h : i < len) : at1 (slice img o len) i = img.getD (o + i) 0 := getD_slice h

theorem num1_slice {img : List Byte} {o len i : Nat} (h : i < len) : num1 (slice img o len) i = imageByte img (o + i) := congrArg BitVec.toNat (getD_slice h)

theorem num2_slice {img : List Byte} {o len i : Nat} (h : i + 1 < len) : num2 (slice img o len) i = imageWord img (o + i) := by
  unfold num2
  rw [num1_slice (Nat.lt_of_succ_lt h), num1_slice h]
  rfl

theorem num4_slice {img : List Byte} {o len i : Nat} (h : i + 3 < len) : num4 (slice img o len) i = imageMask img (o + i) := by
  unfold num4
  rw [num2_slice (by omega), num2_slice (by omega)]
  rfl

theorem imageByte_lt (img : List Byte) (k : Nat) : imageByte img k < 256 := (img.getD k 0).isLt

theorem charOf_byte (img : List Byte) (k : Nat) : charOf (img.getD k 0) = imageChar img k := BitVec.eq_of_toNat_eq (by simp [charOf, imageChar, imageByte])

theorem flagByte_eq (img : List Byte) (k : Nat) : flagByte (img.getD k 0) = decide (imageByte img k ≠ 0) := by
  have zero : img.getD k 0 = 0 ↔ imageByte img k = 0 := ⟨fun h => by unfold imageByte; rw [h]; rfl, fun h => BitVec.eq_of_toNat_eq h⟩
  unfold flagByte
  exact decide_eq_decide.mpr (not_congr zero)

theorem loadTable_val {α : Type} {n : Nat} (f : Fin n → Loaded α) (i : Fin n) : (loadTable n f).val[i] = (f i).val := tabulate_get _ i

theorem loadTable_clamped {α : Type} {n : Nat} (f : Fin n → Loaded α) : (loadTable n f).clamped = true ↔ ∃ i, (f i).clamped = true := by
  simp [loadTable]

/-! ## Hunt groups (R3) -/

theorem byte_mod (b : Byte) : b.setWidth 6 = (0 : BitVec 6) ↔ b.toNat % 64 = 0 := by
  rw [← BitVec.toNat_inj]
  simp

theorem loadParity_eq (v : Nat) : (loadParity v).val = if v = 1 then .even else if v = 2 then .odd else .off := by
  unfold loadParity
  split <;> simp_all [plain]

theorem loadParity_clamped (v : Nat) : (loadParity v).clamped = true ↔ 2 < v := by
  unfold loadParity
  split
  · simp [plain]
  · simp [plain]
  · simp [plain]
  · next zero one two =>
    have zero : v ≠ 0 := zero
    have one : v ≠ 1 := one
    have two : v ≠ 2 := two
    exact iff_of_true rfl (by omega)

section
variable (img : List Byte) (o : Nat)

theorem loadGroup_item : groupItem img o (loadGroup (slice img o 8)).val := by
  unfold loadGroup
  dsimp only
  simp only [at1_slice (img := img) (o := o) (len := 8) (by decide : 0 < 8), at1_slice (img := img) (o := o) (len := 8) (by decide : 2 < 8),
    at1_slice (img := img) (o := o) (len := 8) (by decide : 3 < 8), at1_slice (img := img) (o := o) (len := 8) (by decide : 4 < 8),
    num1_slice (img := img) (o := o) (len := 8) (by decide : 1 < 8), num1_slice (img := img) (o := o) (len := 8) (by decide : 5 < 8),
    num1_slice (img := img) (o := o) (len := 8) (by decide : 6 < 8), num1_slice (img := img) (o := o) (len := 8) (by decide : 7 < 8)]
  refine ⟨fun k => ?_, loadParity_eq _, rfl, ?_, ?_, ranged_val (by decide) _, ranged_val (by decide) _, ?_⟩
  · dsimp only
    have empty := byte_mod (img.getD (o + 0) 0)
    by_cases h : imageByte img o % 64 = 0
    · rw [if_pos (empty.mpr h), decide_eq_true h, Bool.or_true]
      revert k
      decide
    · rw [if_neg fun e => h (empty.mp e), decide_eq_false h, Bool.or_false, BitVec.getLsbD_setWidth, decide_eq_true k.isLt, Bool.true_and]
      rfl
  · rw [charOf_byte]
    rfl
  · rw [charOf_byte]
    rfl
  · dsimp only
    rw [ranged_val (by decide), ranged_val (by decide)]

theorem loadGroup_clamped : (loadGroup (slice img o 8)).clamped = true ↔ groupClamps img o := by
  unfold loadGroup groupClamps
  dsimp only
  simp only [at1_slice (img := img) (o := o) (len := 8) (by decide : 0 < 8),
    num1_slice (img := img) (o := o) (len := 8) (by decide : 1 < 8), num1_slice (img := img) (o := o) (len := 8) (by decide : 5 < 8),
    num1_slice (img := img) (o := o) (len := 8) (by decide : 6 < 8), num1_slice (img := img) (o := o) (len := 8) (by decide : 7 < 8),
    Bool.or_eq_true, loadParity_clamped, ranged_clamped, decide_eq_true_iff, byte_mod, ranged_val (show 3 ≤ 16 by decide), ranged_val (show 1 ≤ 4 by decide),
    or_assoc]
  exact Iff.rfl

/-! ## Times, classes, the provisional grant and the tariffs (R4, R57, R99) -/

theorem loadTimes_val :
    (loadTimes (slice img 0x44 11)).val =
      { ringMin := nearest 50 1000 (imageWord img 0x44)
        ringMax := nearest 1000 6000 (imageWord img 0x46)
        ringSilence := nearest 4 15 (imageByte img 0x48)
        carrierQualify := nearest 100 1000 (imageWord img 0x49)
        carrierWait := nearest 5 60 (imageByte img 0x4B)
        carrierLoss := nearest 100 2000 (imageWord img 0x4C)
        hangupGuard := nearest 1 10 (imageByte img 0x4E) } := by
  unfold loadTimes
  dsimp only
  rw [num2_slice (by decide), num2_slice (by decide), num1_slice (by decide), num2_slice (by decide), num1_slice (by decide), num2_slice (by decide),
    num1_slice (by decide), ranged_val (by decide), ranged_val (by decide), ranged_val (by decide), ranged_val (by decide), ranged_val (by decide),
    ranged_val (by decide), ranged_val (by decide)]

theorem loadTimes_clamped :
    (loadTimes (slice img 0x44 11)).clamped = true ↔
      outside 50 1000 (imageWord img 0x44) ∨ outside 1000 6000 (imageWord img 0x46) ∨ outside 4 15 (imageByte img 0x48) ∨
        outside 100 1000 (imageWord img 0x49) ∨ outside 5 60 (imageByte img 0x4B) ∨ outside 100 2000 (imageWord img 0x4C) ∨
        outside 1 10 (imageByte img 0x4E) := by
  unfold loadTimes
  dsimp only
  rw [num2_slice (by decide), num2_slice (by decide), num1_slice (by decide), num2_slice (by decide), num1_slice (by decide), num2_slice (by decide),
    num1_slice (by decide)]
  simp only [Bool.or_eq_true, ranged_clamped, or_assoc]

theorem loadClass_val : (loadClass (slice img o 2)).val = ⟨nearest 0 240 (imageByte img o), decide (imageByte img (o + 1) ≠ 0)⟩ := by
  unfold loadClass
  dsimp only
  rw [num1_slice (by decide), at1_slice (by decide), ranged_val (by decide), flagByte_eq]
  rfl

theorem loadClass_clamped : (loadClass (slice img o 2)).clamped = true ↔ 240 < imageByte img o := by
  unfold loadClass
  dsimp only
  rw [num1_slice (by decide), ranged_zero_clamped]
  rfl

theorem loadTariff_items :
    (∀ h : Fin 168, ((loadTariff (slice img o 178)).val.bands[h]).val = nearest 0 3 (imageByte img (o + h))) ∧
      (∀ b : Fin 4, (loadTariff (slice img o 178)).val.rates[b] = nearest 0 9999 (imageWord img (o + 168 + 2 * b))) ∧
      (loadTariff (slice img o 178)).val.fee = imageByte img (o + 176) ∧ (loadTariff (slice img o 178)).val.minimum = imageByte img (o + 177) := by
  refine ⟨fun h => ?_, fun b => ?_, num1_slice (by decide), num1_slice (by decide)⟩
  · refine (congrArg Fin.val (loadTable_val _ h)).trans ((rangedFin_val _ _).trans ?_)
    rw [num1_slice (by omega)]
  · refine (loadTable_val _ b).trans ((ranged_val (by decide) _).trans ?_)
    rw [num2_slice (by omega), Nat.add_assoc]

theorem loadTariff_clamped :
    (loadTariff (slice img o 178)).clamped = true ↔
      (∃ h : Fin 168, 3 < imageByte img (o + h)) ∨ ∃ b : Fin 4, 9999 < imageWord img (o + 168 + 2 * b) := by
  refine Bool.or_eq_true_iff.trans (or_congr ?_ ?_)
  · refine (loadTable_clamped _).trans (exists_congr fun h => ?_)
    rw [rangedFin_clamped, num1_slice (by omega)]
  · refine (loadTable_clamped _).trans (exists_congr fun b => ?_)
    rw [ranged_zero_clamped, num2_slice (by omega), Nat.add_assoc]

theorem loadProvisional_val :
    (loadProvisional (slice img 0x65 10)).val.cls.val = nearest 0 7 (imageByte img 0x66) ∧
      (loadProvisional (slice img 0x65 10)).val.limit = nearest 1 7 (imageByte img 0x67) ∧
      (loadProvisional (slice img 0x65 10)).val.allowance = nearest 1 65535 (imageWord img 0x68) ∧
      (loadProvisional (slice img 0x65 10)).val.table.val = nearest 0 3 (imageByte img 0x6A) ∧
      (loadProvisional (slice img 0x65 10)).val.channel.val = nearest 0 15 (imageByte img 0x6B) := by
  unfold loadProvisional
  dsimp only
  rw [num1_slice (by decide), num1_slice (by decide), num2_slice (by decide), num1_slice (by decide), num1_slice (by decide), rangedFin_val, rangedFin_val,
    rangedFin_val, ranged_val (by decide), ranged_val (by decide)]
  exact ⟨rfl, rfl, rfl, rfl, rfl⟩

theorem loadProvisional_clamped :
    (loadProvisional (slice img 0x65 10)).clamped = true ↔
      7 < imageByte img 0x66 ∨ outside 1 7 (imageByte img 0x67) ∨ outside 1 65535 (imageWord img 0x68) ∨ 3 < imageByte img 0x6A ∨ 15 < imageByte img 0x6B := by
  unfold loadProvisional
  dsimp only
  rw [num1_slice (by decide), num1_slice (by decide), num2_slice (by decide), num1_slice (by decide), num1_slice (by decide)]
  simp only [Bool.or_eq_true, ranged_clamped, rangedFin_clamped, or_assoc]

/-! ## Texts (R45, R169) -/

theorem loadText_val {limit : Nat} (fits : o + (limit + 1) ≤ img.length) :
    (loadText limit (slice img o (limit + 1))).val = (List.range (min limit (imageByte img o))).map fun j => imageChar img (o + 1 + j) := by
  have length : (slice img o (limit + 1)).length = limit + 1 := by
    unfold slice
    rw [List.length_take, List.length_drop]
    omega
  unfold loadText
  dsimp only
  rw [num1_slice (Nat.succ_pos limit)]
  refine List.ext_getElem (by simp [length]) fun j hj hj' => ?_
  have small : j < min limit (imageByte img o) := by simpa using hj'
  have inside : o + 1 + j < img.length := by omega
  rw [List.getElem_map, List.getElem_take, List.getElem_drop, List.getElem_map, List.getElem_range, ← charOf_byte, List.getD_eq_getElem _ _ inside]
  congr 1
  unfold slice
  rw [List.getElem_take, List.getElem_drop]
  congr 1
  omega

theorem loadText_clamped (limit : Nat) : (loadText limit (slice img o (limit + 1))).clamped = true ↔ limit < imageByte img o := by
  unfold loadText
  dsimp only
  rw [num1_slice (Nat.succ_pos limit)]
  exact decide_eq_true_iff

/-! ## Forward tags (R128) -/

theorem loadTag_val (n : LineNo) : (loadTag (imageByte img (0x34 + n))).val.map Fin.val = tagItem img n := by
  unfold loadTag tagItem
  split
  · rfl
  · exact congrArg some (Nat.min_comm _ _)

theorem loadTag_clamped (v : Nat) : (loadTag v).clamped = true ↔ 63 < v ∧ v ≠ 255 := by
  unfold loadTag
  split
  · next h => exact iff_of_false Bool.false_ne_true fun e => e.2 h
  · next h => exact decide_eq_true_iff.trans ⟨fun e => ⟨e, h⟩, fun e => e.1⟩

theorem dedupTags_val (n : LineNo) :
    ((dedupTags (loadTable 16 fun n => loadTag (num1 img (0x34 + n.val))).val)[n]).map Fin.val =
      if ∃ m : LineNo, m < n ∧ tagItem img m = tagItem img n then none else tagItem img n := by
  have item (m : LineNo) : ((loadTable 16 fun n => loadTag (num1 img (0x34 + n.val))).val[m]).map Fin.val = tagItem img m := by
    rw [loadTable_val]
    exact loadTag_val img m
  generalize (loadTable 16 fun n => loadTag (num1 img (0x34 + n.val))).val = v at item ⊢
  have same (m : LineNo) : v[m] = v[n] ↔ tagItem img m = tagItem img n := by
    rw [← item, ← item]
    exact (Option.map_injective Fin.val_injective).eq_iff.symm
  unfold dedupTags
  rw [mapTable_get]
  cases value : v[n] with
  | none =>
    have none : tagItem img n = none := by rw [← item, value]; rfl
    rw [none, ite_self, ite_self]
    rfl
  | some tag =>
    have repeated : (allLines.any fun m => decide (m < n) && decide (v[m] = some tag)) = true ↔ ∃ m : LineNo, m < n ∧ tagItem img m = tagItem img n := by
      simp only [← same, value]
      simp [List.any_eq_true]
    by_cases h : ∃ m : LineNo, m < n ∧ tagItem img m = tagItem img n
    · rw [if_pos h, if_pos (by rw [repeated.mpr h]; rfl)]
      rfl
    · rw [if_neg h, if_neg fun e => h (repeated.mp (Bool.and_eq_true_iff.mp e).2), ← item, value]

/-! ## Aggregation slots and group outputs (R131, R132, R174) -/

theorem loadOutput_select (i : Fin 32) : (loadOutput (slice img o 7)).select.getLsbD i = (imageMask img o).testBit i := by
  show (BitVec.ofNat 32 (num4 (slice img o 7) 0)).getLsbD i = _
  rw [num4_slice (by decide), BitVec.getLsbD_ofNat, decide_eq_true i.isLt, Bool.true_and]
  rfl

theorem loadOutput_flags :
    (loadOutput (slice img o 7)).invert = (imageByte img (o + 4)).testBit 0 ∧ (loadOutput (slice img o 7)).pin = (imageByte img (o + 4)).testBit 1 ∧
      (loadOutput (slice img o 7)).alarm = (imageByte img (o + 4)).testBit 2 ∧ (loadOutput (slice img o 7)).busy = (imageByte img (o + 4)).testBit 3 := by
  unfold loadOutput
  dsimp only
  rw [at1_slice (by decide)]
  exact ⟨rfl, rfl, rfl, rfl⟩

theorem loadOutput_lines (n : LineNo) : (loadOutput (slice img o 7)).busyLines.getLsbD n = (imageWord img (o + 5)).testBit n := by
  show (BitVec.ofNat 16 (num2 (slice img o 7) 5)).getLsbD n = _
  rw [num2_slice (by decide), BitVec.getLsbD_ofNat, decide_eq_true n.isLt, Bool.true_and]

/-- What the source byte of a slot names. -/
def sourceItem (v : Nat) (x : SlotSource) : Prop :=
  match x with
  | .tag t => v < 64 ∧ t.val = v
  | .line n => v = 64 + n.val
  | .unused => 80 ≤ v

theorem loadSource_item (v : Nat) : sourceItem v (loadSource v).val := by
  unfold loadSource
  split
  · next h => exact ⟨h, Nat.min_eq_left (by omega)⟩
  · split
    · next low high =>
      show v = 64 + min (v - 64) 15
      omega
    · split
      · next h => exact Nat.le_trans (by decide) (Nat.le_of_eq h.symm)
      · next h _ => exact Nat.le_of_not_lt h

theorem loadSource_clamped (v : Nat) : (loadSource v).clamped = true ↔ 80 ≤ v ∧ v ≠ 255 := by
  unfold loadSource
  split
  · exact iff_of_false Bool.false_ne_true (by omega)
  · split
    · exact iff_of_false Bool.false_ne_true (by omega)
    · split
      · exact iff_of_false Bool.false_ne_true (by omega)
      · exact iff_of_true rfl (by omega)

theorem loadSignal_eq (v : Nat) :
    (loadSignal v).val = if v = 0 then .busy else if v = 1 then .out else if v = 2 then .session else if v = 3 then .fault else .mb := by
  unfold loadSignal
  split <;> simp_all [plain]

theorem loadSignal_mb (v : Nat) : (loadSignal v).val = .mb ↔ 4 ≤ v := by
  rw [loadSignal_eq]
  split
  · simp; omega
  · split
    · simp; omega
    · split
      · simp; omega
      · split
        · simp; omega
        · exact iff_of_true rfl (by omega)

theorem loadSignal_clamped (v : Nat) : (loadSignal v).clamped = true ↔ 4 < v := by
  unfold loadSignal
  split
  · simp [plain]
  · simp [plain]
  · simp [plain]
  · simp [plain]
  · simp [plain]
  · next zero one two three four =>
    have zero : v ≠ 0 := zero
    have one : v ≠ 1 := one
    have two : v ≠ 2 := two
    have three : v ≠ 3 := three
    have four : v ≠ 4 := four
    exact iff_of_true rfl (by omega)

theorem loadSlot_eq :
    (loadSlot (slice img o 2)).val =
      ⟨(loadSource (imageByte img o)).val, (loadSignal (imageByte img (o + 1) % 8)).val, (imageByte img (o + 1)).testBit 3,
        (imageByte img (o + 1)).testBit 4⟩ := by
  unfold loadSlot
  dsimp only
  rw [num1_slice (by decide), num1_slice (by decide), at1_slice (by decide)]
  rfl

theorem loadSlot_clamped :
    (loadSlot (slice img o 2)).clamped = true ↔ 80 ≤ imageByte img o ∧ imageByte img o ≠ 255 ∨ 4 < imageByte img (o + 1) % 8 := by
  unfold loadSlot
  dsimp only
  rw [num1_slice (by decide), num1_slice (by decide), Bool.or_eq_true, loadSource_clamped, loadSignal_clamped]
  rfl

/-- A slot watches a local line's MB signal, by its two bytes. -/
theorem watchesLocalMb_iff :
    watchesLocalMb (loadSlot (slice img o 2)).val = true ↔ 64 ≤ imageByte img o ∧ imageByte img o < 80 ∧ 4 ≤ imageByte img (o + 1) % 8 := by
  have source := loadSource_item (imageByte img o)
  rw [loadSlot_eq]
  unfold watchesLocalMb
  dsimp only
  cases value : (loadSource (imageByte img o)).val with
  | line n =>
    rw [value] at source
    have source : imageByte img o = 64 + n.val := source
    have := n.isLt
    dsimp only
    rw [decide_eq_true_iff, loadSignal_mb]
    exact ⟨fun h => ⟨by omega, by omega, h⟩, fun h => h.2.2⟩
  | tag t =>
    rw [value] at source
    obtain ⟨small, -⟩ : imageByte img o < 64 ∧ _ := source
    exact iff_of_false Bool.false_ne_true (by omega)
  | unused =>
    rw [value] at source
    have source : 80 ≤ imageByte img o := source
    exact iff_of_false Bool.false_ne_true (by omega)

end

/-- The outputs of an image. -/
def imageOutputs (img : List Byte) : Vector OutputConfig 4 := tabulate 4 fun g => loadOutput (slice img (0x793 + 7 * g.val) 7)

/-- The slots of an image before R131. -/
def imageSlots (img : List Byte) : Loaded (Vector SlotConfig 32) := loadTable 32 fun i => loadSlot (slice img (0x753 + 2 * i.val) 2)

theorem imageOutputs_get (img : List Byte) (g : Fin 4) : (imageOutputs img)[g] = loadOutput (slice img (0x793 + 7 * g.val) 7) := tabulate_get _ g

theorem imageSlots_get (img : List Byte) (i : Fin 32) : (imageSlots img).val[i] = (loadSlot (slice img (0x753 + 2 * i.val) 2)).val := loadTable_val _ i

/-- A slot that R131 reads as unused. -/
def badSlot (img : List Byte) (i : Fin 32) (c : SlotConfig) : Bool :=
  watchesLocalMb c && (List.finRange 4).any fun g => (imageOutputs img)[g].busy && (imageOutputs img)[g].select.getLsbD i

theorem loadSlots_eq (img : List Byte) :
    loadSlots (imageSlots img) (imageOutputs img) =
      ⟨mapTable (imageSlots img).val fun i c => if badSlot img i c then { c with source := .unused } else c,
        (imageSlots img).clamped || (List.finRange 32).any fun i => badSlot img i (imageSlots img).val[i]⟩ := rfl

theorem badSlot_iff (img : List Byte) (i : Fin 32) : badSlot img i (imageSlots img).val[i] = true ↔ slotWatchesBusy img i := by
  have selected (g : Fin 4) : ((imageOutputs img)[g].busy && (imageOutputs img)[g].select.getLsbD i) = true ↔
      (imageByte img (0x797 + 7 * g)).testBit 3 = true ∧ (imageMask img (0x793 + 7 * g)).testBit i = true := by
    rw [Bool.and_eq_true, imageOutputs_get, loadOutput_select, (loadOutput_flags img _).2.2.2, show 0x793 + 7 * g.val + 4 = 0x797 + 7 * g.val by omega]
  unfold badSlot slotWatchesBusy
  rw [Bool.and_eq_true, imageSlots_get, watchesLocalMb_iff, List.any_eq_true, and_assoc, and_assoc]
  refine and_congr_right fun _ => and_congr_right fun _ => and_congr ?_ ?_
  · rw [show 0x753 + 2 * i.val + 1 = 0x754 + 2 * i.val by omega]
  · exact exists_congr fun g => (and_iff_right (List.mem_finRange g)).trans (selected g)

theorem loadSlots_item (img : List Byte) (i : Fin 32) : slotItem img i (loadSlots (imageSlots img) (imageOutputs img)).val[i] := by
  have source := loadSource_item (imageByte img (0x753 + 2 * i))
  have slot : (imageSlots img).val[i] = ⟨(loadSource (imageByte img (0x753 + 2 * i))).val, (loadSignal (imageByte img (0x754 + 2 * i) % 8)).val,
      (imageByte img (0x754 + 2 * i)).testBit 3, (imageByte img (0x754 + 2 * i)).testBit 4⟩ := by
    rw [imageSlots_get, loadSlot_eq, show 0x753 + 2 * i.val + 1 = 0x754 + 2 * i.val by omega]
  rw [loadSlots_eq]
  dsimp only
  rw [mapTable_get]
  by_cases bad : slotWatchesBusy img i
  · rw [if_pos ((badSlot_iff img i).mpr bad), slot]
    exact ⟨Or.inr bad, loadSignal_eq _, rfl, rfl⟩
  · rw [if_neg fun e => bad ((badSlot_iff img i).mp e), slot]
    refine ⟨?_, loadSignal_eq _, rfl, rfl⟩
    dsimp only
    cases value : (loadSource (imageByte img (0x753 + 2 * i))).val with
    | tag t =>
      rw [value] at source
      exact source
    | line n =>
      rw [value] at source
      exact ⟨source, bad⟩
    | unused =>
      rw [value] at source
      exact Or.inl source

theorem loadSlots_clamped (img : List Byte) :
    (loadSlots (imageSlots img) (imageOutputs img)).clamped = true ↔
      ∃ i : Fin 32,
        80 ≤ imageByte img (0x753 + 2 * i) ∧ imageByte img (0x753 + 2 * i) ≠ 255 ∨ 4 < imageByte img (0x754 + 2 * i) % 8 ∨ slotWatchesBusy img i := by
  rw [loadSlots_eq]
  dsimp only
  rw [Bool.or_eq_true, List.any_eq_true]
  have raw : (imageSlots img).clamped = true ↔ ∃ i : Fin 32,
      80 ≤ imageByte img (0x753 + 2 * i) ∧ imageByte img (0x753 + 2 * i) ≠ 255 ∨ 4 < imageByte img (0x754 + 2 * i) % 8 := by
    refine (loadTable_clamped _).trans (exists_congr fun i => ?_)
    rw [loadSlot_clamped, show 0x753 + 2 * i.val + 1 = 0x754 + 2 * i.val by omega]
  rw [raw, ← exists_or]
  refine exists_congr fun i => ?_
  rw [or_assoc, badSlot_iff, and_iff_right (List.mem_finRange i)]

/-! ## The bus rate -/

theorem loadBusRate_val (v : Nat) : (loadBusRate v).val = if v = 0 then .k250 else if v = 1 then .k500 else .k1000 := by
  unfold loadBusRate
  split <;> simp_all [plain]

theorem loadBusRate_clamped (v : Nat) : (loadBusRate v).clamped = true ↔ 2 < v := by
  unfold loadBusRate
  split
  · simp [plain]
  · simp [plain]
  · simp [plain]
  · next zero one two =>
    have zero : v ≠ 0 := zero
    have one : v ≠ 1 := one
    have two : v ≠ 2 := two
    exact iff_of_true rfl (by omega)

end Sys2Proof.Proofs.Images
end

section
/-! The start of the other blocks (R6, R25, R83, R87, R129, R158, R166 to R169): what a whole image of the store gives, that every configuration read lies
in its ranges, and where the start leaves the lines, the periods and the bus. -/

namespace Sys2Proof.Proofs.StartUp

open Sys2Proof Sys2Proof.Machine Sys2Proof.Proofs.Lines Sys2Proof.Proofs.Disconnect Sys2Proof.Proofs.Images Sys2Proof.Proofs.Periods Sys2Proof.Proofs.Reset

/-! ## A whole image -/

theorem loadImage_items {img : List Byte} (whole : 1978 ≤ img.length) : ImageItems img (loadImage img).val := by
  refine ⟨fun g => ?_, fun n => ?_, fun n => ?_, fun n => dedupTags_val img n, loadTimes_val img, ?_, ?_, ?_, ?_, fun k => ?_, ?_,
    (loadProvisional_val img).1, (loadProvisional_val img).2.1, (loadProvisional_val img).2.2.1, (loadProvisional_val img).2.2.2.1,
    (loadProvisional_val img).2.2.2.2, ?_, ?_, ?_, ?_, ?_, fun k => ?_, fun k => ?_, fun k => ?_, fun i => loadSlots_item img i, fun g => ?_, fun k => ?_,
    ?_, rfl, loadBusRate_val _⟩
  · refine (congrArg (groupItem img _) (loadTable_val _ g)).mpr ?_
    exact loadGroup_item img _
  · exact (congrArg Fin.val (loadTable_val _ n)).trans (rangedFin_val _ _)
  · show (BitVec.ofNat 16 (num2 img 0x32)).getLsbD n = _
    rw [BitVec.getLsbD_ofNat, decide_eq_true n.isLt, Bool.true_and]
    rfl
  · exact (ranged_val (by decide) _).trans (congrArg _ (num2_slice (by decide)))
  · exact (ranged_val (by decide) _).trans (congrArg _ (num1_slice (by decide)))
  · exact (ranged_val (by decide) _).trans (congrArg _ (num1_slice (by decide)))
  · exact (ranged_val (by decide) _).trans (congrArg _ (num2_slice (by decide)))
  · have entry : (loadImage img).val.classes[k] = _ := (loadTable_val _ k).trans (loadClass_val img _)
    rw [entry]
    refine ⟨rfl, ?_⟩
    rw [show 0x55 + 2 * k.val + 1 = 0x56 + 2 * k.val by omega]
  · exact (congrArg flagByte (at1_slice (by decide))).trans (flagByte_eq _ _)
  · exact (congrArg flagByte (at1_slice (by decide))).trans (flagByte_eq _ _)
  · exact (ranged_val (by decide) _).trans (congrArg _ (num2_slice (by decide)))
  · exact num1_slice (by decide)
  · exact (ranged_val (by decide) _).trans (congrArg _ (num2_slice (by decide)))
  · exact (ranged_val (by decide) _).trans (congrArg _ (num1_slice (by decide)))
  · have entry : (loadImage img).val.tariffs[k] = _ := loadTable_val _ k
    rw [entry]
    exact loadTariff_items img _
  · refine (loadTable_val _ k).trans ((loadText_val img _ (by omega)).trans ?_)
    rw [show 0x33B + 41 * k.val + 1 = 0x33C + 41 * k.val by omega]
  · refine (loadTable_val _ k).trans ((loadText_val img _ (by omega)).trans ?_)
    rw [show 0x5CB + 49 * k.val + 1 = 0x5CC + 49 * k.val by omega]
  · have entry : (loadImage img).val.outputs[g] = _ := imageOutputs_get img g
    obtain ⟨invert, pin, alarm, busy⟩ := loadOutput_flags img (0x793 + 7 * g)
    rw [show 0x793 + 7 * g.val + 4 = 0x797 + 7 * g.val by omega] at invert pin alarm busy
    rw [entry]
    refine ⟨fun i => loadOutput_select img _ i, invert, pin, alarm, busy, fun n => ?_⟩
    rw [loadOutput_lines, show 0x793 + 7 * g.val + 5 = 0x798 + 7 * g.val by omega]
  · exact (loadTable_val _ k).trans (ranged_val (by decide) _)
  · exact ranged_val (by decide) _

theorem loadImage_clamped (img : List Byte) : (loadImage img).clamped = true ↔ ImageClamps img := by
  have table {α : Type} {n : Nat} {f : Fin n → Loaded α} {p : Fin n → Prop} (h : ∀ i, (f i).clamped = true ↔ p i) :
      (loadTable n f).clamped = true ↔ ∃ i, p i := (loadTable_clamped f).trans (exists_congr h)
  unfold loadImage ImageClamps
  dsimp only
  simp only [Bool.or_eq_true, loadTimes_clamped, loadProvisional_clamped, or_assoc]
  refine or_congr (table fun g => loadGroup_clamped img _) (or_congr (table fun n => rangedFin_clamped _ _) (or_congr (table fun n => loadTag_clamped _)
    (or_congr Iff.rfl (or_congr Iff.rfl (or_congr Iff.rfl (or_congr Iff.rfl (or_congr Iff.rfl (or_congr Iff.rfl (or_congr Iff.rfl (or_congr ?_
    (or_congr ?_ (or_congr ?_ (or_congr ?_ (or_congr (table fun k => loadClass_clamped img _) (or_congr Iff.rfl (or_congr Iff.rfl (or_congr Iff.rfl
    (or_congr Iff.rfl (or_congr Iff.rfl (or_congr ?_ (or_congr ?_ (or_congr ?_ (or_congr (table fun k => loadTariff_clamped img _)
    (or_congr (table fun k => loadText_clamped img _ 40) (or_congr (table fun k => loadText_clamped img _ 48) (or_congr (loadSlots_clamped img)
    (or_congr (table fun k => ranged_zero_clamped _ _) (or_congr (ranged_zero_clamped _ _) (loadBusRate_clamped _)))))))))))))))))))))))))))))
  · rw [num2_slice (by decide), ranged_clamped]
  · rw [num1_slice (by decide), ranged_clamped]
  · rw [num1_slice (by decide), ranged_clamped]
  · rw [num2_slice (by decide), ranged_clamped]
  · rw [num2_slice (by decide), ranged_zero_clamped]
  · rw [num2_slice (by decide), ranged_zero_clamped]
  · rw [num1_slice (by decide), ranged_clamped]

/-! ## The ranges (R169, Table 10-1) -/

theorem groupInRange_of_item {img : List Byte} {o : Nat} {x : Group} (h : groupItem img o x) : groupInRange x := by
  obtain ⟨speeds, -, -, -, -, rings, allowance, inbound⟩ := h
  have fewest := nearest_bounds (show 1 ≤ 8 by decide) (imageByte img (o + 5))
  have blocks := nearest_bounds (show 3 ≤ 16 by decide) (imageByte img (o + 6))
  have within := nearest_bounds (show 1 ≤ 4 by decide) (imageByte img (o + 7))
  refine ⟨fun none => ?_, by omega, by omega, by omega, by omega, by omega, by omega, by omega⟩
  have clear (k : Fin 6) : (imageByte img o).testBit k = false ∧ ¬imageByte img o % 64 = 0 := by
    have bit := speeds k
    have zero : (0 : BitVec 6).getLsbD k = false := BitVec.getLsbD_zero
    rw [none, zero] at bit
    obtain ⟨bit, set⟩ := Bool.or_eq_false_iff.mp bit.symm
    exact ⟨bit, of_decide_eq_false set⟩
  refine (clear 0).2 (Nat.eq_of_testBit_eq fun k => ?_)
  rw [Nat.zero_testBit, show 64 = 2 ^ 6 from rfl, Nat.testBit_mod_two_pow]
  by_cases low : k < 6
  · rw [(clear ⟨k, low⟩).1, Bool.and_false]
  · rw [decide_eq_false low, Bool.false_and]

theorem tags_apart {img : List Byte} {c : Configuration}
    (tags : ∀ n : LineNo, c.tags[n].map Fin.val = if ∃ m : LineNo, m < n ∧ tagItem img m = tagItem img n then none else tagItem img n) (n m : LineNo)
    (ne : n ≠ m) : c.tags[n] = none ∨ c.tags[n] ≠ c.tags[m] := by
  by_contra h
  obtain ⟨some, same⟩ := not_or.mp h
  have same := not_not.mp same
  have item {n m : LineNo} (some : c.tags[n] ≠ none) (same : c.tags[n] = c.tags[m]) : tagItem img n = tagItem img m ∧ ¬n < m := by
    have value {k : LineNo} (set : c.tags[k] ≠ none) : c.tags[k].map Fin.val = tagItem img k ∧ ¬∃ m : LineNo, m < k ∧ tagItem img m = tagItem img k := by
      have := tags k
      by_cases repeated : ∃ m : LineNo, m < k ∧ tagItem img m = tagItem img k
      · rw [if_pos repeated] at this
        exact absurd (Option.map_eq_none_iff.mp this) set
      · rw [if_neg repeated] at this
        exact ⟨this, repeated⟩
    have own := value some
    have other := value (same ▸ some)
    have equal : tagItem img n = tagItem img m := by rw [← own.1, ← other.1, same]
    exact ⟨equal, fun less => other.2 ⟨n, less, equal⟩⟩
  have first := (item some same).2
  have second := (item (same ▸ some) same.symm).2
  exact ne (Fin.le_antisymm (Fin.not_lt.mp second) (Fin.not_lt.mp first))

/-- A configuration read from an image lies in its ranges. -/
theorem configurationOk_of_items {img : List Byte} {c : Configuration} (h : ImageItems img c) : ConfigurationOk c := by
  obtain ⟨groups, -, -, tags, times, signOn, reply, refresh, forwarding, classes, -, -, limit, allowance, -, -, -, fallback, warn, grace, loss, tariffs,
    messages, notices, slots, outputs, levels, threshold, pass, -⟩ := h
  have byte (k : Nat) : imageByte img k ≤ 255 := Nat.le_of_lt_succ (imageByte_lt img k)
  refine ⟨fun g => groupInRange_of_item (groups g), ?_, ?_, ?_, ?_, ?_, fun k => ?_, ?_, ?_, ?_, fun k => ⟨fun b => ?_, ?_, ?_⟩, ?_, ?_, ?_, fun k => ?_,
    fun k => ?_, fun k => ?_, ?_, ?_, tags_apart tags, fun i g n source signal selected => ?_⟩
  · rw [times]
    exact ⟨nearest_bounds (by decide) _, nearest_bounds (by decide) _, nearest_bounds (by decide) _, nearest_bounds (by decide) _,
      nearest_bounds (by decide) _, nearest_bounds (by decide) _, nearest_bounds (by decide) _⟩
  · rw [signOn]; exact nearest_bounds (by decide) _
  · rw [reply]; exact nearest_bounds (by decide) _
  · rw [refresh]; exact nearest_bounds (by decide) _
  · rw [forwarding]; exact nearest_bounds (by decide) _
  · rw [(classes k).1]; exact (nearest_bounds (by decide) _).2
  · rw [limit]; exact nearest_bounds (by decide) _
  · rw [allowance]; exact nearest_bounds (by decide) _
  · rw [fallback]; exact (nearest_bounds (by decide) _).2
  · rw [(tariffs k).2.1 b]; exact (nearest_bounds (by decide) _).2
  · rw [(tariffs k).2.2.1]; exact byte _
  · rw [(tariffs k).2.2.2]; exact byte _
  · rw [warn]; exact byte _
  · rw [grace]; exact (nearest_bounds (by decide) _).2
  · rw [loss]; exact nearest_bounds (by decide) _
  · rw [messages k, List.length_map, List.length_range]; exact Nat.min_le_left _ _
  · rw [notices k, List.length_map, List.length_range]; exact Nat.min_le_left _ _
  · rw [levels k]; exact (nearest_bounds (by decide) _).2
  · rw [threshold]; exact (nearest_bounds (by decide) _).2
  · rw [pass]; exact byte _
  · obtain ⟨named, code, -⟩ := slots i
    obtain ⟨select, -, -, -, busy, -⟩ := outputs g
    rw [source] at named
    obtain ⟨named, unwatched⟩ := named
    have mb : 4 ≤ imageByte img (0x754 + 2 * i) % 8 := by
      rw [signal, ← loadSignal_eq] at code
      exact (loadSignal_mb _).mp code.symm
    rw [busy]
    refine Bool.eq_false_iff.mpr fun set => unwatched ⟨by omega, by omega, mb, g, set, ?_⟩
    rw [← select, selected]

/-! ## The read of the store (R168) -/

/-- The store answers throughout, with the format mark. -/
def Answers (store : StoreRead) : Prop :=
  store.addressAck = true ∧ (∀ a ∈ store.byteAcks, a = true) ∧ (∀ low ∈ store.clockLow, low ≤ 25000) ∧ 1978 ≤ store.image.length ∧
    store.image.take 2 = [0xA5, 0x16]

theorem markMatches_iff {img : List Byte} (whole : 1978 ≤ img.length) : markMatches img = true ↔ img.take 2 = [0xA5, 0x16] := by
  match img with
  | [] | [_] => simp at whole
  | a :: b :: rest => simp [markMatches, at1]

theorem answers_iff (store : StoreRead) : (storeAnswers store && markMatches store.image) = true ↔ Answers store := by
  have answers : storeAnswers store = true ↔ store.addressAck = true ∧ (∀ a ∈ store.byteAcks, a = true) ∧ (∀ low ∈ store.clockLow, low ≤ 25000) ∧
      1978 ≤ store.image.length := by
    simp only [storeAnswers, Bool.and_eq_true, List.all_eq_true, decide_eq_true_eq, id, and_assoc]
    exact Iff.rfl
  rw [Bool.and_eq_true, answers]
  constructor
  · rintro ⟨⟨ack, acks, low, whole⟩, mark⟩
    exact ⟨ack, acks, low, whole, (markMatches_iff whole).mp mark⟩
  · rintro ⟨ack, acks, low, whole, mark⟩
    exact ⟨⟨ack, acks, low, whole⟩, (markMatches_iff whole).mpr mark⟩

theorem readStore_answering {store : StoreRead} (h : Answers store) : readStore store = loadImage store.image := if_pos ((answers_iff store).mpr h)

theorem readStore_failing {store : StoreRead} (h : ¬Answers store) : readStore store = ⟨Configuration.builtIn, true⟩ :=
  if_neg fun e => h ((answers_iff store).mp e)

theorem readStore_ok (store : StoreRead) : ConfigurationOk (readStore store).val := by
  by_cases h : Answers store
  · rw [readStore_answering h]
    obtain ⟨-, -, -, whole, -⟩ := h
    exact configurationOk_of_items (loadImage_items whole)
  · rw [readStore_failing h]
    exact builtIn_ok

/-! ## The start -/

theorem enterIdle_st {l : LineRec} (h : l.outPending = false) (now : Moment) : (l.enterIdle now).st = .idle := by
  unfold LineRec.enterIdle
  rw [if_neg (by rw [h]; exact Bool.false_ne_true)]
  rfl

/-- Settles O3: every item of the image from its bytes, the ranges from the items, and the start from the configuration read. -/
theorem startPlacesLinesAndJoins : Obligations.StartPlacesLinesAndJoins := by
  unfold Obligations.StartPlacesLinesAndJoins
  refine fun t straps store s => ⟨fun idle => if_pos idle, fun loading released => ?_⟩
  obtain ⟨v, hv⟩ : ∃ v, v = (s.at t).start straps store := ⟨_, rfl⟩
  have taken : exec (.startOtherBlocks t straps store) s = .next (v.settle (s.at t) true) := by
    rw [hv]
    exact if_neg (not_or.mpr ⟨loading, by rw [released]; exact Bool.false_ne_true⟩)
  refine ⟨_, taken, ?_⟩
  have view : v.loader = .running ∧ v.station.val = straps.toNat ∧ v.cfg = (readStore store).val ∧ v.configClamped = (readStore store).clamped ∧
      v.bus = .joining ∧ v.refreshTimer = some (v.now + 1000 * v.cfg.refreshPeriod) ∧ v.beaconTimer = some (v.now + 10000) ∧
      v.sup = mapTable s.sup (placeLine v.cfg s.loader v.now) := by
    obtain ⟨q, c, e⟩ := Closing.raise_fields (Steps.loaded (s.at t) straps store) .beacon
    rw [hv.trans e]
    exact ⟨rfl, rfl, rfl, rfl, rfl, rfl, rfl, rfl⟩
  obtain ⟨running, station, cfg, clamped, bus, refresh, beacon, sup⟩ := view
  simp only [settle_loader, settle_station, settle_cfg, settle_configClamped, settle_bus, settle_refreshTimer, settle_beaconTimer, settle_now]
  have entry (n : LineNo) : (v.settle (s.at t) true).sup[n] = placeLine v.cfg s.loader v.now n s.sup[n] :=
    (congrArg (fun w : Vector LineRec 16 => w[n]) ((settle_sup _ _ _).trans sup)).trans (mapTable_get _ _ n)
  refine ⟨running, station, cfg, clamped, by rw [cfg]; exact readStore_ok store, fun fails => ?_, fun ack acks low whole mark => ?_, bus,
    settle_keeps_pending _ _ _ _ (by rw [hv]; exact raised_pending _ _), refresh, beacon,
    fun n tag own => settle_every_announced (decide_eq_true running) _ own, fun n power out here => ?_, fun n restart => ?_⟩
  · have silent : ¬Answers store := by
      rintro ⟨ack, acks, low, whole, mark⟩
      rcases fails with h | ⟨a, ha, h⟩ | ⟨l, hl, h⟩ | h | h
      · rw [ack] at h; cases h
      · rw [acks a ha] at h; cases h
      · exact absurd (low l hl) (Nat.not_le.mpr h)
      · exact absurd whole (Nat.not_le.mpr h)
      · exact h mark
    rw [cfg, clamped, readStore_failing silent]
    exact ⟨rfl, rfl⟩
  · have answers : Answers store := ⟨ack, acks, low, whole, mark⟩
    rw [cfg, clamped, readStore_answering answers]
    exact ⟨loadImage_items whole, loadImage_clamped _⟩
  · rw [entry, power]
    unfold placeLine
    dsimp only
    split
    · exact enterIdle_st here _
    · exact out
  · rw [entry, restart]
    exact ⟨rfl, rfl, rfl⟩

end Sys2Proof.Proofs.StartUp
end

section
/-! What the effects of the commands leave of the sessions' FLOW states (R42). `callsOf` says which lines are in SESSION and the FLOW state of each that is;
an effect that makes no establish, close or disconnect move of a line in SESSION leaves it (`Steady`). The path and the Line Supervisor. -/

namespace Sys2Proof.Proofs.Steadiness

open Sys2Proof Sys2Proof.Machine Sys2Proof.Proofs.Lines Sys2Proof.Proofs.Disconnect Sys2Proof.Proofs.Periods Sys2Proof.Proofs.SessionMoves

/-! ## The FLOW states of the sessions -/

/-- The FLOW state of a line in SESSION. -/
def callsOf (s : State) (n : LineNo) : Option (Option FlowState) := if s.st n = .session then some s.path[n].flow else none

theorem callsOf_session {s : State} {n : LineNo} (h : s.st n = .session) : callsOf s n = some s.path[n].flow := if_pos h

theorem callsOf_other {s : State} {n : LineNo} (h : s.st n ≠ .session) : callsOf s n = none := if_neg h

theorem callsOf_congr {s u : State} {n : LineNo} (st : u.st n = .session ↔ s.st n = .session) (flow : u.path[n].flow = s.path[n].flow) :
    callsOf u n = callsOf s n := by
  unfold callsOf
  rw [flow]
  exact if_congr st rfl rfl

/-- No line enters or leaves SESSION, and no session's FLOW state changes. -/
def Steady (s u : State) : Prop := ∀ n, callsOf u n = callsOf s n

theorem Steady.refl (s : State) : Steady s s := fun _ => rfl

theorem Steady.trans {s t u : State} (h : Steady s t) (k : Steady t u) : Steady s u := fun n => (k n).trans (h n)

theorem Steady.after {s t u : State} (k : Steady t u) (h : Steady s t) : Steady s u := h.trans k

theorem steady_of_eq {s u : State} (sup : u.sup = s.sup) (path : u.path = s.path) : Steady s u := fun n =>
  callsOf_congr (by unfold State.st; rw [sup]) (congrArg (fun w : Vector Path 16 => w[n].flow) path)

theorem steady_of_flow {s u : State} (sup : u.sup = s.sup) (flow : ∀ n : LineNo, u.path[n].flow = s.path[n].flow) : Steady s u := fun n =>
  callsOf_congr (by unfold State.st; rw [sup]) (flow n)

theorem Steady.ite {s u : State} {c : Prop} [Decidable c] (h : c → Steady s u) : Steady s (if c then u else s) := by
  split
  · next hc => exact h hc
  · exact .refl s

theorem steady_eachLine {f : LineNo → State → State} (hf : ∀ n s, Steady s (f n s)) (ls : List LineNo) (s : State) : Steady s (eachLine ls f s) :=
  eachLine_induction (Steady s) f (fun n u h => h.trans (hf n u)) ls s (.refl s)

theorem steady_inFreeOrder {f : LineNo → State → State} (hf : ∀ n s, Steady s (f n s)) (ls : List LineNo) (s : State) :
    Steady s (inFreeOrder ls f s) :=
  freeLines_induction (Steady s) f (fun n u h => h.trans (hf n u)) (fun _ _ h => h.trans (steady_of_eq rfl rfl)) _ ls s (.refl s)

/-! ## The state's operations -/

theorem steady_setPath {s : State} {n : LineNo} {p : Path} (flow : p.flow = s.path[n].flow) : Steady s (s.setPath n p) :=
  steady_of_flow rfl fun m => by
    show (s.path.set n.val p n.isLt)[m].flow = _
    rw [vector_set_get]
    split
    · next same => rw [flow, same]
    · rfl

theorem steady_updPath {s : State} {n : LineNo} {f : Path → Path} (flow : ∀ p, (f p).flow = p.flow) : Steady s (s.updPath n f) := steady_setPath (flow _)

theorem Steady.thenUpdPath {s t : State} {n : LineNo} {f : Path → Path} (h : Steady s t) (flow : ∀ p, (f p).flow = p.flow) : Steady s (t.updPath n f) :=
  h.trans (steady_updPath flow)

theorem steady_updSup {s : State} {n : LineNo} {f : LineRec → LineRec} (st : (f s.sup[n]).st = .session ↔ s.st n = .session) : Steady s (s.updSup n f) := fun m => by
  refine callsOf_congr ?_ rfl
  by_cases same : n = m
  · subst same
    rw [updSup_st]
    exact st
  · unfold State.st
    rw [show (s.updSup n f).sup[m] = s.sup[m] from vector_set_get_ne _ _ same]

/-- A line goes from one state to another, neither of them SESSION. -/
theorem steady_updSup_other {s : State} {n : LineNo} {f : LineRec → LineRec} (before : s.st n ≠ .session) (after : (f s.sup[n]).st ≠ .session) :
    Steady s (s.updSup n f) := steady_updSup (iff_of_false after before)

theorem steady_updSup_same {s : State} {n : LineNo} {f : LineRec → LineRec} (st : (f s.sup[n]).st = s.sup[n].st) : Steady s (s.updSup n f) :=
  steady_updSup (by rw [st]; exact Iff.rfl)

theorem steady_at (s : State) (t : Moment) : Steady s (s.at t) := steady_of_eq rfl rfl

theorem steady_count (s : State) (c : CounterId) : Steady s (s.count c) := steady_of_eq rfl rfl

theorem steady_setAsks (s : State) (n : LineNo) (x : Asks) : Steady s (s.setAsks n x) := steady_of_eq rfl rfl

theorem steady_setClaims (s : State) (n : LineNo) (x : Claims) : Steady s (s.setClaims n x) := steady_of_eq rfl rfl

theorem steady_setRun (s : State) (n : LineNo) (x : Run) : Steady s (s.setRun n x) := steady_of_eq rfl rfl

theorem steady_setSign (s : State) (n : LineNo) (x : Option Context) : Steady s (s.setSign n x) := steady_of_eq rfl rfl

theorem steady_setSess (s : State) (n : LineNo) (x : Option Session) : Steady s (s.setSess n x) := steady_of_eq rfl rfl

theorem steady_updSess (s : State) (n : LineNo) (f : Session → Session) : Steady s (s.updSess n f) := by
  unfold State.updSess
  split
  · exact .refl s
  · exact steady_setSess s n _

theorem steady_raise (s : State) (i : ReqId) : Steady s (s.raise i) := steady_of_eq (raise_sup s i) (raise_path s i)

theorem steady_raiseRelease (s : State) (n : LineNo) (r : ReleaseSlot) : Steady s (s.raiseRelease n r) :=
  steady_of_eq (raiseRelease_sup s n r) (raiseRelease_path s n r)

theorem steady_closeCause (n : LineNo) (r : CloseReason) (s : State) : Steady s (s.closeCause n r) := steady_of_eq (closeCause_sup s n r) (closeCause_path s n r)

/-! ## The path -/

theorem steady_setOut (s : State) (n : LineNo) (q : Queue) : Steady s (s.setOut n q) := (steady_setPath (p := { s.path[n] with outQ := q }) rfl).trans (steady_of_eq rfl rfl)

theorem steady_setIn (s : State) (n : LineNo) (q : Queue) : Steady s (s.setIn n q) := (steady_setPath (p := { s.path[n] with inQ := q }) rfl).trans (steady_of_eq rfl rfl)

theorem steady_sendOut (s : State) (n : LineNo) (cs : List Char7) : Steady s (s.sendOut n cs) := steady_setOut s n _

theorem steady_flush (s : State) (n : LineNo) : Steady s (s.flush n) := steady_setOut s n _

theorem steady_sendEcho (s : State) (n : LineNo) (c : Char7) : Steady s (s.sendEcho n c) := by
  unfold State.sendEcho
  split
  · exact steady_sendOut s n _
  · exact steady_count s _

theorem steady_sendEchoes (s : State) (n : LineNo) (cs : List Char7) : Steady s (s.sendEchoes n cs) := by
  unfold State.sendEchoes
  induction cs generalizing s with
  | nil => exact .refl s
  | cons c cs ih => exact (steady_sendEcho s n c).trans (ih _)

theorem steady_takeText (s : State) (n : LineNo) (t : Text) : Steady s (s.takeText n t) := by
  unfold State.takeText
  split
  · exact (steady_count _ _).after (steady_updPath fun _ => rfl)
  · split
    · exact steady_sendOut s n _
    · exact steady_updPath fun _ => rfl

theorem steady_noticeText (s : State) (n : LineNo) (t : Text) : Steady s (s.noticeText n t) := by
  unfold State.noticeText
  exact .ite fun _ => steady_takeText s n t

theorem steady_signOnText (s : State) (n : LineNo) (t : Text) : Steady s (s.signOnText n t) := by
  unfold State.signOnText
  exact .ite fun _ => steady_takeText s n t

theorem steady_noticeMessages (ms : List (Fin 16)) (n : LineNo) (s : State) : Steady s (State.noticeMessages ms n s) := by
  unfold State.noticeMessages
  induction ms generalizing s with
  | nil => exact .refl s
  | cons m ms ih => exact (steady_noticeText s n _).trans (ih _)

theorem steady_applyStep (s : State) (n : LineNo) (m : MeterStep) : Steady s (s.applyStep n m) := by
  have noticed := (steady_setSess s n (some m.sess)).trans (steady_noticeMessages m.notices n _)
  unfold State.applyStep
  dsimp only
  split
  · exact noticed.trans (steady_closeCause n _ _)
  · exact noticed

theorem steady_tick (s : State) : Steady s s.tick := by
  have closed (n : LineNo) (u : State) : Steady u (State.closeBy n (s.tickLine n) u) := by
    unfold State.closeBy
    split
    · exact steady_closeCause n _ u
    · exact .refl u
  unfold State.tick
  dsimp only
  refine Steady.trans ?_ (steady_of_eq rfl rfl)
  refine ((Steady.trans ?_ (steady_inFreeOrder (fun n u => steady_noticeMessages _ n u) _ _))).trans (steady_eachLine closed _ _)
  exact steady_of_eq rfl rfl

/-! ## Holds, offers and the roster -/

theorem steady_testHold (s : State) : Steady s s.testHold :=
  (steady_inFreeOrder (fun n u => steady_noticeMessages _ n u) _ _).after (steady_of_eq rfl rfl)

theorem steady_updateOffers (s : State) : Steady s s.updateOffers := steady_of_eq (eq_of_kept_sup (kept_updateOffers s)) (updateOffers_path s)

theorem steady_raiseConfirm (n : LineNo) (s : State) : Steady s (s.raiseConfirm n) :=
  (steady_raise _ _).after ((steady_setClaims _ n _).after ((steady_updSess _ n _).after (steady_of_eq rfl rfl)))

theorem steady_raiseConfirms (s : State) : Steady s s.raiseConfirms := steady_inFreeOrder steady_raiseConfirm _ s

theorem steady_clearChannelHold (s : State) (p : LineNo → Bool) : Steady s (s.clearChannelHold p) :=
  steady_of_flow rfl fun n => by
    show (mapTable s.path fun n x => if p n then { x with channelHold := false } else x)[n].flow = _
    rw [mapTable_get]
    split <;> rfl

theorem steady_reactRoster (s : State) (before : Vector RosterEntry 16) (returned : Option Station) : Steady s (s.reactRoster before returned) := by
  have react := ((steady_clearChannelHold s (s.channelTurnedAbsent before)).trans (steady_testHold _)).trans (steady_updateOffers _)
  unfold State.reactRoster
  dsimp only
  split
  · exact react.trans (steady_raiseConfirms _)
  · exact react

theorem steady_changeRoster (s : State) (i : Station) (f : RosterEntry → RosterEntry) (returned : Option Station) :
    Steady s (s.changeRoster i f returned) := by
  unfold State.changeRoster
  split
  · exact .refl s
  · exact (steady_reactRoster _ _ _).after (steady_of_eq rfl rfl)

theorem steady_hear (s : State) (i : Station) : Steady s (s.hear i) := steady_changeRoster s i _ none

/-! ## Ringing and carrier -/

theorem steady_riRise (s : State) (n : LineNo) : Steady s (s.riRise n) := by
  have level : Steady s (s.updSup n fun l => { l with ri := true }) := steady_updSup_same rfl
  have began : Steady s ((s.updSup n fun l => { l with ri := true }).updSup n fun l => { l with burst := some s.now }) :=
    level.trans (steady_updSup_same rfl)
  unfold State.riRise
  split
  · exact .refl s
  · dsimp only
    split
    · exact began
    · exact began
    · split
      · exact level
      · exact level.trans (steady_count _ _)
    all_goals exact level

theorem countBurst_st (l : LineRec) (s : State) (n : LineNo) (count : Nat) (busy : Bool) : (l.countBurst s n count busy).st ≠ .session := by
  unfold LineRec.countBurst
  split
  · simp
  · split <;> simp [LineRec.enterAnswering, LineRec.fresh]

theorem steady_validBurst (s : State) (n : LineNo) (busy : Bool) : Steady s (s.validBurst n busy) := by
  have counted (u : State) (count : Nat) : Steady u (u.noteBusyRing n count busy) := by
    unfold State.noteBusyRing
    exact .ite fun _ => steady_count u _
  have moved (count : Nat) (h : s.st n ≠ .session) : Steady s (s.updSup n fun l => l.countBurst s n count busy) :=
    steady_updSup_other h (countBurst_st _ _ _ _ _)
  unfold State.validBurst
  split
  · next h => exact (moved 1 (by simp [h])).trans (counted _ _)
  · next h =>
    split
    · exact (steady_updSup_same rfl).trans (steady_count _ _)
    · exact (moved _ (by simp [h])).trans (counted _ _)
  all_goals exact .refl s

theorem steady_riFall (s : State) (n : LineNo) : Steady s (s.riFall n) := by
  have level : Steady s (s.updSup n fun l => { l with ri := false, burst := none }) := steady_updSup_same rfl
  unfold State.riFall
  refine .ite fun _ => ?_
  dsimp only
  split
  · split
    · exact level.trans (steady_validBurst _ n _)
    · exact level
  · exact level

theorem steady_stuck {s : State} {n : LineNo} (h : s.ringStuck n = true) : Steady s (s.updSup n LineRec.stuck) := by
  have measured : (s.st n).measured = true := by
    simp only [State.ringStuck, Bool.and_eq_true] at h
    exact h.1.1
  refine steady_updSup_other (fun e => ?_) (by simp [LineRec.stuck, LineRec.fresh])
  rw [e] at measured
  cases measured

theorem enterIdle_ne_session (l : LineRec) (now : Moment) : (l.enterIdle now).st ≠ .session := fun e =>
  LineMoves.not_ofRecord_enterIdle l now (Or.inr e)

theorem steady_enterIdle {s : State} {n : LineNo} (now : Moment) (h : s.st n ≠ .session) : Steady s (s.updSup n fun l => l.enterIdle now) :=
  steady_updSup_other h (enterIdle_ne_session _ _)

theorem steady_ringSilenceExpiry (s : State) (n : LineNo) : Steady s (s.ringSilenceExpiry n) := by
  unfold State.ringSilenceExpiry
  refine .ite fun h => ?_
  have ringing : s.st n ≠ .session := by simp [h.1]
  dsimp only
  split
  · exact steady_enterIdle _ ringing
  · exact (steady_count s _).trans (steady_enterIdle _ ringing)

theorem steady_cdRise (s : State) (n : LineNo) : Steady s (s.cdRise n) := by
  have level : Steady s (s.updSup n fun l => { l with cd := true }) := steady_updSup_same rfl
  have hit : Steady s (((s.updSup n fun l => { l with cd := true }).updSup n fun l => { l with dropout := none }).count .carrierHits) :=
    (level.trans (steady_updSup_same rfl)).trans (steady_count _ _)
  unfold State.cdRise
  split
  · exact .refl s
  · dsimp only
    split
    · exact level.trans (steady_updSup_same rfl)
    · split; exacts [hit, level]
    · split; exacts [hit, level]
    · split; exacts [hit, level]
    · split
      · exact level.trans (steady_setRun _ n _)
      · exact level.trans (steady_setRun _ n _)
      · exact level
    all_goals exact level

theorem steady_cdFall (s : State) (n : LineNo) : Steady s (s.cdFall n) := by
  have level : Steady s (s.updSup n fun l => { l with cd := false }) := steady_updSup_same rfl
  unfold State.cdFall
  refine .ite fun _ => ?_
  dsimp only
  split
  · exact level.trans (steady_updSup_same rfl)
  · exact level.trans (steady_updSup_same rfl)
  · exact level.trans (steady_updSup_same rfl)
  · exact level.trans (steady_updSup_same rfl)
  · split
    · exact level.trans (steady_setRun _ n _)
    · exact level.trans (steady_setRun _ n _)
    · exact level
  all_goals exact level

theorem steady_enterSignOn {s : State} {n : LineNo} (h : s.carrierGood n = true) : Steady s (s.enterSignOn n) := by
  have st : s.st n = .answering := by
    simp only [State.carrierGood, Bool.and_eq_true, decide_eq_true_eq] at h
    exact h.1.1
  exact (steady_setSign _ n _).after (steady_updSup_other (by simp [st]) (by simp [LineRec.enterCall, LineRec.fresh]))

/-! ## Hanging up, closing and proving -/

theorem steady_clearPath {s : State} {n : LineNo} (h : s.st n ≠ .session) : Steady s (s.clearPath n) := fun m => by
  by_cases same : n = m
  · subst same
    exact (callsOf_other (s := s.clearPath n) h).trans (callsOf_other h).symm
  · exact callsOf_congr Iff.rfl (congrArg Path.flow (vector_set_get_ne _ _ same))

theorem steady_hangup {s : State} {n : LineNo} (h : s.st n ≠ .session) : Steady s (s.hangup n) := by
  have moved : Steady s (s.updSup n fun l => l.enterHangup (some (s.now + 1000 * s.cfg.times.hangupGuard))) :=
    steady_updSup_other h (by simp [LineRec.enterHangup, LineRec.fresh])
  refine (moved.trans (steady_setAsks _ n _)).trans (steady_clearPath ?_)
  rw [setAsks_st, updSup_st]
  simp [LineRec.enterHangup, LineRec.fresh]

theorem steady_takeRefuse (s : State) (n : LineNo) : Steady s (s.takeRefuse n) := by
  have taken := steady_setAsks s n { s.asks[n] with refuse := none }
  unfold State.takeRefuse
  split
  · exact .refl s
  · dsimp only
    split
    · next st =>
      refine taken.trans ((steady_takeText _ n _).after ((steady_setSign _ n _).after ?_))
      exact steady_updSup_other (by simp [st]) (by simp [LineRec.enterClosing, LineRec.fresh])
    · exact taken

theorem steady_takeDrained (s : State) (n : LineNo) : Steady s (s.takeDrained n) := by
  have taken := steady_setAsks s n { s.asks[n] with drained := false }
  unfold State.takeDrained
  refine .ite fun _ => ?_
  dsimp only
  split
  · next st => exact taken.trans (steady_hangup (by simp [st]))
  · exact taken

theorem steady_fillResult (s : State) (n : LineNo) (r : RunResult) : Steady s (s.fillResult n r) := (steady_raise _ _).after (steady_of_eq rfl rfl)

theorem steady_endRun (s : State) (n : LineNo) (v : ProvingVerdict) : Steady s (s.endRun n v) := by
  unfold State.endRun
  exact ((steady_fillResult s n _).trans (steady_setRun _ n _)).thenUpdPath fun _ => rfl

theorem steady_finishRun (s : State) (n : LineNo) (v : ProvingVerdict) : Steady s (s.finishRun n v) := (steady_endRun s n v).trans (steady_setAsks _ n _)

theorem steady_takeBegin (s : State) (n : LineNo) : Steady s (s.takeBegin n) := by
  have proving {u : State} (h : u.st n ≠ .session) : Steady u (u.updSup n LineRec.enterProving) :=
    steady_updSup_other h (by simp [LineRec.enterProving, LineRec.fresh])
  unfold State.takeBegin
  split
  · exact .refl s
  · next b rest _ =>
    have taken := steady_setAsks s n { s.asks[n] with begin := rest }
    dsimp only
    split
    · next st => exact (taken.trans (proving (by simp [st]))).trans (steady_setRun _ n _)
    · next st => exact (taken.trans (proving (by simp [st]))).trans (steady_setRun _ n _)
    all_goals exact taken.trans (steady_fillResult _ n _)

theorem leaveProving_ne_session (l : LineRec) (now : Moment) (o : Origin) (v : ProvingVerdict) : (l.leaveProving now o v).st ≠ .session := fun e =>
  LineMoves.not_ofRecord_leaveProving l now o v (Or.inr e)

theorem steady_takeEnd (s : State) (n : LineNo) : Steady s (s.takeEnd n) := by
  have taken := steady_setAsks s n { s.asks[n] with endRun := none }
  unfold State.takeEnd
  split
  · exact .refl s
  · dsimp only
    split
    · next st => exact taken.trans (steady_updSup_other (by simp [st]) (leaveProving_ne_session _ _ _ _))
    · exact taken

theorem steady_sendPattern (s : State) (n : LineNo) : Steady s (s.sendPattern n) := by
  unfold State.sendPattern
  exact (steady_setRun s n _).thenUpdPath fun _ => rfl

theorem steady_beginRunning (s : State) (n : LineNo) : Steady s (s.beginRunning n) := (steady_setRun s n _).trans (steady_sendPattern _ n)

/-! ## Sign-on -/

theorem steady_enterRefusing (s : State) (n : LineNo) (t : Text) : Steady s (s.enterRefusing n t) :=
  steady_of_eq (enterRefusing_sup s n t) (enterRefusing_path s n t)

section
variable (s : State) (n : LineNo) (c : Context)

theorem steady_enterClaiming : Steady s (s.enterClaiming n c) := steady_of_eq (enterClaiming_sup s n c) (enterClaiming_path s n c)

theorem steady_admitProvisionally : Steady s (s.admitProvisionally n c) := by
  unfold State.admitProvisionally
  split
  · exact steady_enterClaiming s n _
  · exact steady_enterRefusing s n _

theorem steady_enterAsking : Steady s (s.enterAsking n c) := by
  unfold State.enterAsking
  split
  · exact steady_admitProvisionally s n c
  · exact (steady_raise _ _).after (steady_of_eq rfl rfl)

theorem steady_failAttempt : Steady s (s.failAttempt n c) := by
  unfold State.failAttempt
  dsimp only
  split
  · exact (steady_signOnText _ n _).after (steady_setSign s n _)
  · exact (steady_enterRefusing _ n _).after (steady_setSign s n _)

theorem steady_userChar (ch : Char7) : Steady s (s.userChar n c ch) := by
  unfold State.userChar
  split
  · split
    · exact (steady_sendEchoes _ n _).after (steady_setSign s n _)
    · exact steady_sendEchoes s n _
  · split
    · split
      · exact steady_sendEchoes s n _
      · exact (steady_sendEchoes _ n _).after (steady_setSign s n _)
    · split
      · exact (steady_signOnText _ n _).after (steady_setSign s n _)
      · split
        · unfold State.endUserField
          split
          · exact steady_failAttempt s n c
          · exact (steady_signOnText _ n _).after (steady_setSign s n _)
        · exact steady_sendEchoes s n _

theorem steady_codeChar (ch : Char7) : Steady s (s.codeChar n c ch) := by
  unfold State.codeChar
  split
  · exact steady_enterAsking s n c
  · split
    · exact .ite fun _ => steady_setSign s n _
    · split
      · exact steady_setSign s n _
      · exact .ite fun _ => steady_setSign s n _

theorem steady_verdictInAsking (r : Reply) : Steady s (s.verdictInAsking n c r) := by
  unfold State.verdictInAsking
  dsimp only
  split
  · exact steady_enterClaiming s n _
  · exact steady_failAttempt s n _
  all_goals exact steady_enterRefusing s n _

theorem steady_lateVerdict (r : Reply) : Steady s (s.lateVerdict n c r) := by
  unfold State.lateVerdict
  split
  · exact steady_setSign s n _
  · split
    · exact steady_setSign s n _
    · exact steady_enterRefusing s n _

theorem steady_failTry : Steady s (s.failTry n c) := by
  have tried := steady_setSign s n (some { c with tries := c.tries + 1 })
  unfold State.failTry
  dsimp only
  split
  · exact tried
  · exact (steady_enterRefusing _ n _).after ((tried.trans (steady_count _ _)).thenUpdPath fun _ => rfl)

theorem steady_passTry (sp : Speed) : Steady s (s.passTry n c sp) :=
  (steady_signOnText _ n _).after ((steady_setSign _ n _).after (steady_updPath fun _ => rfl))

theorem steady_signOnChar (ch : Char7) : Steady s (s.signOnChar n ch) := by
  unfold State.signOnChar
  split
  · exact .refl s
  · split
    · exact steady_userChar s n _ ch
    · exact steady_codeChar s n _ ch
    all_goals exact .refl s

theorem steady_speedTry (markMs width : Nat) (decoded : Char7) (stop : Bool) : Steady s (s.speedTry n markMs width decoded stop) := by
  unfold State.speedTry
  split
  · refine .ite fun _ => ?_
    split
    · split
      · exact steady_passTry s n _ _
      · exact steady_failTry s n _
    · exact steady_failTry s n _
  · exact .refl s

theorem steady_signOnExpiry : Steady s (s.signOnExpiry n) := by
  unfold State.signOnExpiry
  split
  · refine .ite fun _ => ?_
    dsimp only
    split
    · exact (steady_enterRefusing _ n _).after ((steady_count s _).thenUpdPath fun _ => rfl)
    · exact (steady_count s _).trans (steady_enterRefusing _ n _)
  · exact .refl s

theorem steady_replyWaitExpiry : Steady s (s.replyWaitExpiry n) := by
  unfold State.replyWaitExpiry
  split
  · exact .ite fun _ => (steady_setSign s n _).trans (steady_admitProvisionally _ n _)
  · exact .refl s

theorem steady_decideClaim : Steady s (s.decideClaim n c) := by
  unfold State.decideClaim
  split
  · exact steady_enterRefusing s n _
  · exact steady_of_eq rfl rfl

theorem steady_newClaimEchoed (user : Nat) (serial : BitVec 16) : Steady s (s.newClaimEchoed n user serial) := by
  have claimed := steady_setClaims s n { s.claims[n] with own := some ⟨user, serial⟩ }
  unfold State.newClaimEchoed
  dsimp only
  split
  · split
    · exact claimed.trans (steady_decideClaim _ n _)
    · exact claimed
  · exact claimed

theorem steady_applyVerdict (r : Reply) : Steady s (s.applyVerdict n r) := by
  unfold State.applyVerdict
  split
  · exact .refl s
  · split
    · exact steady_applyStep s n _
    · exact (steady_closeCause n _ _).after (steady_setSess s n _)

theorem steady_takeReply (src : Station) (p : ReplyPayload) : Steady s (s.takeReply src p) := by
  unfold State.takeReply
  split
  · exact steady_count s _
  · split
    · split
      · exact (steady_setSign s _ _).trans (steady_verdictInAsking _ _ _ _)
      · exact (steady_setSign s _ _).trans (steady_lateVerdict _ _ _ _)
      · exact steady_applyVerdict s _ _
      · exact steady_count s _
    · exact steady_count s _

/-! ## Characters -/

theorem owe_flow (p : Path) (c : FlowChar) : (p.owe c).flow = p.flow := by
  rcases owe_cases p c with ⟨-, e⟩ | ⟨-, e⟩ | ⟨-, -, e⟩ <;> rw [e]

theorem steady_inputAppended : Steady s (s.inputAppended n) := by
  unfold State.inputAppended
  dsimp only
  exact .ite fun _ => steady_setPath (owe_flow _ _)

theorem steady_inputRemoved : Steady s (s.inputRemoved n) := by
  unfold State.inputRemoved
  dsimp only
  exact .ite fun _ => steady_setPath (owe_flow _ _)

theorem steady_acceptChar (echo : Bool) (ch : Char7) : Steady s (s.acceptChar n echo ch) := by
  have echoed : Steady s (if echo then s.sendEcho n ch else s) := .ite fun _ => steady_sendEcho s n ch
  unfold State.acceptChar
  split
  · dsimp only
    generalize (if echo then s.sendEcho n ch else s) = u at echoed ⊢
    split
    · exact echoed.trans ((steady_inputAppended _ n).after ((steady_setIn u n _).thenUpdPath fun _ => rfl))
    · exact echoed.trans (steady_count _ _)
  · exact steady_count s _

theorem steady_interrupt (isBreak : Bool) : Steady s (s.interrupt n isBreak) := (steady_flush s n).thenUpdPath fun _ => rfl

theorem steady_handChar (ch : Char7) : Steady s (s.handChar n ch) := by
  unfold State.handChar
  split
  · exact steady_signOnChar s n ch
  · split
    · next x _ =>
      have reloaded := steady_setSess s n (some (x.reload s.cfg))
      unfold State.sessionChar
      dsimp only
      split
      · exact reloaded.thenUpdPath fun _ => rfl
      · split
        · exact reloaded.trans (steady_interrupt _ n false)
        · exact reloaded.trans (steady_acceptChar _ n _ ch)
    · exact .refl s
  · unfold State.closingChar
    split
    · exact steady_updPath fun _ => rfl
    · exact .refl s
  all_goals exact .refl s

theorem steady_receiveChar (ch : Char7) (parity : Bool) : Steady s (s.receiveChar n ch parity) := by
  unfold State.receiveChar
  refine .ite fun _ => ?_
  split
  · exact steady_handChar s n ch
  · exact (steady_count s _).trans (steady_handChar _ n _)

theorem steady_charSent : Steady s (s.charSent n) := by
  unfold State.charSent
  split
  · exact .refl s
  · split
    · exact steady_sendPattern s n
    · exact steady_updPath fun _ => rfl

end

end Sys2Proof.Proofs.Steadiness
end

section
/-! What the effects of the commands leave of the sessions' FLOW states (R42): frames, time, the Bus Controller and orders; and every command altogether. -/

namespace Sys2Proof.Proofs.Steadiness

open Sys2Proof Sys2Proof.Machine Sys2Proof.Proofs.Lines Sys2Proof.Proofs.Disconnect Sys2Proof.Proofs.Periods Sys2Proof.Proofs.SessionMoves

/-! ## Frames heard -/

theorem steady_takeAll (s : State) {src : Station} {effect : State → State} (h : ∀ u, Steady u (effect u)) : Steady s (s.takeAll src effect) := by
  unfold State.takeAll
  split
  · have heard : Steady s (State.hear { s with echo := s.canEcho } src) := (steady_hear _ src).after (steady_of_eq rfl rfl)
    exact heard.trans (h _)
  · exact .refl s

theorem steady_takeOwn (s : State) {src : Station} {effect : State → State} (h : ∀ u, Steady u (effect u)) : Steady s (s.takeOwn src effect) := by
  unfold State.takeOwn
  refine .ite fun _ => ?_
  split
  · have heard : Steady s (State.hear { s with echo := true } src) := (steady_hear _ src).after (steady_of_eq rfl rfl)
    exact heard.trans (h _)
  · exact steady_of_eq rfl rfl

theorem steady_frameOnBus (s : State) (src : Station) (dest : BitVec 5) : Steady s (s.frameOnBus src dest) := by
  unfold State.frameOnBus
  split
  · exact steady_takeOwn s fun u => .refl u
  · split
    · exact steady_takeAll s fun u => .refl u
    · exact .ite fun _ => (steady_hear _ src).after (steady_of_eq rfl rfl)

theorem steady_takeBeacon (s : State) (src : Station) (p : BeaconPayload) : Steady s (s.takeBeacon src p) := by
  unfold State.takeBeacon
  refine .ite fun _ => ?_
  have changed := (steady_changeRoster { s with echo := s.canEcho } src (fun _ => beaconEntry p) (if s.roster[src].returns p then some src else none)).after
    (steady_of_eq (s := s) rfl rfl)
  dsimp only
  split
  · exact changed.trans ((steady_clearChannelHold _ _).after (steady_of_eq rfl rfl))
  · exact changed

theorem steady_noteClaim (s : State) (src : Station) (p : ClaimPayload) : Steady s (s.noteClaim src p) := by
  unfold State.noteClaim
  split
  · exact steady_of_eq rfl rfl
  · exact .refl s

theorem steady_noteRelease (s : State) (src : Station) (p : ReleasePayload) : Steady s (s.noteRelease src p) := by
  unfold State.noteRelease
  split
  · exact steady_of_eq rfl rfl
  · exact .refl s

/-! ## Surveys and periods -/

theorem steady_reclaim (survey : Bool) (n : LineNo) (s : State) : Steady s (s.reclaim survey n) := by
  have marked : Steady s (if survey then s.setClaims n { s.claims[n] with surveyOwed := true } else s) := .ite fun _ => steady_setClaims s n _
  unfold State.reclaim
  dsimp only
  generalize (if survey then s.setClaims n { s.claims[n] with surveyOwed := true } else s) = u at marked ⊢
  exact .ite fun _ => marked.trans (steady_raise u _)

theorem steady_reflow (n : LineNo) (s : State) : Steady s (s.reflow n) := by
  unfold State.reflow
  exact .ite fun _ => steady_raise s _

theorem steady_answerSurvey (s : State) : Steady s s.answerSurvey := (steady_eachLine (steady_reclaim true) _ s).trans (steady_eachLine steady_reflow _ _)

theorem steady_agePresence (s : State) : Steady s s.agePresence := by
  unfold State.agePresence
  dsimp only
  have aged : Steady s { s with presence := (aged s.presence).filter fun e => e.age < 3 } := steady_of_eq rfl rfl
  revert aged
  generalize ({ s with presence := (aged s.presence).filter fun e => e.age < 3 } : State) = u
  generalize (aged s.presence).filter (fun e => 3 ≤ e.age) = gone
  intro stay
  induction gone generalizing u with
  | nil => exact stay
  | cons e gone ih => exact ih _ (stay.trans (steady_count u _))

theorem steady_raiseLineState (before : State) (every : Bool) (n : LineNo) (s : State) : Steady s (State.raiseLineState before every n s) := by
  unfold State.raiseLineState
  split
  · exact .ite fun _ => steady_raise s _
  · exact .refl s

theorem steady_refreshPresence (s : State) : Steady s s.refreshPresence :=
  ((steady_agePresence s).trans (steady_eachLine (steady_reclaim false) _ _)).trans (steady_eachLine (steady_raiseLineState s false) _ _)

theorem steady_refresh (s : State) : Steady s s.refresh := by
  have drawn (u : State) (k : Nat) : Steady u { u with draws := k } := steady_of_eq rfl rfl
  have slots (u : State) : Steady u u.ageSlots := steady_of_eq rfl rfl
  have tables (u : State) : Steady u u.refreshTables := by
    obtain ⟨k, e | e⟩ := refreshTables_cases u
    · rw [e]
      exact ((steady_refreshPresence u).trans (slots _)).trans (drawn _ k)
    · rw [e]
      exact ((slots u).trans (steady_refreshPresence _)).trans (drawn _ k)
  exact (steady_raiseConfirms _).after ((steady_eachLine steady_reflow _ _).after ((tables _).after (steady_of_eq rfl rfl)))

theorem steady_beaconPeriod (s : State) : Steady s s.beaconPeriod :=
  (steady_raise _ _).after ((steady_reactRoster _ _ _).after (steady_of_eq rfl rfl))

/-! ## Time -/

theorem steady_takeTick (s : State) : Steady s s.takeTick := (steady_tick _).after (steady_of_eq rfl rfl)

theorem steady_tbEdge (s : State) : Steady s s.tbEdge := by
  unfold State.tbEdge
  split
  · exact .ite fun _ => (steady_takeTick _).after (steady_of_eq rfl rfl)
  · split
    · dsimp only
      split
      · exact (steady_takeTick _).after (steady_of_eq rfl rfl)
      · exact steady_of_eq rfl rfl
    · exact steady_of_eq rfl rfl

theorem steady_failReference (s : State) : Steady s s.failReference := (steady_takeTick _).after (steady_of_eq rfl rfl)

theorem steady_dividerTick (s : State) : Steady s s.dividerTick := (steady_takeTick _).after (steady_of_eq rfl rfl)

theorem steady_closeAt (s : State) (n : LineNo) (limit : Session → Bool) (r : CloseReason) : Steady s (s.closeAt n limit r) := by
  unfold State.closeAt
  split
  · exact .ite fun _ => steady_closeCause n r s
  · exact .refl s

theorem steady_setClock (s : State) (src : Station) (minute : BitVec 16) (second : Byte) : Steady s (s.setClock src minute second) := by
  unfold State.setClock
  exact .ite fun _ => steady_of_eq rfl rfl

theorem steady_acknowledge (s : State) (src : Station) (serial : BitVec 8) : Steady s (s.acknowledge src serial) := by
  unfold State.acknowledge
  split
  · exact steady_of_eq rfl rfl
  · exact steady_count s _

/-! ## The Bus Controller -/

theorem steady_selectReq (s : State) (i : ReqId) : Steady s (s.selectReq i) := by
  have noted : Steady s (s.noteSelected i) := by
    unfold State.noteSelected
    split
    · exact steady_setClaims s _ _
    · exact .ite fun _ => steady_updPath fun _ => rfl
    · exact .refl s
  unfold State.selectReq
  dsimp only
  split
  · exact noted.trans (steady_of_eq rfl rfl)
  · exact noted.trans (steady_of_eq rfl rfl)

theorem steady_select (k : Nat) (s : State) : Steady s (State.select k s) := by
  induction k generalizing s with
  | zero => exact .refl s
  | succ k ih =>
    unfold State.select
    split
    · exact .refl s
    · split
      · exact steady_selectReq s _
      · exact (steady_selectReq s _).trans (ih _)

theorem steady_landed (s : State) (i : ReqId) : Steady s (s.landed i) := by
  unfold State.landed
  split
  · exact steady_updPath fun _ => rfl
  · exact .refl s

theorem steady_repend (s : State) (i : ReqId) (k : Nat) : Steady s (s.repend i k) := (steady_landed s i).trans (steady_of_eq rfl rfl)

theorem steady_enterSilent (s : State) : Steady s s.enterSilent := steady_of_eq rfl rfl

theorem steady_discard (s : State) (w : WireFrame) : Steady s (s.discard w) := by
  have dropped : Steady s (State.dropReq { (s.landed w.req).count .framesDiscarded with wire := none } w.req) :=
    (steady_landed s w.req).trans (steady_of_eq rfl rfl)
  have owner (u : State) : Steady u (u.ownerDiscards w) := by
    unfold State.ownerDiscards
    split
    · exact steady_setClaims u _ _
    · split
      · exact steady_of_eq rfl rfl
      · exact .refl u
    · exact steady_of_eq rfl rfl
    all_goals exact .refl u
  have addressed (u : State) : Steady u (u.discardTo w) := by
    unfold State.discardTo
    split
    · exact steady_changeRoster u _ _ none
    · exact .refl u
    · split
      · exact steady_enterSilent u
      · exact steady_of_eq rfl rfl
  exact (dropped.trans (owner _)).trans (addressed _)

theorem steady_struck (s : State) (w : WireFrame) : Steady s (s.struck w) := by
  unfold State.struck
  dsimp only
  split
  · exact (steady_count s _).trans (steady_repend _ _ _)
  · exact (steady_count s _).trans (steady_discard _ w)

theorem steady_delivered (s : State) (w : WireFrame) : Steady s (s.delivered w) := steady_of_eq rfl rfl

theorem steady_dataInEchoed (s : State) (n : LineNo) : Steady s (s.dataInEchoed n) := by
  unfold State.dataInEchoed
  dsimp only
  split
  · exact steady_of_eq rfl rfl
  · next f _ =>
    have echoed : Steady s (State.updPath { s with rotation := n } n fun p => p.echoed f (s.now + s.cfg.forwardingTimer)) :=
      Steady.thenUpdPath (steady_of_eq rfl rfl) fun _ => rfl
    exact (echoed.trans (steady_setIn _ n _)).trans (steady_inputRemoved _ n)

theorem steady_joined (s : State) (b : BeaconOut) : Steady s (s.joined b) := (steady_raise _ _).after (steady_of_eq rfl rfl)

theorem steady_orderResultEchoed (s : State) (slot : Fin 17) (r : OrderResult) : Steady s (s.orderResultEchoed slot r) := by
  have emptied : Steady s (if (s.req (.orderResult slot)).pending then s else { s with orderSlots := s.orderSlots.set slot none }) := by
    split
    · exact .refl s
    · exact steady_of_eq rfl rfl
  unfold State.orderResultEchoed
  dsimp only
  split
  · exact emptied.trans (steady_of_eq rfl rfl)
  · exact emptied

theorem steady_clash (s : State) : Steady s s.clash := by
  unfold State.clash
  dsimp only
  split
  · exact steady_of_eq rfl rfl
  · exact steady_of_eq rfl rfl

theorem steady_ownLineState (s : State) : Steady s s.ownLineState := by
  unfold State.ownLineState
  split
  · split
    · exact steady_of_eq rfl rfl
    · exact .refl s
  · exact .refl s

/-! ## FLOW and DATA-OUT -/

theorem steady_noteFlow (s : State) (src : Station) (line state : Byte) : Steady s (s.noteFlow src line state) := by
  unfold State.noteFlow
  split
  · split
    · exact steady_updPath fun _ => rfl
    · exact .refl s
  · exact .refl s

theorem steady_acceptData (s : State) (n : LineNo) (f : DataOutFlags) (chars : List Char7) : Steady s (s.acceptData n f chars) := by
  unfold State.acceptData
  split
  · exact steady_count s _
  · dsimp only
    refine (steady_updSess _ n _).after ((steady_sendOut _ n _).after ?_)
    exact .ite fun _ => steady_flush s n

theorem steady_dataOut (s : State) (src : Station) (line flags : Byte) (chars : List Char7) : Steady s (s.dataOut src line flags chars) := by
  unfold State.dataOut
  dsimp only
  split
  · split
    · exact steady_of_eq rfl rfl
    · exact steady_takeOwn s fun u => steady_acceptData u _ _ _
  · exact steady_takeOwn s fun u => steady_count u _

/-! ## Orders -/

theorem steady_fillSlot (s : State) (src : Station) (kind : OrderKind) (line : Byte) (o : OrderOutcome) : Steady s (s.fillSlot src kind line o) :=
  (steady_raise _ _).after (steady_of_eq rfl rfl)

theorem steady_fillOutcome {s : State} (src : Station) (kind : OrderKind) (line : Byte) {r : State × Option OrderOutcome} (h : Steady s r.1) :
    Steady s (fillOutcome src kind line r) := by
  unfold fillOutcome
  split
  · exact h.trans (steady_fillSlot _ _ _ _ _)
  · exact h

theorem steady_order (s : State) (src : Station) (kind : OrderKind) (line : Byte) {effect : OrderEffect}
    (h : ∀ (n : Option LineNo) (u : State), Steady u (effect n u).1) : Steady s (s.order src kind line effect) := by
  refine steady_takeOwn s fun u => ?_
  split
  · split
    · exact steady_fillSlot u _ _ _ _
    · exact steady_fillOutcome src kind line (h _ u)
    · exact steady_fillOutcome src kind line (h _ u)
  · exact steady_fillSlot u _ _ _ _

theorem steady_forceOff (n : Option LineNo) (s : State) : Steady s (forceOff n s).1 := by
  unfold forceOff
  split
  · split
    · exact steady_closeCause _ _ _
    · exact .refl _
  · exact steady_eachLine (fun n u => steady_closeCause n _ u) _ _

theorem steady_outProving {s : State} {n : LineNo} (st : s.st n = .proving) : Steady s (s.outProving n) := by
  have out {u : State} (h : u.st n ≠ .session) : Steady u (u.updSup n LineRec.enterOut) :=
    steady_updSup_other h (by simp [LineRec.enterOut, LineRec.fresh])
  have left : (s.takeEnd n).st n ≠ .session := by
    unfold State.takeEnd
    split
    · simp [st]
    · dsimp only
      rw [if_pos st, updSup_st]
      exact leaveProving_ne_session _ _ _ _
  have ended : (s.endRun n .aborted).st n ≠ .session := by simp [State.st, show s.sup[(n : Nat)].st = .proving from st]
  unfold State.outProving
  split
  · exact (steady_takeEnd s n).trans (out left)
  · exact ((steady_endRun s n _).trans (out ended)).trans (steady_setAsks _ n _)

theorem steady_outLine (n : LineNo) (s : State) : Steady s (s.outLine n) := by
  have queued : Steady s (s.updSup n fun l => { l with outPending := true }) := steady_updSup_same rfl
  unfold State.outLine
  split
  · next st => exact steady_updSup_other (by simp [st]) (by simp [LineRec.enterOut, LineRec.fresh])
  any_goals exact queued
  · next st => exact steady_outProving st
  · exact .refl s

theorem steady_orderOutEffect (n : Option LineNo) (s : State) : Steady s (orderOutEffect n s).1 := by
  cases n with
  | some n => exact steady_outLine n s
  | none =>
    simp only [orderOutEffect]
    exact steady_eachLine (f := fun n s => s.outLine n) steady_outLine allLines s

theorem steady_inLine (n : LineNo) (s : State) : Steady s (s.inLine n) := by
  unfold State.inLine
  split
  · next st => exact steady_updSup_other (by simp [st]) (enterIdle_ne_session _ _)
  · exact steady_updSup_same rfl

theorem steady_orderInEffect (n : Option LineNo) (s : State) : Steady s (orderInEffect n s).1 := by
  unfold orderInEffect
  split
  · split
    · exact .refl _
    · exact steady_inLine _ _
  · exact steady_eachLine steady_inLine _ _

theorem steady_proveEffect (src : Station) (duration : Nat) (n : Option LineNo) (s : State) : Steady s (proveEffect src duration n s).1 := by
  unfold proveEffect
  split
  · exact .refl _
  · split
    · exact .refl _
    · split
      · exact steady_setAsks _ _ _
      · exact steady_setAsks _ _ _
      all_goals exact .refl _

theorem steady_noticeEffect (i : Fin 8) (n : Option LineNo) (s : State) : Steady s (noticeEffect i n s).1 := by
  unfold noticeEffect
  split
  · split
    · exact steady_noticeText _ _ _
    · exact .refl _
  · exact steady_inFreeOrder (fun n u => steady_noticeText u n _) _ _

theorem steady_reportEffect (arg : BitVec 16) (n : Option LineNo) (s : State) : Steady s (reportEffect arg n s).1 := by
  unfold reportEffect
  split <;> exact .refl _

/-! ## The moves into and out of SESSION -/

/-- At every line: nothing of its session's FLOW state changes; or it is left outside SESSION with no FLOW state; or it enters SESSION with GO. -/
def Crossed (s u : State) : Prop := ∀ n : LineNo,
  callsOf u n = callsOf s n ∨ u.st n ≠ .session ∧ u.path[n].flow = none ∨ s.st n ≠ .session ∧ callsOf u n = some (some .go)

theorem Steady.crossed {s u : State} (h : Steady s u) : Crossed s u := fun n => Or.inl (h n)

theorem Crossed.after {s t u : State} (k : Crossed t u) (h : Steady s t) : Crossed s u := by
  intro n
  have same := h n
  rcases k n with e | left | ⟨outside, entered⟩
  · exact Or.inl (e.trans same)
  · exact Or.inr (Or.inl left)
  · refine Or.inr (Or.inr ⟨fun inside => ?_, entered⟩)
    rw [callsOf_session inside, callsOf_other outside] at same
    cases same

theorem hangup_path_ne (s : State) {n m : LineNo} (h : n ≠ m) : (s.hangup n).path[m] = s.path[m] := by
  simp only [State.hangup, State.clearPath, State.updSup]
  exact vector_set_get_ne _ _ h

/-- A line that leaves SESSION, the others as they stood. -/
theorem crossed_left {s u : State} {n : LineNo} (sup : ∀ m, n ≠ m → u.sup[m] = s.sup[m]) (path : ∀ m, n ≠ m → u.path[m].flow = s.path[m].flow)
    (st : u.st n ≠ .session) (flow : u.path[n].flow = none) : Crossed s u := by
  intro m
  by_cases same : n = m
  · subst same
    exact Or.inr (Or.inl ⟨st, flow⟩)
  · exact Or.inl (callsOf_congr (by unfold State.st; rw [sup m same]) (path m same))

theorem endSession_path_ne (s : State) {n m : LineNo} (h : n ≠ m) (x : Session) (r : CloseReason) : (State.endSession n x r s).path[m] = s.path[m] :=
  (congrArg (fun w : Vector Path 16 => w[m]) (ClosingTexts.endSession_path s n x r)).trans (vector_set_get_ne _ _ h)

theorem crossed_disconnect (s : State) (n : LineNo) : Crossed s (s.disconnect n) := by
  unfold State.disconnect
  split
  · next st =>
    have dropped : Steady s (s.dropContext n) ∧ (s.dropContext n).sup = s.sup := by
      unfold State.dropContext
      split
      · exact ⟨.refl s, rfl⟩
      · dsimp only
        split
        · exact ⟨(steady_raiseRelease s n _).trans (steady_setSign _ n _), raiseRelease_sup s n _⟩
        · exact ⟨steady_setSign s n _, rfl⟩
    obtain ⟨dropped, sup⟩ := dropped
    exact (dropped.trans (steady_hangup (by unfold State.st; rw [sup]; exact fun e => by rw [State.st] at st; rw [st] at e; cases e))).crossed
  · have dropped : (s.dropSession n).sup = s.sup ∧ ∀ m, n ≠ m → (s.dropSession n).path[m] = s.path[m] := by
      unfold State.dropSession
      split
      · exact ⟨rfl, fun _ _ => rfl⟩
      · exact ⟨endSession_sup s n _ _, fun m h => endSession_path_ne s h _ _⟩
    obtain ⟨sup, path⟩ := dropped
    refine crossed_left (n := n) (fun m h => (hangup_sup_ne _ (Ne.symm h)).trans (by rw [sup])) (fun m h => by rw [hangup_path_ne _ h, path m h]) ?_ ?_
    · rw [hangup_st]
      decide
    · rw [hangup_path_self]
      rfl
  · next session => exact (steady_hangup session).crossed

theorem crossed_closeMove (s : State) (n : LineNo) (x : Session) (r : CloseReason) : Crossed s (s.closeMove n x r) := by
  rw [ClosingTexts.closeMove_eq]
  have sup : ((ClosingTexts.closingLine s n x r).takeText n (closingText s.cfg x r)).sup = s.sup.set n (s.sup[n].enterClosing s.now) :=
    (ClosingTexts.ClosedLine.takeText (ClosingTexts.closingLine_closed s n x r) _).sup
  refine crossed_left (n := n) (fun m h => ?_) (fun m h => ?_) ?_ ?_
  · rw [sup]
    exact vector_set_get_ne _ _ h
  · rw [takeText_flow]
    refine congrArg Path.flow (Eq.trans ?_ (endSession_path_ne s h x r))
    unfold ClosingTexts.closingLine
    dsimp only
    split
    · rfl
    · exact vector_set_get_ne _ _ h
  · unfold State.st
    rw [sup, vector_set_get_self]
    simp [LineRec.enterClosing, LineRec.fresh]
  · rw [takeText_flow, ClosingTexts.closingLine_path]
    rfl

theorem crossed_takeClose (s : State) (n : LineNo) : Crossed s (s.takeClose n) := by
  have taken := steady_setAsks s n { s.asks[n] with close := false }
  unfold State.takeClose
  split
  · dsimp only
    split
    · split
      · exact (crossed_closeMove _ _ _ _).after taken
      · exact taken.crossed
    · exact taken.crossed
  · exact (Steady.refl s).crossed

theorem crossed_establish {s : State} {n : LineNo} (c : Context) (g : Granted) (st : s.st n ≠ .session) : Crossed s (s.establish n c g) := by
  obtain ⟨v, hv⟩ : ∃ v, v = ((s.updSup n fun l => l.enterCall .session).setSign n none).beginPath n := ⟨_, rfl⟩
  have begun (m : LineNo) : callsOf v m = callsOf s m ∨ s.st m ≠ .session ∧ callsOf v m = some (some .go) := by
    by_cases same : n = m
    · subst same
      have inside : v.st n = .session := by
        rw [hv, State.beginPath, updPath_st, setSign_st, updSup_st]
        rfl
      have going : v.path[n].flow = some .go := by
        rw [hv]
        exact congrArg Path.flow (vector_set_get_self _ _ _)
      exact Or.inr ⟨st, by rw [callsOf_session inside, going]⟩
    · refine Or.inl (callsOf_congr ?_ ?_)
      · unfold State.st
        rw [hv]
        exact iff_of_eq (congrArg (fun l : LineRec => l.st = .session) (vector_set_get_ne _ _ same))
      · rw [hv]
        exact congrArg Path.flow (vector_set_get_ne _ _ same)
  have rest : Steady v (s.establish n c g) := by
    unfold State.establish State.applyHeld
    dsimp only
    rw [← hv]
    have tested := (steady_applyStep v n ((s.newSession c g).testAllowance s.cfg)).trans (steady_testHold _)
    split
    · exact tested.trans (steady_applyVerdict _ n _)
    · exact tested
  intro m
  rcases begun m with e | ⟨outside, entered⟩
  · exact Or.inl ((rest m).trans e)
  · exact Or.inr (Or.inr ⟨outside, (rest m).trans entered⟩)

theorem crossed_takeEstablish (s : State) (n : LineNo) : Crossed s (s.takeEstablish n) := by
  have taken := steady_setAsks s n { s.asks[n] with establish := false }
  unfold State.takeEstablish
  split
  · dsimp only
    split
    · next st _ =>
      split
      · split
        · exact (crossed_establish _ _ (fun e => LineState.noConfusion (st.symm.trans e))).after taken
        · exact taken.crossed
      · exact taken.crossed
    · exact taken.crossed
  · exact (Steady.refl s).crossed

end Sys2Proof.Proofs.Steadiness
end

section
/-! The line's own FLOW state (R42): the crossings of every command, and the closing work that makes each session's FLOW state the one its room calls for. -/

namespace Sys2Proof.Proofs.Flows

open Sys2Proof Sys2Proof.Machine Sys2Proof.Proofs.Lines Sys2Proof.Proofs.Disconnect Sys2Proof.Proofs.Periods Sys2Proof.Proofs.SessionMoves
  Sys2Proof.Proofs.Steadiness Sys2Proof.Proofs.Closing Sys2Proof.Proofs.Loading

/-! ## Every command -/

/-- What a command does to the FLOW states of the sessions: nothing but the time and the RESTART pin changes; or one event, whose effect makes at most the
crossings into and out of SESSION. -/
inductive FlowOutcome (s : State) : State → Prop
  | still (t : Moment) (pin : Bool) : FlowOutcome s { s.at t with restartPin := pin }
  | event (v before : State) (every : Bool) : Crossed s v → FlowOutcome s (v.settle before every)

theorem outcome_take {s u : State} {t : Moment} {effect : State → State} (h : take s t effect = .next u) (e : Steady (s.at t) (effect (s.at t))) :
    FlowOutcome s u := by
  cases h
  exact .event _ _ _ ((steady_at s t).trans e).crossed

theorem outcome_crossed {s u : State} {t : Moment} {effect : State → State} (h : take s t effect = .next u) (e : Crossed (s.at t) (effect (s.at t))) :
    FlowOutcome s u := by
  cases h
  exact .event _ _ _ (e.after (steady_at s t))

theorem outcome_forAll {s u : State} {t : Moment} {effect : State → State} (h : Host.Outcome.next (s.eventForAll t effect) = (.next u : Host.Outcome State Fault Refusal))
    (e : Steady (s.at t) (effect (s.at t))) : FlowOutcome s u := by
  cases h
  exact .event _ _ _ ((steady_at s t).trans e).crossed

/-- The start finds no line in SESSION, and leaves none in it. -/
theorem steady_start {s : State} (h : Loads s) (straps : BitVec 4) (store : StoreRead) : Steady s (s.start straps store) := fun n => by
  have before : s.st n ≠ .session := h.st_ne n (by decide) (by decide)
  refine (callsOf_other ?_).trans (callsOf_other before).symm
  rw [Steps.start_eq]
  unfold State.st
  rw [raise_sup]
  show (mapTable s.sup (placeLine (readStore store).val s.loader s.now))[n].st ≠ _
  rw [mapTable_get]
  unfold placeLine
  dsimp only
  split
  · split
    · exact enterIdle_ne_session _ _
    · exact before
  · exact before
  · exact before

/-- A RESTART order refused changes no FLOW state, and one accepted stops the station. -/
theorem restartOrder_steady (s : State) (src : Station) (line : Byte) :
    Steady s (s.order src .restart line restartEffect) ∨ (s.order src .restart line restartEffect).loader ≠ .running := by
  have heard : Steady s (State.hear { s with echo := true } src) := (steady_hear _ src).after (steady_of_eq rfl rfl)
  unfold State.order State.takeOwn
  split
  · split
    · generalize State.hear { s with echo := true } src = v at heard ⊢
      dsimp only
      split
      · split
        · exact Or.inl (heard.trans (steady_fillSlot _ _ _ _ _))
        · exact Or.inr (show Loader.restart ≠ .running by decide)
        · exact Or.inr (show Loader.restart ≠ .running by decide)
      · exact Or.inl (heard.trans (steady_fillSlot _ _ _ _ _))
    · exact Or.inl (steady_of_eq rfl rfl)
  · exact Or.inl (.refl s)

theorem exec_outcome {c : Instr} {s u : State} (loading : LoadingOk s) (running : u.loader = .running) (h : exec c s = .next u) : FlowOutcome s u := by
  cases c with
  | powerUpReset t => cases h; cases running
  | startOtherBlocks t straps store =>
    have h : execStartOtherBlocks t straps store s = .next u := h
    unfold execStartOtherBlocks at h
    split at h
    · cases h; exact .still t s.restartPin
    · next idle => exact outcome_forAll h (steady_start (Loads.at ⟨loading, fun e => idle (Or.inl e)⟩ t) straps store)
  | restartPinAsserted t =>
    have h : execRestartPinAsserted t s = .next u := h
    unfold execRestartPinAsserted at h
    dsimp only at h
    split at h
    · cases h; exact .still t s.restartPin
    · split at h
      · cases h; exact .still t true
      all_goals cases h; cases running
  | restartPinReleased t => cases h; exact .still t false
  | riRisingEdge t n => exact outcome_take h (steady_riRise _ n)
  | riFallingEdge t n => exact outcome_take h (steady_riFall _ n)
  | stuckRing t n => exact outcome_take h (.ite steady_stuck)
  | ringSilenceExpiry t n => exact outcome_take h (steady_ringSilenceExpiry _ n)
  | cdRisingEdge t n => exact outcome_take h (steady_cdRise _ n)
  | cdFallingEdge t n => exact outcome_take h (steady_cdFall _ n)
  | carrierQualified t n => exact outcome_take h (.ite steady_enterSignOn)
  | carrierWaitExpiry t n => exact outcome_take h (.ite fun hc => (steady_count _ _).trans (steady_hangup (by simp [hc.1])))
  | disconnect t n =>
    refine outcome_crossed h ?_
    split
    · exact crossed_disconnect _ n
    · exact (Steady.refl _).crossed
  | drainLimitExpiry t n => exact outcome_take h (.ite fun hc => steady_hangup (by simp [hc.1]))
  | hangupGuardExpiry t n => exact outcome_take h (.ite fun hc => steady_enterIdle _ (by simp [hc.1]))
  | establish t n => exact outcome_crossed h (crossed_takeEstablish _ n)
  | refuse t n => exact outcome_take h (steady_takeRefuse _ n)
  | close t n => exact outcome_crossed h (crossed_takeClose _ n)
  | drained t n => exact outcome_take h (steady_takeDrained _ n)
  | beginProving t n => exact outcome_take h (steady_takeBegin _ n)
  | endProving t n => exact outcome_take h (steady_takeEnd _ n)
  | characterReceived t n data parity => exact outcome_take h (steady_receiveChar _ n data parity)
  | framingError t n => exact outcome_take h (.ite fun _ => steady_count _ _)
  | lineBreak t n => exact outcome_take h (.ite fun _ => steady_interrupt _ n true)
  | speedTry t n markMs width decoded stop => exact outcome_take h (steady_speedTry _ n markMs width decoded stop)
  | characterSent t n => exact outcome_take h (steady_charSent _ n)
  | forwardingTimerExpiry t n => exact outcome_take h (.ite fun _ => steady_updPath fun _ => rfl)
  | signOnTimerExpiry t n => exact outcome_take h (steady_signOnExpiry _ n)
  | replyWaitExpiry t n => exact outcome_take h (steady_replyWaitExpiry _ n)
  | confirmReplyWaitExpiry t n => exact outcome_take h (steady_updSess _ n _)
  | tbRisingEdge t => exact outcome_take h (steady_tbEdge _)
  | watchTimerExpiry t => exact outcome_take h (.ite fun _ => steady_failReference _)
  | internalDividerTick t => exact outcome_take h (.ite fun _ => steady_dividerTick _)
  | idleTimerExpiry t n => exact outcome_take h (steady_closeAt _ n _ _)
  | graceExpiry t n => exact outcome_take h (steady_closeAt _ n _ _)
  | channelLossLimit t n => exact outcome_take h (steady_closeAt _ n _ _)
  | refreshTimerExpiry t =>
    have h : execRefreshTimerExpiry t s = .next u := h
    unfold execRefreshTimerExpiry at h
    split at h
    · exact outcome_forAll h (steady_refresh _)
    · exact outcome_take h (.refl _)
  | beaconPeriodExpiry t => exact outcome_take h (.ite fun _ => steady_beaconPeriod _)
  | ackWaitExpiry t serial => exact outcome_take h (.ite fun _ => (steady_raise _ _).after (steady_of_eq rfl rfl))
  | clashTimerExpiry t => exact outcome_take h (.ite fun _ => steady_of_eq rfl rfl)
  | quietIntervalExpiry t => exact outcome_take h (.ite fun _ => (steady_raise _ _).after (steady_of_eq rfl rfl))
  | busIdle t => exact outcome_take h (.ite fun _ => steady_select _ _)
  | arbitrationLost t =>
    refine outcome_take h ?_
    split
    · exact steady_repend _ _ _
    · exact .refl _
  | strike t =>
    refine outcome_take h ?_
    split
    · exact steady_struck _ _
    · exact .refl _
  | dataInEchoed t =>
    refine outcome_take h ?_
    split
    · split
      · exact (steady_delivered _ _).trans (steady_dataInEchoed _ _)
      · exact .refl _
    · exact .refl _
  | claimEchoed t =>
    refine outcome_take h ?_
    split
    · split
      · split
        · exact (steady_delivered _ _).trans (steady_newClaimEchoed _ _ _ _)
        · exact steady_delivered _ _
      · exact .refl _
    · exact .refl _
  | releaseEchoed t =>
    refine outcome_take h ?_
    split
    · split
      · exact (steady_delivered _ _).trans (steady_setClaims _ _ _)
      · exact .refl _
    · exact .refl _
  | chargeEchoed t =>
    refine outcome_take h ?_
    split
    · split
      · exact steady_of_eq rfl rfl
      · exact .refl _
    · exact .refl _
  | joiningBeaconEchoed t =>
    refine outcome_take h ?_
    split
    · split
      · exact .ite fun _ => (steady_delivered _ _).trans (steady_joined _ _)
      · exact .refl _
    · exact .refl _
  | resultEchoed t =>
    refine outcome_take h ?_
    split
    · split
      · exact (steady_delivered _ _).trans (steady_orderResultEchoed _ _ _)
      · exact steady_of_eq rfl rfl
      · exact .refl _
    · exact .refl _
  | ownFrameOnBus t =>
    refine outcome_take h ?_
    split
    · exact .ite fun _ => steady_delivered _ _
    · exact .refl _
  | receiveFault t f cutShort own => exact outcome_take h (.ite fun _ => steady_of_eq rfl rfl)
  | numberClash t => exact outcome_take h (.ite fun _ => steady_clash _)
  | frameOnBus t src dest => exact outcome_take h (steady_frameOnBus _ src dest)
  | beacon t src p => exact outcome_take h (steady_takeBeacon _ src p)
  | claim t src p => exact outcome_take h (steady_takeAll _ fun v => steady_noteClaim v _ p)
  | release t src p => exact outcome_take h (steady_takeAll _ fun v => steady_noteRelease v src p)
  | survey t src =>
    have h : execSurvey t src s = .next u := h
    unfold execSurvey at h
    split at h
    · exact outcome_forAll h (steady_takeAll _ steady_answerSurvey)
    · exact outcome_take h (.refl _)
  | time t src minute second => exact outcome_take h (steady_takeAll _ fun v => steady_setClock v src minute second)
  | lineState t src tag signals =>
    refine outcome_take h ?_
    split
    · exact steady_ownLineState _
    · exact steady_takeAll _ fun v => steady_of_eq rfl rfl
  | flow t src line state => exact outcome_take h (steady_takeOwn _ fun v => steady_noteFlow v src line state)
  | dataOut t src line flags chars => exact outcome_take h (steady_dataOut _ src line flags _)
  | admitReply t src p => exact outcome_take h (steady_takeOwn _ fun v => steady_takeReply v src p)
  | chargeAck t src serial => exact outcome_take h (steady_takeOwn _ fun v => steady_acknowledge v src serial)
  | orderForceOff t src line arg => exact outcome_take h (steady_order _ src _ line steady_forceOff)
  | orderOut t src line arg => exact outcome_take h (steady_order _ src _ line steady_orderOutEffect)
  | orderIn t src line arg => exact outcome_take h (steady_order _ src _ line steady_orderInEffect)
  | orderProve t src line arg => exact outcome_take h (steady_order _ src _ line (steady_proveEffect src _))
  | orderDrain t src line arg => exact outcome_take h (steady_order _ src _ line fun _ _ => steady_of_eq rfl rfl)
  | orderUndrain t src line arg => exact outcome_take h (steady_order _ src _ line fun _ _ => steady_of_eq rfl rfl)
  | orderNotice t src line arg => exact outcome_take h (steady_order _ src _ line (steady_noticeEffect _))
  | orderRestart t src line arg =>
    rcases restartOrder_steady (s.at t) src line with steady | stopped
    · exact outcome_take h steady
    · cases h
      exact absurd ((settle_loader _ _ _).symm.trans running) stopped
  | orderReport t src line arg => exact outcome_take h (steady_order _ src _ line (steady_reportEffect arg))
  | provingCarrierQualified t n => exact outcome_take h (.ite fun _ => steady_beginRunning _ n)
  | provingCarrierWaitExpiry t n => exact outcome_take h (.ite fun _ => steady_finishRun _ n _)
  | provingCharacterReceived t n data badlyFramed => exact outcome_take h (.ite fun _ => steady_setRun _ n _)
  | provingCarrierLost t n => exact outcome_take h (.ite fun _ => steady_finishRun _ n _)
  | runTimerExpiry t n => exact outcome_take h (.ite fun _ => steady_finishRun _ n _)

/-! ## The closing work -/

theorem flow_updPath {s : State} {n m : LineNo} {f : Path → Path} (flow : ∀ p, (f p).flow = p.flow) : (s.updPath n f).path[m].flow = s.path[m].flow := by
  show (s.path.set n.val (f s.path[n]) n.isLt)[m].flow = _
  rw [vector_set_get]
  split
  · next same => rw [flow, same]
  · rfl

theorem flow_setOut (s : State) (n m : LineNo) (q : Queue) : (s.setOut n q).path[m].flow = s.path[m].flow :=
  flow_updPath (s := s) (n := n) (f := fun p => { p with outQ := q }) fun _ => rfl

theorem served_flow (s : State) (m : LineNo) : (served s).path[m].flow = s.path[m].flow := by
  have text (n : LineNo) (u : State) : (u.serveText n).path[m].flow = u.path[m].flow := by
    unfold State.serveText
    split
    · rfl
    · exact (flow_setOut _ n m _).trans (flow_updPath fun _ => rfl)
  have transmit (n : LineNo) (u : State) : (u.startTx n).path[m].flow = u.path[m].flow := by
    unfold State.startTx
    split
    · split
      · exact flow_updPath fun _ => rfl
      · split
        · rfl
        · refine (flow_updPath ?_).trans (flow_setOut u n m _)
          exact fun _ => rfl
    · rfl
  have ready : s.testHold.updateOffers.path[m].flow = s.path[m].flow := by
    rw [updateOffers_path]
    exact testHold_flow s m
  exact Proving.serve_induction (P := fun u => u.path[m].flow = s.path[m].flow) (fun n u h => (text n u).trans h) (fun n u h => (transmit n u).trans h)
    (fun _ _ h => h) _ ready

/-- A line's FLOW state is the one given, or its FLOW request stands. -/
def FlowRaised (n : LineNo) (f : Option FlowState) (u : State) : Prop := u.path[n].flow = f ∨ (u.req (.flow n)).pending = true

section
variable {n : LineNo} {f : Option FlowState} {u : State} (h : FlowRaised n f u)
include h

theorem FlowRaised.raise (i : ReqId) : FlowRaised n f (u.raise i) := h.imp (fun h => by rw [raise_path]; exact h) (raise_keeps_pending u i _)

theorem FlowRaised.updateFlow (m : LineNo) : FlowRaised n f (u.updateFlow m) := by
  unfold State.updateFlow
  split
  · exact h
  · by_cases same : m = n
    · subst same
      exact Or.inr (raised_pending _ _)
    · have other : FlowRaised n f (u.updPath m fun p => { p with flow := u.flowWanted m }) :=
        h.imp (fun h => (congrArg Path.flow (vector_set_get_ne _ _ same)).trans h) id
      exact other.raise _

theorem FlowRaised.reportDrained (m : LineNo) : FlowRaised n f (u.reportDrained m) := by
  have req : (u.reportDrained m).req (.flow n) = u.req (.flow n) :=
    reportDrained_keeps (g := fun u => u.req (.flow n)) (Strikes.closeCause_req _) (fun _ _ => rfl) m u
  unfold FlowRaised
  rw [req, reportDrained_path]
  exact h

end

/-- Where the closing work changes a line's FLOW state, the FLOW request stands (R42). -/
theorem settle_flow_raised {v : State} (started : v.started = true) (before : State) (every : Bool) (n : LineNo) :
    FlowRaised n v.path[n].flow (v.settle before every) := by
  rw [settle_of_started started]
  refine eachLine_induction _ _ (fun m u h => ?_) _ _ (eachLine_induction _ _ (fun m u h => ?_) _ _ (eachLine_induction _ _ (fun m u h => h.reportDrained m) _ _
    (eachLine_induction _ _ (fun m u h => h.updateFlow m) _ _ (Or.inl (served_flow v n)))))
  · unfold State.raiseLineState
    split
    · split
      · exact h.raise _
      · exact h
    · exact h
  · unfold State.raiseDataIn
    split
    · exact h.raise _
    · exact h

/-- The FLOW state of a session after its event: what its room calls for, with its request where it changed. -/
theorem settled_flow {v : State} (started : v.started = true) (before : State) (every : Bool) (n : LineNo) :
    (v.settle before every).path[n].flow =
        flowFor ((v.settle before every).outRoom n) ((v.settle before every).group n).allowance v.path[n].flow ∧
      FlowRaised n v.path[n].flow (v.settle before every) :=
  ⟨(settle_flow started before every n).trans (by rw [served_flow]), settle_flow_raised started before every n⟩

theorem flowFor_of_go {room allowance : Nat} : flowFor room allowance (some .go) = if room ≤ 16 then some .hold else some .go := rfl

theorem flowFor_of_hold {room allowance : Nat} : flowFor room allowance (some .hold) = if 8 * allowance ≤ room then some .go else some .hold := rfl

/-- Part 1 of O46: the FLOW state of every line after a command (R42). -/
theorem exec_flow {c : Instr} {s u : State} (loading : LoadingOk s) (flows : FlowOk s) (h : exec c s = .next u) (running : u.loader = .running) (n : LineNo)
    (range : 3 ≤ (u.group n).allowance) :
    (s.st n = .session → u.st n = .session →
      (s.path[n].flow = some .go → u.outRoom n ≤ 16 → u.path[n].flow = some .hold ∧ (u.req (.flow n)).pending = true) ∧
        (s.path[n].flow = some .go → 16 < u.outRoom n → u.path[n].flow = some .go) ∧
        (s.path[n].flow = some .hold → 8 * (u.group n).allowance ≤ u.outRoom n → u.path[n].flow = some .go ∧ (u.req (.flow n)).pending = true) ∧
        (s.path[n].flow = some .hold → u.outRoom n < 8 * (u.group n).allowance → u.path[n].flow = some .hold)) ∧
      (s.st n ≠ .session → u.st n = .session →
        (u.outRoom n ≤ 16 → u.path[n].flow = some .hold ∧ (u.req (.flow n)).pending = true) ∧ (16 < u.outRoom n → u.path[n].flow = some .go)) ∧
      (s.st n = .session → u.st n ≠ .session → u.path[n].flow = none) := by
  cases exec_outcome loading running h with
  | still t pin =>
    obtain ⟨going, holding⟩ := flows running n range
    refine ⟨fun _ _ => ⟨fun go full => ?_, fun go _ => go, fun hold free => ?_, fun hold _ => hold⟩, fun outside inside => absurd inside outside,
      fun inside outside => absurd inside outside⟩
    · exact absurd (going go) (Nat.not_lt.mpr full)
    · exact absurd (holding hold) (Nat.not_lt.mpr free)
  | event v before every crossed =>
    have started : v.started = true := decide_eq_true ((settle_loader _ _ _).symm.trans running)
    obtain ⟨flow, raised⟩ := settled_flow started before every n
    have st : (v.settle before every).st n = v.st n := by unfold State.st; rw [settle_sup]
    rw [st]
    have went {f : FlowState} (now : v.path[n].flow = some f) (changed : (v.settle before every).path[n].flow ≠ some f) :
        ((v.settle before every).req (.flow n)).pending = true := by
      rw [now] at raised
      exact raised.resolve_left changed
    have fromGo (now : v.path[n].flow = some .go) (full : (v.settle before every).outRoom n ≤ 16) :
        (v.settle before every).path[n].flow = some .hold ∧ ((v.settle before every).req (.flow n)).pending = true := by
      rw [now, flowFor_of_go, if_pos full] at flow
      exact ⟨flow, went now (by rw [flow]; decide)⟩
    have stayGo (now : v.path[n].flow = some .go) (free : 16 < (v.settle before every).outRoom n) : (v.settle before every).path[n].flow = some .go := by
      rw [now, flowFor_of_go, if_neg (Nat.not_le.mpr free)] at flow
      exact flow
    refine ⟨fun inside stays => ?_, fun outside enters => ?_, fun inside left => ?_⟩
    · have same : v.path[n].flow = s.path[n].flow := by
        rcases crossed n with e | ⟨away, -⟩ | ⟨away, -⟩
        · rw [callsOf_session inside, callsOf_session stays] at e
          exact Option.some.inj e
        · exact absurd stays away
        · exact absurd inside away
      rw [← same]
      refine ⟨fromGo, stayGo, fun hold free => ?_, fun hold full => ?_⟩
      · rw [hold, flowFor_of_hold, if_pos free] at flow
        exact ⟨flow, went hold (by rw [flow]; decide)⟩
      · rw [hold, flowFor_of_hold, if_neg (Nat.not_le.mpr full)] at flow
        exact flow
    · have begun : v.path[n].flow = some .go := by
        rcases crossed n with e | ⟨away, -⟩ | ⟨-, e⟩
        · rw [callsOf_other outside, callsOf_session enters] at e
          cases e
        · exact absurd enters away
        · rw [callsOf_session enters] at e
          exact Option.some.inj e
      exact ⟨fromGo begun, stayGo begun⟩
    · have none : v.path[n].flow = none := by
        rcases crossed n with e | ⟨-, none⟩ | ⟨away, -⟩
        · rw [callsOf_session inside, callsOf_other left] at e
          cases e
        · exact none
        · exact absurd inside away
      rw [none] at flow
      exact flow

end Sys2Proof.Proofs.Flows
end

section
/-! Channel-hold (R43): cleared where the session's channel station turns absent from CHANNEL, and at that station's fresh-start beacon. -/

namespace Sys2Proof.Proofs.ChannelHolds

open Sys2Proof Sys2Proof.Machine Sys2Proof.Proofs.Lines Sys2Proof.Proofs.Disconnect Sys2Proof.Proofs.HangUp Sys2Proof.Proofs.Roster

/-! ## What a change of the roster leaves of the channel-holds -/

theorem eq_of_core_inward {u v : State} (h : u.core = v.core) (n : LineNo) : u.path[n].inward = v.path[n].inward := by
  have path : u.path.map Path.inward = v.path.map Path.inward := show u.core.path = v.core.path from h ▸ rfl
  have line := congrArg (fun w : Vector Path 16 => w[n]) path
  simpa using line

theorem eq_of_core_hold {u v : State} (h : u.core = v.core) (n : LineNo) : u.path[n].channelHold = v.path[n].channelHold :=
  (congrArg Path.channelHold (eq_of_core_inward h n) : u.path[n].inward.channelHold = v.path[n].inward.channelHold)

theorem eq_of_core_channel {u v : State} (h : u.core = v.core) (n : LineNo) : u.sess[n].map Session.channel = v.sess[n].map Session.channel := by
  have sess : (u.sess.map fun x => x.map Session.metered) = v.sess.map fun x => x.map Session.metered := show u.core.sess = v.core.sess from h ▸ rfl
  have line := congrArg (fun w : Vector (Option Session) 16 => w[n].map Session.channel) sess
  simpa [Function.comp_def, Session.metered] using line

/-- The session of a line has its channel station turned absent from CHANNEL between two states of the roster. -/
def turnedAbsent (s : State) (after : Vector RosterEntry 16) (n : LineNo) : Bool :=
  match s.sess[n].map Session.channel with
  | some i => s.roster[i].channel && !after[i].channel
  | none => false

/-- The channel-holds of a state follow the change of the roster from another; `fresh` says of which lines' channel stations a fresh start was heard. -/
structure HoldsFollow (s u : State) (fresh : LineNo → Bool) : Prop where
  hold : ∀ n : LineNo, u.path[n].channelHold = (s.path[n].channelHold && !(turnedAbsent s u.roster n || fresh n))
  channel : ∀ n : LineNo, u.sess[n].map Session.channel = s.sess[n].map Session.channel

/-- No channel-hold, no session's channel station and no roster entry changes. -/
structure HoldsStand (s u : State) : Prop where
  hold : ∀ n : LineNo, u.path[n].channelHold = s.path[n].channelHold
  channel : ∀ n : LineNo, u.sess[n].map Session.channel = s.sess[n].map Session.channel
  roster : u.roster = s.roster

theorem HoldsStand.of_eq {s u : State} (path : u.path = s.path) (sess : u.sess = s.sess) (roster : u.roster = s.roster) : HoldsStand s u :=
  ⟨fun n => by rw [path], fun n => by rw [sess], roster⟩

theorem HoldsStand.refl (s : State) : HoldsStand s s := .of_eq rfl rfl rfl

theorem HoldsStand.follow {s u : State} (h : HoldsStand s u) : HoldsFollow s u fun _ => false := by
  refine ⟨fun n => ?_, h.channel⟩
  have still : turnedAbsent s u.roster n = false := by
    unfold turnedAbsent
    rw [h.roster]
    split
    · exact Bool.and_not_self _
    · rfl
  rw [still, h.hold]
  exact (Bool.and_true _).symm

theorem HoldsFollow.before {s t u : State} {fresh : LineNo → Bool} (h : HoldsStand s t) (k : HoldsFollow t u fresh) : HoldsFollow s u fresh := by
  refine ⟨fun n => ?_, fun n => (k.channel n).trans (h.channel n)⟩
  have same : turnedAbsent t u.roster n = turnedAbsent s u.roster n := by
    unfold turnedAbsent
    rw [h.channel, h.roster]
  rw [k.hold, h.hold, same]

theorem HoldsFollow.settle {s v : State} {fresh : LineNo → Bool} (h : HoldsFollow s v fresh) (before : State) (every : Bool) :
    HoldsFollow s (v.settle before every) fresh := by
  have core := core_of_kept (settle_kept v before every)
  refine ⟨fun n => ?_, fun n => (eq_of_core_channel core n).trans (h.channel n)⟩
  rw [eq_of_core_hold core, settle_roster]
  exact h.hold n

theorem reactRoster_holds (s : State) (roster : Vector RosterEntry 16) (timer : Option Moment) (returned : Option Station) :
    HoldsFollow s (State.reactRoster { s with roster := roster, beaconTimer := timer } s.roster returned) fun _ => false := by
  have core := reactRoster_core { s with roster := roster, beaconTimer := timer } s.roster returned
  refine ⟨fun n => ?_, fun n => eq_of_core_channel core n⟩
  rw [eq_of_core_hold core, eq_of_core_roster core]
  show (mapTable s.path fun n x => if State.channelTurnedAbsent { s with roster := roster, beaconTimer := timer } s.roster n then { x with channelHold := false } else x)[n].channelHold = _
  have turned : State.channelTurnedAbsent { s with roster := roster, beaconTimer := timer } s.roster n = turnedAbsent s roster n := by
    unfold State.channelTurnedAbsent turnedAbsent
    dsimp only
    cases s.sess[n] <;> rfl
  rw [mapTable_get, turned]
  show _ = (s.path[n].channelHold && !(turnedAbsent s roster n || false))
  cases turnedAbsent s roster n <;> simp

theorem changeRoster_holds (s : State) (i : Station) (f : RosterEntry → RosterEntry) (returned : Option Station) :
    HoldsFollow s (s.changeRoster i f returned) fun _ => false := by
  unfold State.changeRoster
  split
  · exact (HoldsStand.refl s).follow
  · exact reactRoster_holds s (s.roster.set i (f s.roster[i])) s.beaconTimer returned

/-! ## The four commands -/

theorem frameOnBus_holds (s : State) (src : Station) (dest : BitVec 5) : HoldsFollow s (s.frameOnBus src dest) fun _ => false := by
  have still (echo : Bool) : HoldsStand s { s with echo := echo } := .of_eq rfl rfl rfl
  have heard (echo : Bool) : HoldsFollow s (State.hear { s with echo := echo } src) fun _ => false :=
    HoldsFollow.before (still echo) (changeRoster_holds _ src _ none)
  unfold State.frameOnBus State.takeOwn State.takeAll
  split
  · split
    · split
      · exact heard true
      · exact (still false).follow
    · exact (HoldsStand.refl s).follow
  · split
    · split
      · exact heard s.canEcho
      · exact (HoldsStand.refl s).follow
    · split
      · exact heard false
      · exact (HoldsStand.refl s).follow

theorem beaconPeriod_holds (s : State) : HoldsFollow s s.beaconPeriod fun _ => false := by
  have reacted := reactRoster_holds s (agedRoster s.station s.roster) (some (s.now + 10000)) none
  unfold State.beaconPeriod
  dsimp only
  obtain ⟨q, c, e⟩ := Closing.raise_fields
    (State.reactRoster { s with roster := agedRoster s.station s.roster, beaconTimer := some (s.now + 10000) } s.roster none) .beacon
  rw [e]
  exact ⟨reacted.hold, reacted.channel⟩

theorem struck_holds (s : State) (w : WireFrame) : HoldsFollow s (s.struck w) fun _ => false := by
  have landed (u : State) : HoldsStand u (u.landed w.req) := by
    unfold State.landed
    split
    · next n _ =>
      refine ⟨fun m => ?_, fun _ => rfl, rfl⟩
      show (u.path.set n.val { u.path[n] with inFlight := none } n.isLt)[m].channelHold = _
      rw [vector_set_get]
      split
      · next same => rw [← same]
      · rfl
    · exact .refl u
  have counted : HoldsStand s (s.count .strikes) := .of_eq rfl rfl rfl
  unfold State.struck
  dsimp only
  split
  · obtain ⟨hold, channel, roster⟩ := landed (s.count .strikes)
    exact HoldsStand.follow ⟨hold, channel, roster⟩
  · unfold State.discard
    dsimp only
    have owner (u : State) : HoldsStand u (u.ownerDiscards w) := by
      unfold State.ownerDiscards
      split
      · exact .of_eq rfl rfl rfl
      · split
        · exact .of_eq rfl rfl rfl
        · exact .refl u
      · exact .of_eq rfl rfl rfl
      all_goals exact .refl u
    have addressed (u : State) : HoldsFollow u (u.discardTo w) fun _ => false := by
      unfold State.discardTo
      split
      · exact changeRoster_holds u _ _ none
      · exact (HoldsStand.refl u).follow
      · split
        · exact HoldsStand.follow (.of_eq rfl rfl rfl)
        · exact HoldsStand.follow (.of_eq rfl rfl rfl)
    obtain ⟨hold, channel, roster⟩ := landed (s.count .strikes)
    refine HoldsFollow.before ?_ (addressed _)
    obtain ⟨ownHold, ownChannel, ownRoster⟩ := owner
      (State.dropReq { ((s.count .strikes).landed w.req).count .framesDiscarded with wire := none } w.req)
    exact ⟨fun n => (ownHold n).trans (hold n), fun n => (ownChannel n).trans (channel n), ownRoster.trans roster⟩

/-- A fresh-start beacon of the session's channel station. -/
def freshFrom (s : State) (src : Station) (p : BeaconPayload) (n : LineNo) : Bool :=
  s.hears src && decide (p.freshStart ≠ 0) && decide (s.sess[n].map Session.channel = some src)

/-- The session of a line has a station as its channel station. -/
def channelledTo (s : State) (src : Station) (n : LineNo) : Bool :=
  match s.sess[n] with
  | some x => x.channel = src
  | none => false

theorem channelledTo_eq (s : State) (src : Station) (n : LineNo) : channelledTo s src n = decide (s.sess[n].map Session.channel = some src) := by
  unfold channelledTo
  cases s.sess[n] <;> simp

theorem purge_hold (s : State) (src : Station) (n : LineNo) :
    (s.purge src).path[n].channelHold = (s.path[n].channelHold && !decide (s.sess[n].map Session.channel = some src)) := by
  show (mapTable s.path fun n x => if channelledTo s src n then { x with channelHold := false } else x)[n].channelHold = _
  rw [mapTable_get, channelledTo_eq]
  by_cases own : s.sess[n].map Session.channel = some src
  · rw [if_pos (decide_eq_true own), decide_eq_true own]
    exact (Bool.and_false _).symm
  · rw [if_neg (by rw [decide_eq_false own]; exact Bool.false_ne_true), decide_eq_false own]
    exact (Bool.and_true _).symm

theorem HoldsFollow.purge {s v : State} {fresh : LineNo → Bool} {src : Station} (changed : HoldsFollow s v fun _ => false)
    (own : ∀ n, fresh n = decide (s.sess[n].map Session.channel = some src)) : HoldsFollow s (v.purge src) fresh := by
  refine ⟨fun n => ?_, changed.channel⟩
  rw [purge_hold, changed.hold, changed.channel, own, Bool.or_false, Bool.not_or, Bool.and_assoc]
  rfl

theorem HoldsFollow.congr {s u : State} {f g : LineNo → Bool} (h : HoldsFollow s u f) (same : ∀ n, g n = f n) : HoldsFollow s u g :=
  ⟨fun n => by rw [same]; exact h.hold n, h.channel⟩

theorem takeBeacon_holds (s : State) (src : Station) (p : BeaconPayload) : HoldsFollow s (s.takeBeacon src p) (freshFrom s src p) := by
  unfold State.takeBeacon
  split
  · next hears =>
    have still : HoldsStand s { s with echo := s.canEcho } := .of_eq rfl rfl rfl
    have changed := HoldsFollow.before still
      (changeRoster_holds { s with echo := s.canEcho } src (fun _ => beaconEntry p) (if s.roster[src].returns p then some src else none))
    by_cases fresh : p.freshStart ≠ 0
    · dsimp only
      rw [if_pos (show flagByte p.freshStart = true from decide_eq_true fresh)]
      refine changed.purge fun n => ?_
      unfold freshFrom
      rw [hears, decide_eq_true fresh]
      exact Bool.true_and _
    · dsimp only
      rw [if_neg (show ¬flagByte p.freshStart = true from fun h => fresh (of_decide_eq_true h))]
      refine changed.congr fun n => ?_
      unfold freshFrom
      rw [decide_eq_false fresh, Bool.and_false, Bool.false_and]
  · next deaf =>
    refine (HoldsStand.refl s).follow.congr fun n => ?_
    unfold freshFrom
    rw [Bool.eq_false_iff.mpr deaf, Bool.false_and, Bool.false_and]

/-- The channel-hold of a session after a change of the roster, in the terms of R43. -/
theorem HoldsFollow.spelled {s u : State} {fresh : LineNo → Bool} {p : Prop} [Decidable p] (h : HoldsFollow s u fresh) {n : LineNo} {x : Session}
    (hx : s.sess[n] = some x) (same : fresh n = true ↔ p)
    [Decidable ((s.roster[x.channel].age < 3 ∧ s.roster[x.channel].roles.channel = true) ∧
      ¬(u.roster[x.channel].age < 3 ∧ u.roster[x.channel].roles.channel = true) ∨ p)] :
    u.path[n].channelHold = (s.path[n].channelHold &&
      !decide ((s.roster[x.channel].age < 3 ∧ s.roster[x.channel].roles.channel = true) ∧
        ¬(u.roster[x.channel].age < 3 ∧ u.roster[x.channel].roles.channel = true) ∨ p)) := by
  rw [h.hold]
  congr 2
  rw [Bool.eq_iff_iff, Bool.or_eq_true, same, decide_eq_true_iff, ← Contents.channel_iff, ← Contents.channel_iff]
  unfold turnedAbsent
  rw [hx]
  simp

/-- Part 2 of O46: the channel-holds at the commands that can turn a station absent, and at a beacon. -/
theorem leads_channelHold (t : Moment) (src : Station) (p : BeaconPayload) (dest : BitVec 5) (s : State) (running : s.loader = .running) :
    ∀ c ∈ [Instr.beacon t src p, .frameOnBus t src dest, .beaconPeriodExpiry t, .strike t],
      Leads c s fun u =>
        ∀ (n : LineNo) (x : Session), s.sess[n] = some x →
          let present (v : State) : Prop := v.roster[x.channel].age < 3 ∧ v.roster[x.channel].roles.channel = true
          let fresh : Prop := c = .beacon t src p ∧ p.freshStart ≠ 0 ∧ src ≠ s.station ∧ src = x.channel
          u.path[n].channelHold = (s.path[n].channelHold && !decide (present s ∧ ¬present u ∨ fresh)) := by
  have still : HoldsStand s (s.at t) := .of_eq rfl rfl rfl
  intro c hc
  simp only [List.mem_cons, List.not_mem_nil, or_false] at hc
  rcases hc with rfl | rfl | rfl | rfl
  · refine leads_of_take rfl rfl fun n x hx => ?_
    refine HoldsFollow.spelled ((HoldsFollow.before still (takeBeacon_holds (s.at t) src p)).settle _ _) hx ?_
    have hears : (s.at t).hears src = true ↔ src ≠ s.station := by
      rw [Commands.hears_iff]
      exact and_iff_right running
    unfold freshFrom
    rw [Bool.and_eq_true, Bool.and_eq_true, hears, decide_eq_true_iff, decide_eq_true_iff, show (s.at t).sess[n] = some x from hx]
    simp only [Option.map_some, Option.some.injEq, true_and]
    exact ⟨fun ⟨⟨other, fresh⟩, own⟩ => ⟨fresh, other, own.symm⟩, fun ⟨fresh, other, own⟩ => ⟨⟨other, fresh⟩, own.symm⟩⟩
  · refine leads_of_take rfl rfl fun n x hx => ?_
    exact HoldsFollow.spelled ((HoldsFollow.before still (frameOnBus_holds (s.at t) src dest)).settle _ _) hx
      ⟨fun e => absurd e Bool.false_ne_true, fun ⟨e, _⟩ => Instr.noConfusion e⟩
  · refine leads_of_take rfl rfl fun n x hx => ?_
    have held : HoldsFollow (s.at t) (if fallenDue (s.at t).beaconTimer (s.at t).now then (s.at t).beaconPeriod else s.at t) fun _ => false := by
      split
      · exact beaconPeriod_holds _
      · exact (HoldsStand.refl _).follow
    exact HoldsFollow.spelled ((HoldsFollow.before still held).settle _ _) hx ⟨fun e => absurd e Bool.false_ne_true, fun ⟨e, _⟩ => Instr.noConfusion e⟩
  · refine leads_of_take rfl rfl fun n x hx => ?_
    have held : HoldsFollow (s.at t) (match (s.at t).wire with | some w => (s.at t).struck w | none => s.at t) fun _ => false := by
      split
      · exact struck_holds _ _
      · exact (HoldsStand.refl _).follow
    exact HoldsFollow.spelled ((HoldsFollow.before still held).settle _ _) hx ⟨fun e => absurd e Bool.false_ne_true, fun ⟨e, _⟩ => Instr.noConfusion e⟩

end Sys2Proof.Proofs.ChannelHolds
end

section
/-! DATA-OUT and FLOW (R31, R36, R40, R41, R43, R44, R173): what hearing the sender leaves for the output, and the effects of an accepted DATA-OUT. -/

namespace Sys2Proof.Proofs.ChannelFrames

open Sys2Proof Sys2Proof.Machine Sys2Proof.Proofs.Lines Sys2Proof.Proofs.Closing Sys2Proof.Proofs.Disconnect Sys2Proof.Proofs.Frames
open Sys2Proof.Proofs.Texts Sys2Proof.Proofs.SessionMoves Sys2Proof.Proofs.Reports Sys2Proof.Proofs.Orders Sys2Proof.Proofs.Transmitters
open Sys2Proof.Proofs.ChannelHolds

/-! ## The sender heard -/

/-- A session record less its confirmation. -/
def unasked (x : Session) : Session := { x with confirm := none }

/-- What the output of the lines and the holds of their sessions are told by. -/
def outputView (s : State) : Vector Path 16 × Nat × Vector (Option Session) 16 × Vector RosterEntry 16 × BusState :=
  (s.path, s.free, s.sess.map fun x => x.map unasked, s.roster, s.bus)

theorem raise_outputView (s : State) (i : ReqId) : outputView (s.raise i) = outputView s := by
  unfold State.raise
  split <;> rfl

theorem raiseConfirm_outputView (n : LineNo) (s : State) : outputView (s.raiseConfirm n) = outputView s := by
  unfold State.raiseConfirm
  dsimp only
  rw [raise_outputView]
  show outputView (State.updSess { s with requestSerial := s.requestSerial + 1 } n _) = _
  unfold State.updSess
  split
  · rfl
  · next x hx =>
    have sess : (s.sess.set n (some { x with confirm := some ⟨s.requestSerial, some (s.now + 1000 * s.cfg.replyWait), false⟩ })).map
        (fun x => x.map unasked) = s.sess.map fun x => x.map unasked :=
      vector_map_set_same _ _ _ _ (by rw [show s.sess[n] = some x from hx]; rfl)
    exact congrArg (fun w => (s.path, s.free, w, s.roster, s.bus)) sess

theorem raiseConfirms_outputView (s : State) : outputView s.raiseConfirms = outputView s :=
  inFreeOrder_keeps outputView _ raiseConfirm_outputView (fun _ _ => rfl) _ s

theorem hear_outputView {s : State} {i : Station} (other : i ≠ s.station) :
    outputView (s.hear i) = outputView (State.testHold { s with roster := s.roster.set i { s.roster[i] with age := 0 } }) := by
  have offers (u : State) : outputView u.updateOffers = outputView u := updateOffers_keeps raise_outputView (fun _ _ => rfl) u
  unfold State.hear State.changeRoster
  rw [if_neg other]
  unfold State.reactRoster
  rw [clearChannelHold_none _ _ fun n => channelTurnedAbsent_heard s i n]
  dsimp only
  split
  · rw [raiseConfirms_outputView, offers]
  · exact offers _

theorem entersHold_of_view {u v : State} (h : outputView u = outputView v) (m : LineNo) : u.entersHold m = v.entersHold m := by
  simp only [outputView, Prod.mk.injEq] at h
  obtain ⟨-, -, sess, roster, bus⟩ := h
  have line : u.sess[m].map unasked = v.sess[m].map unasked := by
    simpa using congrArg (fun w : Vector (Option Session) 16 => w[m]) sess
  have view (s : State) : s.entersHold m = match s.sess[m].map unasked with
      | some x => decide (x.reason = none) && decide (x.hold = none) && s.holdCondition x
      | none => false := by
    unfold State.entersHold
    cases s.sess[m] <;> rfl
  rw [view, view, line]
  unfold State.holdCondition
  rw [roster, bus]

/-- No session of a state with its holds tested is about to enter hold. -/
theorem entersHold_of_held {s : State} (h : Held s) (m : LineNo) : s.entersHold m = false := by
  unfold State.entersHold
  split
  · next x hx =>
    by_contra enters
    simp only [Bool.and_eq_true, decide_eq_true_eq, Bool.not_eq_false] at enters
    obtain ⟨⟨open', none'⟩, condition⟩ := enters
    have held := (h m x hx open').mpr condition
    rw [none'] at held
    cases held
  · rfl

/-- Hearing a station takes no session into hold. -/
theorem entersHold_heard {s : State} {m : LineNo} (hold : s.entersHold m = false) (i : Station) :
    State.entersHold { s with roster := s.roster.set i { s.roster[i] with age := 0 } } m = false := by
  have turned := channelTurnedAbsent_heard s i m
  unfold State.channelTurnedAbsent at turned
  unfold State.entersHold State.holdCondition at hold ⊢
  dsimp only at turned hold ⊢
  cases hx : s.sess[m] with
  | none => rfl
  | some x =>
    rw [hx] at turned hold
    dsimp only at turned hold ⊢
    generalize (s.roster.set i { s.roster[i] with age := 0 })[x.channel].channel = after at *
    cases after
    · rw [Bool.not_false, Bool.and_true] at turned
      rw [turned] at hold
      exact hold
    · cases channel : s.roster[x.channel].channel with
      | true => rw [channel] at hold; exact hold
      | false =>
        rw [channel] at hold
        simp only [Bool.not_false, Bool.true_or, Bool.and_true] at hold
        rw [hold]
        rfl

/-- A state in which the sender of a frame has been heard, as the output of the lines sees it. -/
structure SenderHeard (s v : State) : Prop where
  path : v.path = s.path
  free : v.free = s.free
  holds : ∀ m : LineNo, v.entersHold m = false
  sess : ∀ (n : LineNo) (x : Session), s.sess[n] = some x → ∃ y, v.sess[n] = some y ∧ y.metered = x.metered ∧ y.reason = x.reason

theorem senderHeard {s : State} {i : Station} (other : i ≠ s.station) (holds : ∀ m : LineNo, s.entersHold m = false) : SenderHeard s (s.hear i) := by
  have view := hear_outputView other
  have none' := testHold_of_none (s := { s with roster := s.roster.set i { s.roster[i] with age := 0 } }) fun m => entersHold_heard (holds m) i
  have tested := testHold_held { s with roster := s.roster.set i { s.roster[i] with age := 0 } }
  refine ⟨?_, ?_, fun m => (entersHold_of_view view m).trans (entersHold_of_held tested m), fun n x hx => ?_⟩
  · exact (congrArg Prod.fst view).trans ((congrArg State.path none').trans rfl)
  · exact (congrArg (fun w => w.2.1) view).trans ((congrArg State.free none').trans rfl)
  · have sess := Confirmations.testHold_sess { s with roster := s.roster.set i { s.roster[i] with age := 0 } } n
    obtain ⟨hold, held, same⟩ := Confirmations.sameButHold_holdTest { s with roster := s.roster.set i { s.roster[i] with age := 0 } } x
    rw [hx, Option.map_some, same] at sess
    have line : (s.hear i).sess[n].map unasked = some (unasked { x with hold := hold, held := held }) := by
      have lines := congrArg (fun w => w.2.2.1[n]) view
      simp only [outputView, Fin.getElem_fin, Vector.getElem_map] at lines
      exact lines.trans (congrArg (Option.map unasked) sess)
    obtain ⟨y, hy, e⟩ := Option.map_eq_some_iff.mp line
    exact ⟨y, hy, (congrArg Session.metered e : (unasked y).metered = _), (congrArg Session.reason e : (unasked y).reason = _)⟩

/-- The session that a source may send to, and where it stands (R40). -/
theorem sessionOf_isSome_iff (s : State) (n : LineNo) (src : Station) :
    (s.sessionOf n src).isSome = true ↔ s.st n = .session ∧ s.sess[n].map Session.channel = some src := by
  unfold State.sessionOf
  cases s.sess[n] with
  | none => simp
  | some x =>
    dsimp only
    split
    · next h => simp [h]
    · next h => simpa using h

theorem sessionOf_of_core {u v : State} (h : u.core = v.core) (n : LineNo) (src : Station) :
    (u.sessionOf n src).isSome = (v.sessionOf n src).isSome := by
  rw [Bool.eq_iff_iff, sessionOf_isSome_iff, sessionOf_isSome_iff, eq_of_core_st h, eq_of_core_channel h]

theorem dataOutLine_eq_some_iff (s : State) (src : Station) (line : Byte) (n : LineNo) :
    s.dataOutLine src line = some n ↔ lineOf line = some n ∧ (s.sessionOf n src).isSome = true := by
  unfold State.dataOutLine
  cases lineOf line with
  | none => simp
  | some m =>
    dsimp only
    split
    · next h =>
      refine ⟨fun e => ?_, fun e => e.1⟩
      cases e
      exact ⟨rfl, h⟩
    · next h =>
      refine ⟨fun e => (by cases e), fun e => ?_⟩
      obtain ⟨e, sess⟩ := e
      cases e
      exact absurd sess h

/-! ## An accepted DATA-OUT -/

/-- A line's outbound queue after an accepted DATA-OUT (R40). -/
def sentQueue (q : Queue) (flush : Bool) (cs : List Char7) : Queue := (if flush then Queue.empty else q).append cs

/-- What an accepted DATA-OUT does to its line (R40, R41). -/
structure Stored (v w : State) (n : LineNo) (q : Queue) (x : Session) : Prop where
  path : w.path[n] = { v.path[n] with outQ := q }
  sess : w.sess[n] = some x
  sup : w.sup = v.sup
  loader : w.loader = v.loader
  roster : w.roster = v.roster
  bus : w.bus = v.bus
  echo : w.echo = v.echo
  counters : w.counters = v.counters

theorem acceptData_stored {v : State} {n : LineNo} {f : DataOutFlags} {cs : List Char7} {x : Session} (room : cs.length ≤ v.roomFor n f.flush)
    (hx : v.sess[n] = some x) : Stored v (v.acceptData n f cs) n (sentQueue v.path[n].outQ f.flush cs) (x.flags f) := by
  have flagged {w : State} (q : Queue) (path : w.path[n] = { v.path[n] with outQ := q }) (sess : w.sess = v.sess) (sup : w.sup = v.sup)
      (loader : w.loader = v.loader) (roster : w.roster = v.roster) (bus : w.bus = v.bus) (echo : w.echo = v.echo) (counters : w.counters = v.counters) :
      Stored v (w.updSess n fun x => x.flags f) n q (x.flags f) := by
    have hw : w.sess[n] = some x := by rw [sess]; exact hx
    unfold State.updSess
    rw [hw]
    exact ⟨path, vector_set_get_self _ _ _, sup, loader, roster, bus, echo, counters⟩
  unfold State.acceptData
  rw [if_neg (Nat.not_lt.mpr room)]
  dsimp only
  unfold sentQueue
  split
  · have flushed : (v.flush n).path[n] = { v.path[n] with outQ := Queue.empty } := vector_set_get_self _ _ _
    refine flagged _ ?_ rfl rfl rfl rfl rfl rfl rfl
    rw [sendOut_self, flushed]
  · exact flagged _ (sendOut_self v n cs) rfl rfl rfl rfl rfl rfl rfl

/-- The sessions of a line whose outbound side a frame changes keep their holds. -/
theorem Stored.holds {v w : State} {n : LineNo} {q : Queue} {x : Session} {f : DataOutFlags} (h : Stored v w n q (x.flags f)) (hx : v.sess[n] = some x)
    (hold : v.entersHold n = false) : w.entersHold n = false := by
  unfold State.entersHold State.holdCondition at hold ⊢
  rw [hx] at hold
  rw [h.sess, h.roster, h.bus]
  exact hold

/-- The path of the line after the event (R44). -/
theorem Stored.settled_path {v w : State} {n : LineNo} {q : Queue} {x : Session} {f : DataOutFlags} (h : Stored v w n q (x.flags f))
    (hx : v.sess[n] = some x) (hold : v.entersHold n = false) (running : v.loader = .running) (session : v.st n = .session)
    (slot : v.path[n].slot = none) (before : State) (every : Bool) :
    (∃ flow, (w.settle before every).path[n] = { Path.started { v.path[n] with outQ := q } with flow := flow }) ∧
      (served w).path[n] = Path.started { v.path[n] with outQ := q } := by
  have call : (w.st n).onCall = true := by
    unfold State.st
    rw [h.sup, show v.sup[n].st = .session from session]
    rfl
  have slotless : w.path[n].slot = none := by
    rw [h.path]
    exact slot
  have started : w.started = true := decide_eq_true (h.loader.trans running)
  refine ⟨?_, ?_⟩
  · obtain ⟨flow, e⟩ := settle_path w before every n started slotless (h.holds hx hold)
    rw [if_pos call, h.path] at e
    exact ⟨flow, e⟩
  · rw [served_path slotless (h.holds hx hold) call, h.path]

/-- What of a session record its hold, its confirmation and its close reason do not touch. -/
theorem flags_metered {x y : Session} (same : y.metered = x.metered) (f : DataOutFlags) : (y.flags f).metered = (x.flags f).metered := by
  have echo : y.echo = x.echo := (congrArg Session.echo same : y.metered.echo = x.metered.echo)
  have mark : y.endMark = x.endMark := (congrArg Session.endMark same : y.metered.endMark = x.metered.endMark)
  calc (y.flags f).metered
      = { y.metered with
          echo := if f.echoOn && !f.echoOff then true else if f.echoOff && !f.echoOn then false else y.echo
          endMark := y.endMark || f.endMark } := rfl
    _ = (x.flags f).metered := by rw [same, echo, mark]; rfl

theorem echo_flags (x : Session) (f : DataOutFlags) : (x.flags f).echo = if f.echoOn = f.echoOff then x.echo else f.echoOn := by
  show (if f.echoOn && !f.echoOff then true else if f.echoOff && !f.echoOn then false else x.echo) = _
  cases f.echoOn <;> cases f.echoOff <;> rfl

theorem closedBy_reason_eq (r : CloseReason) (x : Session) : (closedBy r x).reason = some (x.reason.getD r) := by
  unfold closedBy
  cases reason : x.reason with
  | none => rfl
  | some k => exact reason

end Sys2Proof.Proofs.ChannelFrames
end

section
/-! The three parts of O46: the own FLOW states, the channel-holds, and what becomes of a DATA-OUT and of a FLOW. -/

namespace Sys2Proof.Proofs.ChannelFrames

open Sys2Proof Sys2Proof.Machine Sys2Proof.Proofs.Lines Sys2Proof.Proofs.Closing Sys2Proof.Proofs.Disconnect Sys2Proof.Proofs.Frames
open Sys2Proof.Proofs.Texts Sys2Proof.Proofs.SessionMoves Sys2Proof.Proofs.Reports Sys2Proof.Proofs.Orders Sys2Proof.Proofs.Transmitters
open Sys2Proof.Proofs.ChannelHolds Sys2Proof.Proofs.Roster Sys2Proof.Proofs.Presence

theorem roomFor_congr {u v : State} (path : u.path = v.path) (free : u.free = v.free) (cfg : u.cfg = v.cfg) (n : LineNo) (flush : Bool) :
    u.roomFor n flush = v.roomFor n flush := by
  unfold State.roomFor State.outRoomFlushed State.outRoom
  dsimp only
  rw [path, free, group_congr cfg]

theorem toNat_of_lineOf {line : Byte} {n : LineNo} (h : lineOf line = some n) : line.toNat = n.val := by
  unfold lineOf at h
  split at h
  · exact congrArg Fin.val (Option.some.inj h)
  · cases h

section
variable {s : State} {t : Moment} {src : Station} {line flags state : Byte} {chars : List Byte}

theorem takenFrom_cfg (s : State) (t : Moment) (src : Station) : (takenFrom s t src).cfg = s.cfg := by
  unfold takenFrom State.heard
  split <;> rfl

theorem takenFrom_loader (s : State) (t : Moment) (src : Station) : (takenFrom s t src).loader = s.loader := by
  unfold takenFrom State.heard
  split <;> rfl

theorem takenFrom_path (s : State) (t : Moment) (src : Station) : (takenFrom s t src).path = s.path := by
  unfold takenFrom State.heard
  split <;> rfl

theorem takenFrom_sess (s : State) (t : Moment) (src : Station) : (takenFrom s t src).sess = s.sess := by
  unfold takenFrom State.heard
  split <;> rfl

theorem takenFrom_counters (s : State) (t : Moment) (src : Station) : (takenFrom s t src).counters = s.counters := by
  unfold takenFrom State.heard
  split <;> rfl

theorem takenFrom_sessionOf (s : State) (t : Moment) (n : LineNo) (src : Station) :
    ((takenFrom s t src).sessionOf n src).isSome = (s.sessionOf n src).isSome := by
  rw [Bool.eq_iff_iff, sessionOf_isSome_iff, sessionOf_isSome_iff, takenFrom_st, takenFrom_sess]

/-- A DATA-OUT that finds no room is refused: its echo is withheld (R40). -/
theorem dataOut_refused (comes : Comes s t src) {n : LineNo} (named : s.dataOutLine src line = some n) (room : s.roomFor n (flags.getLsbD 3) < chars.length) :
    Gives (.dataOut t src line flags chars) s (State.count { s.at t with echo := false } .dataOutRefused) := by
  refine gives_of_eq rfl ?_
  have found : (s.at t).dataOutLine src line = some n := named
  have full : (s.at t).roomFor n (dataOutFlagsOf flags).flush < (chars.map charOf).length := by
    rw [List.length_map]
    exact room
  have hears : (s.at t).hears src = true := hears_of_running comes.running comes.other
  have echoes : (s.at t).canEcho = true := comes.canEcho
  show (s.at t).dataOut src line flags (chars.map charOf) = _
  unfold State.dataOut
  rw [found]
  dsimp only
  rw [hears, echoes, decide_eq_true full]
  rfl

/-- A DATA-OUT for a line that its source may not send to is counted (R40). -/
theorem dataOut_discarded (comes : Comes s t src) (named : s.dataOutLine src line = none) :
    GivesHeard (.dataOut t src line flags chars) s (State.count { (s.at t).heard src with echo := true } .dataOutRefused) := by
  refine givesHeard_of_take (t := t) rfl ?_
  have discards : (s.at t).dataOut src line flags (chars.map charOf) =
      (s.at t).takeOwn src fun s => s.count .dataOutRefused := by
    have nowhere : (s.at t).dataOutLine src line = none := named
    unfold State.dataOut
    rw [nowhere]
  rw [event_core, discards, comes.takeOwn]
  exact core_count comes.hear_core _

/-- An accepted DATA-OUT, before the closing work. -/
theorem dataOut_accepted (comes : Comes s t src) {n : LineNo} {x : Session} (hx : s.sess[n] = some x) (named : s.dataOutLine src line = some n)
    (room : chars.length ≤ s.roomFor n (flags.getLsbD 3)) (holds : ∀ m : LineNo, s.entersHold m = false) :
    ∃ (v : State) (y : Session), v.core = (takenFrom s t src).core ∧ v.path = s.path ∧ (∀ m, v.entersHold m = false) ∧ v.sess[n] = some y ∧
      y.metered = x.metered ∧ y.reason = x.reason ∧
      Stored v ((s.at t).dataOut src line flags (chars.map charOf)) n
        (sentQueue s.path[n].outQ (flags.getLsbD 3) (chars.map charOf)) (y.flags (dataOutFlagsOf flags)) := by
  have heard := senderHeard (s := { s.at t with echo := true }) (i := src) comes.other fun m => holds m
  have core := comes.hear_core
  have takes : (s.at t).dataOut src line flags (chars.map charOf) =
      (State.hear { s.at t with echo := true } src).acceptData n (dataOutFlagsOf flags) (chars.map charOf) := by
    have found : (s.at t).dataOutLine src line = some n := named
    have fits : ¬(s.at t).roomFor n (dataOutFlagsOf flags).flush < (chars.map charOf).length := by
      rw [List.length_map]
      exact Nat.not_lt.mpr room
    rw [← comes.takeOwn fun s => s.acceptData n (dataOutFlagsOf flags) (chars.map charOf)]
    unfold State.dataOut
    rw [found]
    dsimp only
    rw [decide_eq_false fits, Bool.and_false, if_neg Bool.false_ne_true]
  obtain ⟨y, hy, metered, reason⟩ := heard.sess n x hx
  rw [takes]
  generalize State.hear { s.at t with echo := true } src = v at *
  have path : v.path = s.path := heard.path
  have cfg : v.cfg = s.cfg := (eq_of_core_cfg core).trans (takenFrom_cfg s t src)
  have fits : (chars.map charOf).length ≤ v.roomFor n (dataOutFlagsOf flags).flush := by
    rw [List.length_map, roomFor_congr path heard.free cfg]
    exact room
  have stored := acceptData_stored fits hy
  rw [path] at stored
  exact ⟨v, y, core, path, heard.holds, hy, metered, reason, stored⟩

/-- The record of the session after the event of an accepted DATA-OUT (R41). -/
theorem Stored.settled_record {v w : State} {n : LineNo} {q : Queue} {x y : Session} {f : DataOutFlags} (h : Stored v w n q (y.flags f))
    (running : v.loader = .running) (session : v.st n = .session) (metered : y.metered = x.metered) (reason : y.reason = x.reason) (before : State)
    (every : Bool) :
    ∃ z, (w.settle before every).sess[n] = some z ∧ z.metered = (x.flags f).metered ∧
      (z.endMark = true → (served w).path[n].drained = true →
        z.reason = some (x.reason.getD .ended) ∧ (x.reason = none → (w.settle before every).asks[n].close = true)) := by
  have started : w.started = true := decide_eq_true (h.loader.trans running)
  have st : w.st n = .session := by
    unfold State.st
    rw [h.sup]
    exact session
  obtain ⟨sess, asks⟩ := settle_report started before every n
  have tested := holdTest_reason w (y.flags f)
  have meteredZ := eq_of_kept_metered (settle_kept w before every) n
  rw [h.sess, Option.map_some] at sess asks meteredZ
  rw [st] at sess asks
  rw [sess, Option.map_some, Option.some.injEq] at meteredZ
  have all := meteredZ.trans (flags_metered metered f)
  refine ⟨_, sess, all, fun mark drained => ?_⟩
  have markY : (y.flags f).endMark = true :=
    ((congrArg Session.endMark meteredZ : (endedAt _ _ _).metered.endMark = (y.flags f).metered.endMark).symm.trans mark)
  have markT := tested.2.trans markY
  have reasonT : (w.holdTest (y.flags f)).reason = x.reason := tested.1.trans reason
  rw [drained] at asks ⊢
  refine ⟨?_, fun open' => ?_⟩
  · rw [show endedAt true .session (w.holdTest (y.flags f)) = closedBy .ended (w.holdTest (y.flags f)) from if_pos ⟨rfl, rfl, markT⟩,
      closedBy_reason_eq, reasonT]
  · rw [asks]
    unfold askedAt
    rw [if_neg fun e => LineState.noConfusion e.2, if_pos ⟨rfl, rfl, _, rfl, markT, reasonT.trans open'⟩]

/-- An accepted DATA-OUT (R40, R41, R44). -/
theorem leads_accepted (comes : Comes s t src) {n : LineNo} {x : Session} (hx : s.sess[n] = some x) (named : s.dataOutLine src line = some n)
    (room : chars.length ≤ s.roomFor n (flags.getLsbD 3)) (holds : ∀ m : LineNo, s.entersHold m = false) :
    Leads (.dataOut t src line flags chars) s fun u =>
      u.echo = true ∧ u.sup = s.sup ∧ u.path[n].inQ = s.path[n].inQ ∧ u.counters.dataOutRefused = s.counters.dataOutRefused ∧
        (∃ y : Session, u.sess[n] = some y ∧ y.endMark = (x.endMark || flags.getLsbD 2) ∧ y.units = x.units ∧
          y.echo = (if flags.getLsbD 0 = flags.getLsbD 1 then x.echo else flags.getLsbD 0) ∧
          (y.endMark = true → s.path[n].slot = none → s.path[n].tx = none → s.path[n].owed = none →
            (s.path[n].outQ.chars = [] ∨ flags.getLsbD 3 = true) → chars = [] →
            y.reason = some (x.reason.getD .ended) ∧ (x.reason = none → u.asks[n].close = true))) ∧
        (s.path[n].slot = none →
          let p := s.path[n]
          let q := (if flags.getLsbD 3 then Queue.empty else p.outQ).append (chars.map fun b => b.setWidth 7)
          u.path[n].slot = none ∧ u.path[n].paused = p.paused ∧ u.path[n].owed = p.owed ∧
            (p.tx.isSome = true → u.path[n].tx = p.tx ∧ u.path[n].outQ = q) ∧
            (p.tx = none → p.owed = some .xon → u.path[n].tx = some 0x11 ∧ u.path[n].outQ = q) ∧
            (p.tx = none → p.owed = some .xoff → u.path[n].tx = some 0x13 ∧ u.path[n].outQ = q) ∧
            (p.tx = none → p.owed = none → p.paused = true ∨ q.chars = [] → u.path[n].tx = none ∧ u.path[n].outQ = q) ∧
            ∀ (c : Char7) (rest : List Char7), p.tx = none → p.owed = none → p.paused = false → q.chars = c :: rest →
              u.path[n].tx = some (c.setWidth 8) ∧ u.path[n].outQ = q.remove 1) := by
  obtain ⟨v, y, core, path, noHold, hy, metered, reason, stored⟩ := dataOut_accepted comes hx named room holds (flags := flags)
  have st : v.st n = .session := by
    rw [eq_of_core_st core, takenFrom_st]
    exact ((sessionOf_isSome_iff s n src).mp ((dataOutLine_eq_some_iff s src line n).mp named).2).1
  have running : v.loader = .running := (eq_of_core_loader core).trans ((takenFrom_loader s t src).trans comes.running)
  refine leads_of_take (t := t) rfl rfl ?_
  generalize (s.at t).dataOut src line flags (chars.map charOf) = w at *
  have kept := settle_kept w (s.at t) false
  have record := stored.settled_record running st metered reason (s.at t) false
  have output (slot : s.path[n].slot = none) := stored.settled_path hy (noHold n) running st (by rw [path]; exact slot) (s.at t) false
  rw [path] at output
  obtain ⟨z, hz, meteredZ, ends⟩ := record
  generalize w.settle (s.at t) false = u at *
  refine ⟨?_, ?_, ?_, ?_, ⟨z, hz, ?_, ?_, ?_, fun mark slot tx owed empty none' => ends mark ?_⟩, fun slot => ?_⟩
  · rw [eq_of_kept_echo kept, stored.echo, eq_of_core_echo core]
    rfl
  · rw [eq_of_kept_sup kept, stored.sup, eq_of_core_sup core]
    exact takenFrom_sup
  · have inQ : u.path[n].inQ = w.path[n].inQ := (congrArg Path.inQ (eq_of_kept_inward kept n) : u.path[n].inward.inQ = w.path[n].inward.inQ)
    rw [inQ, stored.path, path]
  · have counters := (OwnEchoes.settled_counters kept).trans ((congrArg Counters.settled stored.counters).trans (eq_of_core_counters core))
    rw [takenFrom_counters] at counters
    exact (congrArg Counters.dataOutRefused counters : (Counters.settled u.counters).dataOutRefused = (Counters.settled s.counters).dataOutRefused)
  · exact (congrArg Session.endMark meteredZ : z.metered.endMark = (x.flags (dataOutFlagsOf flags)).metered.endMark)
  · exact (congrArg Session.units meteredZ : z.metered.units = (x.flags (dataOutFlagsOf flags)).metered.units)
  · exact (congrArg Session.echo meteredZ : z.metered.echo = (x.flags (dataOutFlagsOf flags)).metered.echo).trans (echo_flags x _)
  · have nothing : (sentQueue s.path[n].outQ (flags.getLsbD 3) (chars.map charOf)).chars = [] := by
      rw [none']
      unfold sentQueue
      rcases empty with empty | flush
      · split
        · rfl
        · exact (List.append_nil _).trans empty
      · rw [if_pos flush]
        rfl
    rw [(output slot).2, started_still (p := { s.path[n] with outQ := sentQueue s.path[n].outQ (flags.getLsbD 3) (chars.map charOf) }) tx owed (.inr nothing)]
    unfold Path.drained
    dsimp only
    rw [nothing, slot, tx]
    rfl
  · obtain ⟨flow, e⟩ := (output slot).1
    intro p q
    have queue : sentQueue s.path[n].outQ (flags.getLsbD 3) (chars.map charOf) = q := rfl
    rw [queue] at e
    obtain ⟨-, paused, owed⟩ := started_same { p with outQ := q }
    rw [e]
    refine ⟨(started_slot _).trans slot, paused, owed, fun sends => ?_, fun tx owes => ?_, fun tx owes => ?_, fun tx owes still => ?_,
      fun c rest tx owes open' chars => ?_⟩
    · rw [started_tx { p with outQ := q } (Option.isSome_iff_ne_none.mp sends)]
      exact ⟨rfl, rfl⟩
    · rw [started_flow (p := { p with outQ := q }) .xon tx owes]
      exact ⟨rfl, rfl⟩
    · rw [started_flow (p := { p with outQ := q }) .xoff tx owes]
      exact ⟨rfl, rfl⟩
    · rw [started_still (p := { p with outQ := q }) tx owes still]
      exact ⟨tx, rfl⟩
    · rw [started_char (p := { p with outQ := q }) tx owes open' chars]
      exact ⟨rfl, rfl⟩

/-- A FLOW of the session's channel station (R43). -/
theorem leads_flow (comes : Comes s t src) {n : LineNo} (named : line.toNat = n.val) (found : (s.sessionOf n src).isSome = true)
    (known : state = 0 ∨ state = 1) :
    Leads (.flow t src line state) s fun u =>
      u.path[n].channelHold = decide (state = 1) ∧ u.echo = true ∧ u.path[n].inQ = s.path[n].inQ ∧ u.sup = s.sup := by
  have core := comes.hear_core
  refine leads_of_take (t := t) rfl (comes.takeOwn fun s => s.noteFlow src line state) ?_
  generalize State.hear { s.at t with echo := true } src = v at *
  have foundV : (v.sessionOf n src).isSome = true := by rw [sessionOf_of_core core, takenFrom_sessionOf]; exact found
  have noted : v.noteFlow src line state = v.updPath n fun p => { p with channelHold := decide (state = 1) } := by
    unfold State.noteFlow
    rw [lineOf_of_eq named]
    rcases known with rfl | rfl <;> exact if_pos foundV
  rw [noted]
  have kept := settle_kept (v.updPath n fun p => { p with channelHold := decide (state = 1) }) (s.at t) false
  have inward := (eq_of_kept_inward kept n).trans (congrArg Path.inward (updPath_self v n fun p => { p with channelHold := decide (state = 1) }))
  generalize (v.updPath n fun p => { p with channelHold := decide (state = 1) }).settle (s.at t) false = u at *
  refine ⟨(congrArg Path.channelHold inward : u.path[n].inward.channelHold = _), ?_, ?_, ?_⟩
  · exact (eq_of_kept_echo kept).trans (eq_of_core_echo core)
  · have inQ : u.path[n].inQ = v.path[n].inQ := (congrArg Path.inQ inward : u.path[n].inward.inQ = _)
    have taken := eq_of_core_inward core n
    rw [takenFrom_path] at taken
    exact inQ.trans (congrArg Path.inQ taken : v.path[n].inward.inQ = s.path[n].inward.inQ)
  · exact (eq_of_kept_sup kept).trans ((eq_of_core_sup core).trans takenFrom_sup)

/-- A FLOW of another station, or with a reserved state, is ignored (R43, R173). -/
theorem flow_ignored (comes : Comes s t src)
    (stray : (∀ n : LineNo, line.toNat = n.val → (s.sessionOf n src).isSome = false) ∨ 2 ≤ state.toNat) :
    GivesHeard (.flow t src line state) s { (s.at t).heard src with echo := true } := by
  refine givesHeard_of_take (t := t) rfl ?_
  rw [event_core, comes.takeOwn]
  have core := comes.hear_core
  generalize State.hear { s.at t with echo := true } src = v at *
  have ignored : v.noteFlow src line state = v := by
    unfold State.noteFlow
    split
    · next n f hn hf =>
      refine if_neg fun found => ?_
      rw [sessionOf_of_core core, takenFrom_sessionOf] at found
      rcases stray with nobody | reserved
      · rw [nobody n (toNat_of_lineOf hn)] at found
        cases found
      · unfold flowStateOf at hf
        split at hf
        · omega
        · omega
        · cases hf
    · rfl
  rw [ignored]
  exact core

end

/-- Settles O46: the own FLOW state follows the room after the event, channel-hold the roster and the frames, and a DATA-OUT is refused, discarded or
stored by what its line and its room are when it comes. -/
theorem channelFramesAreAcceptedOrRefused : Obligations.ChannelFramesAreAcceptedOrRefused := by
  refine ⟨fun c s u loading flows h => ⟨exec_flowOk flows h, fun running n allowance => Flows.exec_flow loading flows h running n allowance⟩,
    fun t src p dest s running => leads_channelHold t src p dest s running, fun t src line flags state chars s running other bus => ?_⟩
  have comes : Comes s t src := ⟨running, other, bus⟩
  exact ⟨fun n named room => dataOut_refused comes named room, dataOut_discarded comes,
    fun n x hx named room holds => leads_accepted comes hx named room holds, fun n named found known => leads_flow comes named found known,
    flow_ignored comes⟩

end Sys2Proof.Proofs.ChannelFrames
end
